-- ==== Sys2Proof/Word.lean ====
section
/-! DEFINITION. The words the manual counts in (R6) and the index ranges of the resource numbering (R10). -/

namespace Sys2Proof

/-- One byte. -/
abbrev Byte := BitVec 8
/-- A 16-bit field of a message or descriptor. -/
abbrev Half := BitVec 16
/-- A 32-bit register of the direct window (R26). -/
abbrev Word := BitVec 32
/-- A 64-bit quantity. -/
abbrev DWord := BitVec 64
/-- A byte string, lowest offset first. -/
abbrev Bytes := List (BitVec 8)

/-- A transport of the window, coded as HIU_ERR.FIRST_SRC (R37):
0 is PF, 1 to 15 are VF1 to VF15, 16 is SPI0 and 17 is SPI1. -/
abbrev Transport := Fin 18
/-- Host slots S0 to S15 (R10, R49). -/
abbrev Slot := Fin 16
/-- External Ethernet ports P0 to P24 (R10). -/
abbrev Port := Fin 25
/-- Fabric ports F0 to F27 (R10, R13). -/
abbrev FPort := Fin 28
/-- Traffic classes TC0 to TC7 (R10). -/
abbrev TC := Fin 8
/-- CAN channels CAN0 to CAN15 (R10). -/
abbrev CanCh := Fin 16
/-- LIN channels LIN0 to LIN3 (R10). -/
abbrev LinCh := Fin 4
/-- Serial channels UART0 to UART5 (R10). -/
abbrev UartCh := Fin 6
/-- Relay engines E0 to E11 (R10). -/
abbrev Engine := Fin 12
/-- Local time in nanoseconds (R6). -/
abbrev Nanos := Nat

end Sys2Proof
end

