-- ==== Sys2Proof/Operand.lean ====
section
/-! DEFINITION. The structured operands of commands: what an event brings from outside the block. -/

namespace Sys2Proof

/-- One descriptor as the device reads it from host memory (R119, R124, R127): its 32 bytes, the data its buffer holds,
and whether the access ended in a PCIe error (R117, DMA_ERR). -/
structure DescRead where
  /-- The 32 bytes of the descriptor. -/
  desc : Bytes
  /-- The bytes the buffer holds (transmit). -/
  data : Bytes
  /-- The host-memory access ended in a PCIe error. -/
  dmaErr : Bool
deriving DecidableEq, Repr, Inhabited

/-- One conversion of the measurement front-ends (R494): VBAT and the seven rails in mV, the rail powers in mW, the six sensors
in 0.25 °C, and the twelve camera currents in mA. -/
structure Sample where
  vbat : Nat
  rails : List Nat
  powers : List Nat
  temps : List Int
  currents : List Nat
deriving DecidableEq, Repr, Inhabited

/-- How a reception broke off (R150, R258): fragments that failed to reassemble, and how many had come. -/
structure RxFault where
  assembly : Bool
  fragments : Nat
deriving DecidableEq, Repr, Inhabited

/-- What an MKA frame makes firmware do (R424); the protocol itself is IEEE 802.1X's, which is not in the spec. -/
inductive MkaAction where
  /-- A distributed SAK, as unwrapped, goes into key slot `key`, and association `sa` is installed with this 48-byte record. -/
  | install (sa key : Nat) (record value : Bytes)
  /-- The port's transmit association of this AN is activated. -/
  | activate (an : Nat)
  /-- Association `sa` is deleted. -/
  | delete (sa : Nat)
  /-- The partner is an MKA peer, or has been lost (R498). -/
  | peer (live : Bool)
deriving DecidableEq, Repr, Inhabited

/-- What the debugger's port reaches (R111): a management core or a relay engine. -/
inductive DebugTarget where
  | core (c : Fin 2)
  | engine (e : Fin 12)
deriving DecidableEq, Repr, Inhabited

/-- A debugger's access (R111, R411). On an engine, `ctx` is the context whose main run is reached and an offset lies in its scratch
memory; on a core, an offset lies in its tightly coupled memory, or from 0x0040_0000 in retention SRAM (log 73). -/
inductive DebugAction where
  | halt | release | step
  | readReg (ctx : Fin 4) (r : Nat)
  | writeReg (ctx : Fin 4) (r : Nat) (v : Word)
  | readMem (ctx : Fin 4) (off : Nat)
  | writeMem (ctx : Fin 4) (off : Nat) (v : Word)
deriving DecidableEq, Repr, Inhabited

/-- A fault that strikes a check run (R397): the bits of its `at_`-th committed value, as the run holds it, that it inverts. -/
structure Strike where
  at_ : Nat
  bits : Word
deriving DecidableEq, Repr, Inhabited

end Sys2Proof
end

