-- ==== Sys2Proof/Syntax.lean ====
section
/-! DEFINITION. The commands of the block: one constructor per row of spec/opcode_table.json. A register or window access
carries its transport, address and data; a Penyen command carries the requesting slot, its TAG and its payload (R64); an
event carries the port, channel, engine or slot it happens at and what the outside world decides. -/

namespace Sys2Proof

/-- A command. -/
inductive Instr where
  /-- REGISTER_WRITE (R30): A 32-bit write to a window register that has no row of its own; it acts as the field's access type lays down, with the size, decode, permission and lock checks. -/
  | registerWrite (t : Transport) (addr : Nat) (data : Bytes)
  /-- ALIAS_WRITE (R33): A write to the bit-band alias acts on one bit as one indivisible read-modify-write. -/
  | aliasWrite (t : Transport) (addr : Nat) (data : Bytes)
  /-- EVU_CAUSE_WRITE (R39): A write to EVU_CAUSEn clears W1C bits and sends a fresh MSI-X message for any vector left pending. -/
  | evuCauseWrite (t : Transport) (n : Slot) (v : Word)
  /-- EVU_MASK_WRITE (R39): A write to EVU_MASKn changes the enabled causes and sends a message for any vector left pending. -/
  | evuMaskWrite (t : Transport) (n : Slot) (v : Word)
  /-- HOLDOFF_EXPIRY (R39): The holdoff of a vector ends, and one merged message is sent if the vector is still pending. -/
  | holdoffExpiry (n : Slot) (v : (Fin 8))
  /-- EVU_BOOT_EVT_WRITE (R41): A write of 1 to EVU_BOOT_EVT.STATE_CHANGE clears it and releases IRQ_N for the boot event. -/
  | evuBootEvtWrite (t : Transport) (v : Word)
  /-- CMU_COMMIT (R44): A write to CMU_COMMIT accepts an immediate commit of the groups in its mask and sets BUSY. -/
  | cmuCommit (t : Transport) (v : Word)
  /-- COMMIT_APPLY (R44): An accepted commit applies every shadow of its groups on one fabric clock, updates CMU_LAST_TIME and sets COMMIT in every slot. -/
  | commitApply
  /-- CMU_COMMIT_AT_WRITE (R45): A write to CMU_COMMIT_AT stores the instant, or is ignored with ARM_ERR while ARM is 1. -/
  | cmuCommitAtWrite (t : Transport) (v : Word)
  /-- COMMIT_ARM (R45): Writing ARM arms the timed commit, applies it at once with LATE if its instant is past, or refuses with ARM_ERR. -/
  | commitArm (t : Transport) (v : Word)
  /-- COMMIT_CANCEL (R45): Writing CANCEL disarms an armed timed commit and sets CANCELLED and COMMIT. -/
  | commitCancel (t : Transport) (v : Word)
  /-- TIMED_COMMIT_FIRE (R45): The armed instant is reached, and the timed commit applies and sets FIRED. -/
  | timedCommitFire
  /-- SPI_WRITE (R97): An SPI transaction with command 0x02 writes whole data words into the window and returns the status word. -/
  | spiWrite (p : (Fin 2)) (addr : Nat) (words : (List Word)) (spare : Bool)
  /-- SPI_READ (R97): An SPI transaction with command 0x0B reads data words from the window after four wait bytes. -/
  | spiRead (p : (Fin 2)) (addr : Nat) (count : Nat)
  /-- SPI_BAD_COMMAND (R97): An SPI transaction with another command byte or a non-zero address bit 23 or 22 is ignored and reported in the status word. -/
  | spiBadCommand (p : (Fin 2)) (cmd : Byte) (addr : (BitVec 24))
  /-- MBX_REQ_HEAD_WRITE (R60): The host advances MBX_REQ_HEAD, ringing the doorbell for new requests. -/
  | mbxReqHeadWrite (t : Transport) (n : Slot) (v : Word)
  /-- REQUEST_TAKE (R65): The device takes the next request of a slot when fewer than 8 are in flight and checks it in order. -/
  | requestTake (n : Slot)
  /-- RESPONSE_WRITE (R63): A response is written to the response buffer once it has room, MBX_RSP_HEAD advances and RESP is set. -/
  | responseWrite (n : Slot)
  /-- MBX_RSP_TAIL_WRITE (R63): The host advances MBX_RSP_TAIL and frees response-buffer room. -/
  | mbxRspTailWrite (t : Transport) (n : Slot) (v : Word)
  /-- DONE_EVENT (R68): The work of an accepted command finishes and a DONE event with its final status is written. -/
  | doneEvent (n : Slot)
  /-- MBX_EVT_TAIL_WRITE (R78): The host advances MBX_EVT_TAIL, freeing entries so that held DONE events are written. -/
  | mbxEvtTailWrite (t : Transport) (n : Slot) (v : Word)
  /-- ENVELOPE_RECEIVE (R81): A Penyen envelope frame reaches F27 and is verified and taken as a request, or dropped and counted. -/
  | envelopeReceive (p : Port) (dst : (BitVec 48)) (src : (BitVec 48)) (vid : (BitVec 12)) (body : Bytes)
  /-- LANDING_BUFFER_WRITE (R535): A write to the landing buffer is stored or refused according to the boot state and owner. -/
  | landingBufferWrite (t : Transport) (off : Nat) (data : Bytes)
  /-- BOOT_XFER_GO (R93): A write of BOOT_XFER with GO hands a chunk to the boot ROM, claiming the buffer on FIRST, after the sequence checks. -/
  | bootXferGo (t : Transport) (v : Word)
  /-- CHUNK_DONE (R106): The ROM finishes copying and hashing a chunk, runs the header checks, and clears GO. -/
  | chunkDone
  /-- BOOT_OWNER_TIMEOUT (R94): No GO arrives from the owner for 2 s in RECEIVING; the ROM sets SEQUENCE and frees the buffer. -/
  | bootOwnerTimeout
  /-- VERIFY_DONE (R100): The signature check ends in VERIFYING; on success the ROM zeroes the buffer and releases the cores, otherwise returns to WAIT_IMAGE. -/
  | verifyDone
  /-- FIRMWARE_START (R50): Firmware starts, binds S0, sets HIU_WRITE_PERMIT and sets BOOT_STATE to RUNNING. -/
  | firmwareStart
  /-- DIE_START (R517): The digital die starts once all rails are good and RESET_N is high, and the boot ROM decides HALTED, RESUME_CHECK or WAIT_IMAGE. -/
  | dieStart (straps : (BitVec 2)) (fuses : Bool)
  /-- SEAL_CHECK_DONE (R104): The seal CMAC is recomputed; a match resumes firmware, a mismatch zeroes retention SRAM and waits for an image. -/
  | sealCheckDone (disturbed : (List (Nat × Byte)))
  /-- RESET_N_ASSERT (R518): RESET_N goes low, holding the digital die in reset or waking PD0 as for a wake. -/
  | resetNAssert
  /-- RESET_N_RELEASE (R518): RESET_N is released and the device starts cold with cause RESET_N. -/
  | resetNRelease
  /-- POWER_ON_RESET (R514): VBAT crosses the power-on reset threshold, clearing or releasing PD0 and its records. -/
  | powerOnReset (above : Bool)
  /-- WATCHDOG_EXPIRY (R89): The firmware watchdog expires and the device resets cold with cause WATCHDOG. -/
  | watchdogExpiry
  /-- RAIL_FAULT (R513): A rail leaves its window for 10 µs, clearing its GOOD bit and acting as its row states, brownout reset included. -/
  | railFault (r : (Fin 7))
  /-- RAIL_GOOD (R513): A rail returns to its window and its service resumes. -/
  | railGood (r : (Fin 7))
  /-- THERMAL_SHUTDOWN (R515): A sensor reaches the shutdown temperature; PD0 releases INH0 and INH1 and records THERMAL. -/
  | thermalShutdown
  /-- THERMAL_RECOVERY (R515): Every edge sensor stays below 120 °C for 1 s; PD0 asserts INH0 and the device starts cold. -/
  | thermalRecovery
  /-- JTAG_UNLOCK_TOKEN (R110): A token written to the JTAG unlock data register is checked against the current challenge. -/
  | jtagUnlockToken (token : Bytes)
  /-- DEBUGGER_WRITE (R411): An unlocked debugger halts, steps or writes the main run of an engine, and the write is logged for replay. -/
  | debuggerWrite (e : DebugTarget) (action : DebugAction)
  /-- RING_CTRL_ENABLE (R118): Writing ENABLE from 0 to 1 starts a ring at descriptor 0, or sets CFG_ERR on a bad size. -/
  | ringCtrlEnable (t : Transport) (n : Slot) (r : (Fin 8)) (v : Word)
  /-- RING_CTRL_DISABLE (R120): Writing ENABLE from 1 to 0 stops descriptor fetching at once. -/
  | ringCtrlDisable (t : Transport) (n : Slot) (r : (Fin 8)) (v : Word)
  /-- RING_TAIL_WRITE (R119): The host advances a ring's TAIL, and the device fetches the descriptors it covers. -/
  | ringTailWrite (t : Transport) (n : Slot) (r : (Fin 8)) (v : Word) (descs : (List DescRead))
  /-- RING_FETCH_RETRY (R119): 10 µs after finding OWN clear, the device reads the stopped descriptor again. -/
  | ringFetchRetry (n : Slot) (r : (Fin 8)) (descs : (List DescRead))
  /-- TX_DESCRIPTOR_RETURN (R124): Every copy of a transmitted frame has left or been dropped; the descriptor returns with status, copies and time-stamp. -/
  | txDescriptorReturn (n : Slot) (r : (Fin 8))
  /-- CAN_TX_DESCRIPTOR_RETURN (R127): A CAN transmit descriptor returns once its frames are queued or sent, or its lifetime expires. -/
  | canTxDescriptorReturn (n : Slot) (r : (Fin 8))
  /-- RX_RING_DELIVER (R126): A frame reaching F25 is written to the slot's chosen receive ring, or dropped and counted. -/
  | rxRingDeliver (n : Slot) (wb : (Option Nat)) (descs : (List DescRead))
  /-- FRAME_START (R131): The first destination-address byte arrives at a receive MAC, latching MAX_FRAME and the ingress time-stamp. -/
  | frameStart (p : Port) (preempt : Bool)
  /-- HEADER_HANDOVER (R129): Byte 128 or the frame end reaches the receive MAC and the header runs stages 1 to 6, ending in waybills or a refusal. -/
  | headerHandover (p : Port) (bytes : Bytes)
  /-- DEEP_RULE_PASS (R175): Byte 272 or the frame end arrives and the second Customs pass evaluates the windows of pending deep rules. -/
  | deepRulePass (p : Port) (bytes : Bytes)
  /-- OVERSIZE_REFUSE (R131): A byte beyond MAX_FRAME arrives; the frame is refused and any waybill revoked. -/
  | oversizeRefuse (p : Port) (bytes : Bytes)
  /-- RX_ERROR (R150): A receive error or ingress link loss ends a frame's reception at that point. -/
  | rxError (p : Port) (bytes : Bytes) (assembly : RxFault)
  /-- FRAME_END (R158): A frame's last byte reaches the receive MAC, and it is counted in one outcome counter. -/
  | frameEnd (p : Port) (bytes : Bytes) (fcsOk : Bool) (icvOk : Bool) (fragments : Nat)
  /-- CONFIRMATION (R150): Within 40 ns of frame end the frame is confirmed or revoked on one clock, with all its waybills. -/
  | confirmation (p : Port)
  /-- CELL_TIME_MATCH (R199): In each cell time the matcher serves feeds and runs up to four request-grant-accept rounds to pair inputs and outputs. -/
  | cellTimeMatch
  /-- EGRESS_CHOICE (R214): At a choice point the port chooses the next frame among eligible queues, dropping late or oversize heads. -/
  | egressChoice (p : Port) (startPs : Nat)
  /-- TX_COMPLETE (R204): A copy's last byte leaves its port or host ring; its waybill becomes FREE and cells return when no copy holds them. -/
  | txComplete (p : Port)
  /-- SHAPER_REFILL (R221): Every 256 ns each shaper's credit grows by its rate, up to BURST, applying any new parameters. -/
  | shaperRefill
  /-- GATE_ENTRY_BOUNDARY (R243): A gate list moves to its next entry, opening or closing gates and asserting or releasing hold. -/
  | gateEntryBoundary (p : Port)
  /-- HOLD_ASSERT (R257): HOLD_ADVANCE before a SET_AND_HOLD entry, hold is asserted and a preemptable frame is cut. -/
  | holdAssert (p : Port)
  /-- GATE_CONFIG_CHANGE (R247): At the configuration-change time the administrative list becomes operational and GATE_CHANGED is written. -/
  | gateConfigChange (p : Port)
  /-- PREEMPT_VERIFY_RESPONSE (R253): A verify response arrives and preemption on the port becomes ACTIVE. -/
  | preemptVerifyResponse (p : Port)
  /-- PREEMPT_VERIFY_TIMEOUT (R253): VERIFY_TIME passes without a response; the port retries or goes to FAILED after 3 attempts. -/
  | preemptVerifyTimeout (p : Port)
  /-- LINK_DOWN (R209): An external link goes down, losing the frame on the line and starting LINK_HOLD. -/
  | linkDown (p : Port)
  /-- LINK_UP (R210): A link comes back before its hold expires and the port resumes with its queues in order. -/
  | linkUp (p : Port) (sqi : (Fin 8))
  /-- LINK_HOLD_EXPIRY (R211): LINK_HOLD expires and the port's waybills are flushed. -/
  | linkHoldExpiry (p : Port)
  /-- FDB_AGE_SWEEP (R142): The ageing sweep removes dynamic entries not refreshed for AGE_TIME. -/
  | fdbAgeSweep
  /-- CONVERSATION_SWEEP (R180): The sweep removes conversations that have passed their timeout. -/
  | conversationSweep
  /-- STREAM_GATE_ENTRY (R234): A stream gate moves to its next entry or starts its list after a commit. -/
  | streamGateEntry (g : (Fin 64))
  /-- QUEUE_SAMPLE (R235): At a multiple of PERIOD the depth and sojourn of a sampled queue enter its histograms. -/
  | queueSample (p : Port) (tc : TC)
  /-- GENERATION_RETIRED (R189): No waybill or job carries the old generation; the partition returns to IDLE and its staging is refreshed. -/
  | generationRetired
  /-- TIMED_SWAP_FIRE (R189): The instant of a timed Customs or route swap is reached and the staging banks become active. -/
  | timedSwapFire
  /-- FRER_RESET_TIMER (R294): A recovery instance's reset timer expires and TAKE_ANY is set. -/
  | frerResetTimer (key : (Fin 256))
  /-- HEALTH_REPORT (R301): The local clock crosses a whole second and RED_HEALTH goes to subscribed slots. -/
  | healthReport
  /-- PROBE_SEND (R300): Every PROBE_PERIOD each member sends a path probe. -/
  | probeSend (p : (Fin 2))
  /-- PROBE_RECEIVE (R300): A path probe is absorbed by the receive MAC and updates the member's status. -/
  | probeReceive (p : (Fin 2)) (flags : Byte) (seq : Word)
  /-- PROBE_MISS_TIMEOUT (R297): No probe arrives on a member for PROBE_MISS periods, making it faulty. -/
  | probeMissTimeout (p : (Fin 2))
  /-- SQI_HOLD_EXPIRY (R297): A member's SQI stays below SQI_MIN for SQI_HOLD, making it faulty. -/
  | sqiHoldExpiry (p : (Fin 2))
  /-- WTR_EXPIRY (R298): A wait-to-restore ends and protection returns to ON_A. -/
  | wtrExpiry
  /-- TU_INCR_INT_WRITE (R271): A write to TU_INCR_INT applies the new increment on the next tick. -/
  | tuIncrIntWrite (t : Transport) (v : Word)
  /-- TU_STEP_HI_WRITE (R272): A write to TU_STEP_HI steps the local clock once per epoch and writes TIME_STEPPED. -/
  | tuStepHiWrite (t : Transport) (v : Word)
  /-- TU_NOW_LO_READ (R270): A read of TU_NOW_LO latches NS_HI and FRAC for the reading transport. -/
  | tuNowLoRead (t : Transport)
  /-- ALARM_FIRE (R276): An armed alarm reaches its instant, clears ENABLE and sets FIRED and TIME. -/
  | alarmFire (n : (Fin 16))
  /-- TIME_IO_EDGE (R284): A selected edge on a CAPTURE pin is stamped. -/
  | timeIoEdge (n : (Fin 6)) (falling : Bool)
  /-- CAPTURE_FILTER_END (R284): The pin holds its level for FILTER_US and the capture is kept, or lost on overflow, and reported. -/
  | captureFilterEnd (n : (Fin 6)) (high : Bool)
  /-- CAP_POP_WRITE (R284): Writing CAP_POP removes the oldest capture. -/
  | capPopWrite (t : Transport) (n : (Fin 6)) (v : Word)
  /-- TIME_IO_PULSE_EDGE (R285): A PERIODIC or TRIGGER pin reaches a pulse edge, counting pulses and stopping after COUNT. -/
  | timeIoPulseEdge (n : (Fin 6))
  /-- SYNC_RECEIVE (R279): A gPTP Sync reaches an instance, which steps or slews the local clock or updates its tracked pair. -/
  | syncReceive (inst : (Fin 4)) (gm : DWord) (domain : Nat) (rate : Int)
  /-- SYNC_TIMEOUT (R278): SYNC_TIMEOUT expires and the instance goes to HOLDOVER. -/
  | syncTimeout (inst : (Fin 4))
  /-- SYNC_TRANSMIT (R283): Each sync interval a master instance sends Sync, one-step or with Follow_Up. -/
  | syncTransmit (inst : (Fin 4)) (p : Port)
  /-- PDELAY_EXCHANGE (R277): Each pdelay interval the port measures mean link delay. -/
  | pdelayExchange (p : Port) (delay : Nat) (lost : Bool)
  /-- CAN_FRAME_VALID (R342): A CAN frame becomes valid and is filtered into a FIFO, the shadow slot or dropped. -/
  | canFrameValid (c : CanCh) (id : Nat) (format : Nat) (af : Nat) (sdt : Nat) (vcid : Nat) (data : Bytes) (sof : Nat)
  /-- CAN_PROTOCOL_EXCEPTION (R325): A frame in a format that is not enabled triggers the protocol exception or a form error. -/
  | canProtocolException (c : CanCh) (xl : Bool)
  /-- CAN_BUS_ERROR (R347): A bus error is detected, counted by kind and moves the error counters and error state. -/
  | canBusError (c : CanCh) (kind : (Fin 6)) (primary : Bool)
  /-- CAN_ATTEMPT_END (R339): A transmit attempt ends in success, lost arbitration or error, deciding retry or outcome. -/
  | canAttemptEnd (c : CanCh) (outcome : (Fin 3)) (stamp : Nat)
  /-- CAN_SLOT_LOAD (R337): The feeder loads a free slot with the candidate, or aborts a slot for an outranking candidate. -/
  | canSlotLoad (c : CanCh) (arb : Bool)
  /-- CAN_LAUNCH_REACHED (R334): A queued frame's LAUNCH instant is reached and it may leave for a slot. -/
  | canLaunchReached (c : CanCh)
  /-- CAN_LIFETIME_EXPIRY (R339): A queued frame's DEADLINE passes and it ends LIFETIME. -/
  | canLifetimeExpiry (c : CanCh)
  /-- CAN_MODE_APPLY (R327): A commanded channel state change takes effect at the end of the frame in progress. -/
  | canModeApply (c : CanCh)
  /-- CAN_RECOVERY_DONE (R349): 128 sequences of 11 recessive bits are seen and the channel enters NORMAL. -/
  | canRecoveryDone (c : CanCh)
  /-- CAN_DETECT_DWELL_END (R351): A rate-detection dwell ends and the next candidate is tried, or detection ends. -/
  | canDetectDwellEnd (c : CanCh)
  /-- DOMINANT_TIMEOUT (R330): The transmit output or the bus stays dominant past the timeout; the transceiver releases and counts it. -/
  | dominantTimeout (c : CanCh) (own : Bool)
  /-- VCC5_CHANGE (R330): VCC5 leaves or returns to its limits, holding or releasing the channels. -/
  | vcc5Change (good : Bool)
  /-- LIN_SCHEDULE_ENTRY (R361): A master's schedule entry delay ends and the next header is sent or skipped. -/
  | linScheduleEntry (c : LinCh)
  /-- LIN_HEADER_RECEIVED (R360): A protected identifier is received and a published response is sent from its buffer. -/
  | linHeaderReceived (c : LinCh) (id : (Fin 64)) (syncOk : Bool)
  /-- LIN_FRAME_RECEIVED (R360): A LIN response with a valid checksum becomes a FIFO entry, or a go-to-sleep is obeyed. -/
  | linFrameReceived (c : LinCh) (id : (Fin 64)) (data : Bytes) (stamp : Nat) (error : (Fin 4))
  /-- LIN_RESPONSE_TIMEOUT (R362): A master's response wait ends, counting NO_RESPONSE or PARTIAL. -/
  | linResponseTimeout (c : LinCh) (partly : Bool)
  /-- LIN_IDLE_SLEEP (R363): A slave's bus stays recessive for IDLE_S and it enters ASLEEP. -/
  | linIdleSleep (c : LinCh)
  /-- LIN_WAKE_DETECT (R364): A LIN wake is seen, waking the device or returning the channel to ACTIVE. -/
  | linWakeDetect (c : LinCh)
  /-- LIN_WAKE_RESUME (R364): 100 ms after a wake a master resumes its schedule at entry 0. -/
  | linWakeResume (c : LinCh)
  /-- UART_MESSAGE_END (R365): A gap or MAX_LEN ends a serial message, which becomes a FIFO entry or is discarded. -/
  | uartMessageEnd (c : UartCh) (data : Bytes) (stamp : Nat) (bad : Bool)
  /-- UART_ACCESS_WAIT_END (R367): The bus has been idle for the message's access time and transmission starts with DE. -/
  | uartAccessWaitEnd (c : UartCh)
  /-- UART_TX_END (R366): A message's last stop bit and DE_LAG pass and DE is released. -/
  | uartTxEnd (c : UartCh)
  /-- UART_ECHO_COLLISION (R368): An echoed byte differs; the device stops, counts COLLISION and retries. -/
  | uartEchoCollision (c : UartCh)
  /-- UART_LIFETIME_EXPIRY (R366): A queued message's DEADLINE passes and it ends LIFETIME. -/
  | uartLifetimeExpiry (c : UartCh)
  /-- RELAY_JOB_START (R373): An engine takes the next job of a source and runs the Customs check, route lookup, capture and main run. -/
  | relayJobStart (e : Engine) (snapshot : Bool)
  /-- CHECK_RUN_END (R401): A check run ends and its signature is compared, for an escorted job or a full standard window. -/
  | checkRunEnd (e : Engine) (source : Half) (strikes : (List Strike))
  /-- ESCORTED_TIMEOUT (R404): An escorted job is not compared 20 µs after its main run began and ends as a TIMEOUT mismatch. -/
  | escortedTimeout (e : Engine) (source : Half)
  /-- SELF_TEST_END (R406): An engine's self-test ends, returning it to service or retiring it. -/
  | selfTestEnd (e : Engine) (passed : Bool)
  /-- TUNNEL_WAIT_EXPIRY (R384): MAX_WAIT_US passes since a tunnel frame's first message and the frame is sent. -/
  | tunnelWaitExpiry (t : (Fin 256))
  /-- TUNNEL_FRAME_RECEIVE (R385): A tunnel frame reaches F26 and is unpacked into jobs, or dropped as NO_TUNNEL. -/
  | tunnelFrameReceive (bytes : Bytes) (stamp : Nat)
  /-- RNG_HEALTH_FAIL (R418): An entropy health test fails; CRYPT_RNG is written and the generator continues from its last seed. -/
  | rngHealthFail (test : (Fin 2))
  /-- RNG_RESEED (R418): Every 1 ms the deterministic generator is reseeded. -/
  | rngReseed
  /-- MKA_FRAME_RECEIVE (R424): An MKA frame reaches firmware, which installs, activates or deletes associations. -/
  | mkaFrameReceive (p : Port) (action : MkaAction)
  /-- CDI_ACQUIRE (R434): Writing ACQUIRE takes the CDI lock if it is free. -/
  | cdiAcquire (t : Transport)
  /-- CDI_RELEASE (R434): Writing RELEASE from the holder releases the lock and ends any operation. -/
  | cdiRelease (t : Transport)
  /-- CDI_KEYSEL_WRITE (R434): A write to CDI_KEYSEL selects the key and mode and ends any operation. -/
  | cdiKeyselWrite (t : Transport) (v : Word)
  /-- CDI_GO (R434): Writing GO processes the input block, opening an operation on the first GO. -/
  | cdiGo (t : Transport) (v : Word)
  /-- CDI_ABORT (R433): Writing ABORT ends the CDI operation. -/
  | cdiAbort (t : Transport) (v : Word)
  /-- CDI_BLOCK_DONE (R433): A CDI block finishes; DOUT becomes valid, GO clears and a FINAL sets DONE and the tag. -/
  | cdiBlockDone
  /-- REMASK_PASS (R453): During a rolling phase every 100 ms the key cells are re-masked slot by slot. -/
  | remaskPass
  /-- GRANT_TICK (R461): Every 10 µs the arbiter applies releases and ceiling, acts on overdue grants and grants or refuses requests. -/
  | grantTick
  /-- GUARD_CHECK (R465): Every 1 ms the measured package power raises or lowers the guard. -/
  | guardCheck
  /-- DOMAIN_OFF_TIMER (R458): A domain's condition has been false for 1 s and firmware switches it off. -/
  | domainOffTimer (d : (Fin 13))
  /-- DOMAIN_UP (R458): A domain's power-up ends and its configuration is restored. -/
  | domainUp (d : (Fin 13))
  /-- MEM_TEST_DONE (R460): The march test after a cold start ends, releasing its grant and reporting its outcome. -/
  | memTestDone (failed : Bool) (fail : Word)
  /-- BOARD_BUDGET_BOUNDARY (R466): At a millisecond boundary after a change, waiting camera ports are granted in port order. -/
  | boardBudgetBoundary
  /-- INRUSH_END (R317): INRUSH_MS passes and the port becomes POWERED or faults as INRUSH. -/
  | inrushEnd (k : (Fin 12)) (current : Nat)
  /-- PODL_FAULT (R318): A short or switch fault is detected and PODL_ENk is deasserted with the cause latched. -/
  | podlFault (k : (Fin 12)) (switch : Bool)
  /-- PODL_FAULT_TIMER (R318): An overload or undercurrent persists for its time and the port faults. -/
  | podlFaultTimer (k : (Fin 12)) (under : Bool)
  /-- TRAINING_START (R309): A link attempt starts, fast from stored coefficients or full. -/
  | trainingStart (p : Port)
  /-- TRAINING_DONE (R310): A training attempt ends UP or failed, accepting or rejecting coefficients and falling back in rate. -/
  | trainingDone (p : Port) (ok : Bool) (sqi : (Fin 8))
  /-- TRAIN_GRANT_RETRY (R461): 1 ms after a full-queue refusal a backbone port asks its grant again. -/
  | trainGrantRetry (p : Port)
  /-- COEFF_STORE (R308): After 1 s UP a T1 port's coefficients are written to retention SRAM. -/
  | coeffStore (p : Port)
  /-- SQI_SAMPLE (R311): Every 1 ms firmware samples each port's SQI. -/
  | sqiSample (p : Port) (sqi : (Fin 8))
  /-- TC10_SLEEP_REQUEST (R313): A partner's TC10 sleep request arrives and is accepted when ACCEPT_SLEEP is set. -/
  | tc10SleepRequest (p : Port)
  /-- TC10_WAKE_DETECT (R314): A TC10 wake pulse is detected, waking the device or starting training. -/
  | tc10WakeDetect (p : Port)
  /-- PLCA_BEACON_TIMEOUT (R315): A follower receives no beacon for 4 ms and goes DOWN. -/
  | plcaBeaconTimeout (p : Port)
  /-- GPIO_EDGE (R85): An edge of the chosen kind appears on an input GPIO. -/
  | gpioEdge (pin : (Fin 8)) (level : Bool)
  /-- GPIO_DEBOUNCE_END (R85): The new level holds for DEBOUNCE_US and SYS_GPIO is written. -/
  | gpioDebounceEnd (pin : (Fin 8))
  /-- WAKE_PIN_EVENT (R476): A debounced change on a WAKE pin wakes the device, aborts a sleep or writes SLEEP_PIN. -/
  | wakePinEvent (pin : (Fin 4)) (level : Bool)
  /-- HOST_WAKE (R477): An SPI chip select held low or a PCIE_PERST_N release wakes the device. -/
  | hostWake (path : (Fin 3))
  /-- CAN_WAKE_PATTERN (R478): A CAN wake pattern is seen, waking or starting the selective-wake decoder. -/
  | canWakePattern (c : CanCh)
  /-- CAN_WAKE_FRAME (R478): A decoded frame matches the selective-wake record and wakes the device. -/
  | canWakeFrame (c : CanCh) (id : Nat) (dlc : (Fin 9)) (data : Bytes)
  /-- WAKE_DECODER_IDLE (R478): The bus is idle for 1 ms and the selective-wake decoder stops. -/
  | wakeDecoderIdle (c : CanCh)
  /-- NM_REPEAT (R482): INTERVAL_MS passes and a channel enqueues its next NM frame. -/
  | nmRepeat (c : CanCh)
  /-- SEGMENT_QUIET (R483): A GOING segment meets its quiet condition and goes ASLEEP. -/
  | segmentQuiet (n : (Fin 64))
  /-- SLEEP_TIMEOUT (R483): TIMEOUT_MS passes with a segment not quiet; the sleep is forced or ends. -/
  | sleepTimeout
  /-- PREPARE_DONE (R486): PREPARE ends and PD0 latches the sleep commit, releasing INH0 at the point of no return. -/
  | prepareDone (sram : Bytes)
  /-- INH0_HOLD_END (R486): The 1 ms of released INH0 ends, and a wake registered within it asserts INH0. -/
  | inh0HoldEnd
  /-- DROVER_LOOP (R505): Every 20 ms the Drover takes a snapshot and evaluates its mandates in order, starting actions. -/
  | droverLoop (load : (List Nat)) (overran : Bool)
  /-- MEASUREMENT_SAMPLE (R494): Every 1 ms the supplies, rail powers and die sensors are converted. -/
  | measurementSample (x : Sample)
  /-- LLDP_RECEIVE (R498): An LLDP frame updates a port's partner record, writing MEAS_PARTNER on change. -/
  | lldpReceive (p : Port) (chassis : Bytes) (portId : Bytes) (ttl : Nat)
  /-- LLDP_TTL_EXPIRY (R498): LLDP is lost for three times its TTL and MEAS_PARTNER is written. -/
  | lldpTtlExpiry (p : Port)
  /-- SYS_GET_CAPS (R84): Returns the capability record. -/
  | sysGetCaps (slot : Slot) (tag : Half) (payload : Bytes)
  /-- SYS_GET_INFO (R537): Returns the 28-byte device record. -/
  | sysGetInfo (slot : Slot) (tag : Half) (payload : Bytes)
  /-- SYS_PING (R84): Returns the bytes sent. -/
  | sysPing (slot : Slot) (tag : Half) (payload : Bytes)
  /-- SYS_RESET (R84): Resets the device once its response has been written. -/
  | sysReset (slot : Slot) (tag : Half) (payload : Bytes)
  /-- SYS_GPIO_CONFIG (R85): Configures one GPIO pin. -/
  | sysGpioConfig (slot : Slot) (tag : Half) (payload : Bytes)
  /-- SYS_GPIO_WRITE (R85): Sets the levels of owned output pins. -/
  | sysGpioWrite (slot : Slot) (tag : Half) (payload : Bytes)
  /-- SYS_GPIO_READ (R85): Returns every pin level and the output mask. -/
  | sysGpioRead (slot : Slot) (tag : Half) (payload : Bytes)
  /-- SYS_I2C_XFER (R86): Runs one I²C transfer on an owned master. -/
  | sysI2cXfer (slot : Slot) (tag : Half) (payload : Bytes)
  /-- SYS_MDIO_ACCESS (R87): Runs one MDIO frame on the master. -/
  | sysMdioAccess (slot : Slot) (tag : Half) (payload : Bytes)
  /-- SLOT_GET_CAPS (R538): Returns slot count and ring limits. -/
  | slotGetCaps (slot : Slot) (tag : Half) (payload : Bytes)
  /-- SLOT_OPEN (R52): Moves the caller's slot from BOUND to OPEN. -/
  | slotOpen (slot : Slot) (tag : Half) (payload : Bytes)
  /-- SLOT_CLOSE (R52): Moves the caller's slot from OPEN to BOUND. -/
  | slotClose (slot : Slot) (tag : Half) (payload : Bytes)
  /-- SLOT_BIND (R84): Binds a slot to a transport. -/
  | slotBind (slot : Slot) (tag : Half) (payload : Bytes)
  /-- SLOT_UNBIND (R53): Unbinds a slot, returning its resources to S0. -/
  | slotUnbind (slot : Slot) (tag : Half) (payload : Bytes)
  /-- SLOT_GRANT (R54): Moves a resource range from S0 to a slot. -/
  | slotGrant (slot : Slot) (tag : Half) (payload : Bytes)
  /-- SLOT_REVOKE (R54): Moves a resource range back to S0. -/
  | slotRevoke (slot : Slot) (tag : Half) (payload : Bytes)
  /-- SLOT_GET_STATE (R84): Returns a slot's state and counts. -/
  | slotGetState (slot : Slot) (tag : Half) (payload : Bytes)
  /-- SLOT_SET_READ_POLICY (R56): Restricts or opens a slot's reads. -/
  | slotSetReadPolicy (slot : Slot) (tag : Half) (payload : Bytes)
  /-- SLOT_FENCE (R52): Moves a slot to FENCED. -/
  | slotFence (slot : Slot) (tag : Half) (payload : Bytes)
  /-- SLOT_UNFENCE (R52): Moves a slot from FENCED to BOUND. -/
  | slotUnfence (slot : Slot) (tag : Half) (payload : Bytes)
  /-- SLOT_GET_OWNER (R84): Returns the owner of a resource. -/
  | slotGetOwner (slot : Slot) (tag : Half) (payload : Bytes)
  /-- SLOT_GET_STATS (R536): Returns a slot's nine counters. -/
  | slotGetStats (slot : Slot) (tag : Half) (payload : Bytes)
  /-- SLOT_SET_WRITE_PERMIT (R29): Sets or clears a slot's bit in HIU_WRITE_PERMIT. -/
  | slotSetWritePermit (slot : Slot) (tag : Half) (payload : Bytes)
  /-- SLOT_REKEY (R80): Replaces an Ethernet-bound slot's envelope keys. -/
  | slotRekey (slot : Slot) (tag : Half) (payload : Bytes)
  /-- DIAG_GET_CAPS (R112): Returns record count, token length and unlock attempts left. -/
  | diagGetCaps (slot : Slot) (tag : Half) (payload : Bytes)
  /-- DIAG_GET_BOOT_RECORD (R112): Returns the boot record read at firmware start. -/
  | diagGetBootRecord (slot : Slot) (tag : Half) (payload : Bytes)
  /-- DIAG_ADVANCE_SECVER (R101): Advances the anti-rollback thermometer. -/
  | diagAdvanceSecver (slot : Slot) (tag : Half) (payload : Bytes)
  /-- DIAG_REVOKE_VENDOR_KEY (R101): Revokes a vendor key. -/
  | diagRevokeVendorKey (slot : Slot) (tag : Half) (payload : Bytes)
  /-- DIAG_LCS_TRANSITION (R109): Programs the fuses of a new life-cycle state. -/
  | diagLcsTransition (slot : Slot) (tag : Half) (payload : Bytes)
  /-- DIAG_UNLOCK_CHALLENGE (R110): Returns a fresh unlock challenge. -/
  | diagUnlockChallenge (slot : Slot) (tag : Half) (payload : Bytes)
  /-- DIAG_UNLOCK_RESPONSE (R111): Checks an unlock token and opens debug if it verifies. -/
  | diagUnlockResponse (slot : Slot) (tag : Half) (payload : Bytes)
  /-- DIAG_RELOCK (R111): Ends a debug unlock. -/
  | diagRelock (slot : Slot) (tag : Half) (payload : Bytes)
  /-- PORT_GET_CAPS (R321): Returns port kinds, rates and limits. -/
  | portGetCaps (slot : Slot) (tag : Half) (payload : Bytes)
  /-- PORT_SET_MODE (R306): Writes a port's mode and PLCA shadow records, committing if asked. -/
  | portSetMode (slot : Slot) (tag : Half) (payload : Bytes)
  /-- PORT_GET_MODE (R321): Returns a port's mode records. -/
  | portGetMode (slot : Slot) (tag : Half) (payload : Bytes)
  /-- PORT_GET_STATUS (R321): Returns a port's link status. -/
  | portGetStatus (slot : Slot) (tag : Half) (payload : Bytes)
  /-- PORT_FORGET_COEFFS (R308): Discards a port's stored coefficients. -/
  | portForgetCoeffs (slot : Slot) (tag : Half) (payload : Bytes)
  /-- PORT_SET_WAKE (R314): Sets a port's WAKE_EN and ACCEPT_SLEEP. -/
  | portSetWake (slot : Slot) (tag : Half) (payload : Bytes)
  /-- PORT_SEND_WAKE (R314): Sends a TC10 wake pulse. -/
  | portSendWake (slot : Slot) (tag : Half) (payload : Bytes)
  /-- PORT_SET_PODL (R316): Writes a camera port's power record. -/
  | portSetPodl (slot : Slot) (tag : Half) (payload : Bytes)
  /-- PORT_PODL_CONTROL (R317): Switches a camera port's power on or off. -/
  | portPodlControl (slot : Slot) (tag : Half) (payload : Bytes)
  /-- PORT_GET_PODL (R321): Returns a camera port's power state and current. -/
  | portGetPodl (slot : Slot) (tag : Half) (payload : Bytes)
  /-- PORT_GET_PHY_COUNTERS (R323): Returns a port's PHY counters. -/
  | portGetPhyCounters (slot : Slot) (tag : Half) (payload : Bytes)
  /-- PORT_CLEAR_PHY_COUNTERS (R323): Clears a port's PHY counters. -/
  | portClearPhyCounters (slot : Slot) (tag : Half) (payload : Bytes)
  /-- PORT_SET_FWD_CONFIG (R160): Writes a port's forwarding shadows, committing if asked. -/
  | portSetFwdConfig (slot : Slot) (tag : Half) (payload : Bytes)
  /-- PORT_GET_FWD_CONFIG (R161): Returns a port's forwarding record. -/
  | portGetFwdConfig (slot : Slot) (tag : Half) (payload : Bytes)
  /-- PORT_GET_COUNTERS (R157): Returns a port's counters read on one clock. -/
  | portGetCounters (slot : Slot) (tag : Half) (payload : Bytes)
  /-- PORT_CLEAR_COUNTERS (R157): Sets a port's counters to 0. -/
  | portClearCounters (slot : Slot) (tag : Half) (payload : Bytes)
  /-- PORT_GET_PIPELINE_STATS (R159): Returns the pipeline statistics and restarts the marks. -/
  | portGetPipelineStats (slot : Slot) (tag : Half) (payload : Bytes)
  /-- FDB_GET_CAPS (R83): Returns the forwarding database capabilities. -/
  | fdbGetCaps (slot : Slot) (tag : Half) (payload : Bytes)
  /-- FDB_ADD (R163): Adds a forwarding entry. -/
  | fdbAdd (slot : Slot) (tag : Half) (payload : Bytes)
  /-- FDB_DELETE (R163): Deletes a forwarding entry. -/
  | fdbDelete (slot : Slot) (tag : Half) (payload : Bytes)
  /-- FDB_LOOKUP (R540): Returns one forwarding entry. -/
  | fdbLookup (slot : Slot) (tag : Half) (payload : Bytes)
  /-- FDB_FLUSH (R164): Sweeps entries out by port, FID or all. -/
  | fdbFlush (slot : Slot) (tag : Half) (payload : Bytes)
  /-- FDB_SET_AGING (R142): Sets AGE_TIME. -/
  | fdbSetAging (slot : Slot) (tag : Half) (payload : Bytes)
  /-- FDB_READ (R540): Returns a range of forwarding entries. -/
  | fdbRead (slot : Slot) (tag : Half) (payload : Bytes)
  /-- FDB_SET_VLAN (R133): Writes a VLAN entry. -/
  | fdbSetVlan (slot : Slot) (tag : Half) (payload : Bytes)
  /-- FDB_DELETE_VLAN (R163): Invalidates a VLAN entry. -/
  | fdbDeleteVlan (slot : Slot) (tag : Half) (payload : Bytes)
  /-- FDB_GET_VLAN (R133): Returns a VLAN entry. -/
  | fdbGetVlan (slot : Slot) (tag : Half) (payload : Bytes)
  /-- CUST_GET_CAPS (R192): Returns firewall capabilities and generation. -/
  | custGetCaps (slot : Slot) (tag : Half) (payload : Bytes)
  /-- CUST_SET_ZONE (R166): Sets a member's zone in staging. -/
  | custSetZone (slot : Slot) (tag : Half) (payload : Bytes)
  /-- CUST_SET_ZONE_MAP (R166): Sets or clears a zone-map entry. -/
  | custSetZoneMap (slot : Slot) (tag : Half) (payload : Bytes)
  /-- CUST_SET_PAIR (R167): Writes a zone-pair entry. -/
  | custSetPair (slot : Slot) (tag : Half) (payload : Bytes)
  /-- CUST_SET_RULE (R170): Writes a border rule to staging. -/
  | custSetRule (slot : Slot) (tag : Half) (payload : Bytes)
  /-- CUST_CLEAR_RULES (R192): Clears a range of border rules. -/
  | custClearRules (slot : Slot) (tag : Half) (payload : Bytes)
  /-- CUST_GET_RULE (R192): Returns a border rule. -/
  | custGetRule (slot : Slot) (tag : Half) (payload : Bytes)
  /-- CUST_SET_CAN_RULE (R184): Writes a CAN rule to staging. -/
  | custSetCanRule (slot : Slot) (tag : Half) (payload : Bytes)
  /-- CUST_GET_CAN_RULE (R192): Returns a CAN rule and its bucket level. -/
  | custGetCanRule (slot : Slot) (tag : Half) (payload : Bytes)
  /-- CUST_SET_CAN_DEFAULT (R185): Sets a source's default CAN verdict. -/
  | custSetCanDefault (slot : Slot) (tag : Half) (payload : Bytes)
  /-- CUST_SWAP (R188): Makes staging banks active, now or at an instant. -/
  | custSwap (slot : Slot) (tag : Half) (payload : Bytes)
  /-- CUST_GET_GEN (R192): Returns the generation and partition states. -/
  | custGetGen (slot : Slot) (tag : Half) (payload : Bytes)
  /-- CUST_SET_CONV_TIMEOUTS (R180): Sets the conversation timeouts. -/
  | custSetConvTimeouts (slot : Slot) (tag : Half) (payload : Bytes)
  /-- CUST_FLUSH_CONV (R181): Removes conversations by pair or all. -/
  | custFlushConv (slot : Slot) (tag : Half) (payload : Bytes)
  /-- CUST_READ_CONV (R192): Returns conversation entries. -/
  | custReadConv (slot : Slot) (tag : Half) (payload : Bytes)
  /-- CUST_QUARANTINE (R183): Enters or releases a member's quarantine. -/
  | custQuarantine (slot : Slot) (tag : Half) (payload : Bytes)
  /-- CUST_GET_COUNTERS (R191): Returns firewall counters. -/
  | custGetCounters (slot : Slot) (tag : Half) (payload : Bytes)
  /-- CUST_CLEAR_COUNTERS (R191): Clears firewall counters. -/
  | custClearCounters (slot : Slot) (tag : Half) (payload : Bytes)
  /-- SCHED_GET_CAPS (R239): Returns scheduling capabilities. -/
  | schedGetCaps (slot : Slot) (tag : Half) (payload : Bytes)
  /-- SCHED_SET_QUEUE (R220): Writes a queue's EXPRESS, WEIGHT and OVERHEAD shadows. -/
  | schedSetQueue (slot : Slot) (tag : Half) (payload : Bytes)
  /-- SCHED_GET_QUEUE (R239): Returns a queue's fields, tag and V. -/
  | schedGetQueue (slot : Slot) (tag : Half) (payload : Bytes)
  /-- SCHED_SET_SHAPER (R223): Writes a shaper, applied at the next refill. -/
  | schedSetShaper (slot : Slot) (tag : Half) (payload : Bytes)
  /-- SCHED_GET_SHAPER (R239): Returns a shaper and its credit. -/
  | schedGetShaper (slot : Slot) (tag : Half) (payload : Bytes)
  /-- SCHED_SET_METER (R224): Writes a meter's shadow. -/
  | schedSetMeter (slot : Slot) (tag : Half) (payload : Bytes)
  /-- SCHED_GET_METER (R239): Returns a meter and its bucket levels. -/
  | schedGetMeter (slot : Slot) (tag : Half) (payload : Bytes)
  /-- SCHED_SET_STREAM_ID (R230): Writes a stream identification entry to staging. -/
  | schedSetStreamId (slot : Slot) (tag : Half) (payload : Bytes)
  /-- SCHED_GET_STREAM_ID (R239): Returns a stream identification entry. -/
  | schedGetStreamId (slot : Slot) (tag : Half) (payload : Bytes)
  /-- SCHED_SWAP_STREAM_ID (R230): Makes the staging stream identification bank active. -/
  | schedSwapStreamId (slot : Slot) (tag : Half) (payload : Bytes)
  /-- SCHED_SET_FILTER (R231): Writes a stream filter's shadow. -/
  | schedSetFilter (slot : Slot) (tag : Half) (payload : Bytes)
  /-- SCHED_GET_FILTER (R239): Returns a stream filter and BLOCKED. -/
  | schedGetFilter (slot : Slot) (tag : Half) (payload : Bytes)
  /-- SCHED_SET_STREAM_GATE (R234): Writes a stream gate list's shadow. -/
  | schedSetStreamGate (slot : Slot) (tag : Half) (payload : Bytes)
  /-- SCHED_GET_STREAM_GATE (R239): Returns a stream gate list and position. -/
  | schedGetStreamGate (slot : Slot) (tag : Half) (payload : Bytes)
  /-- SCHED_CLEAR_BLOCKED (R232): Clears a filter's BLOCKED or a gate's permanent close. -/
  | schedClearBlocked (slot : Slot) (tag : Half) (payload : Bytes)
  /-- SCHED_SET_ADMISSION (R206): Writes an admission parameter shadow. -/
  | schedSetAdmission (slot : Slot) (tag : Half) (payload : Bytes)
  /-- SCHED_GET_ADMISSION (R239): Returns an admission parameter. -/
  | schedGetAdmission (slot : Slot) (tag : Half) (payload : Bytes)
  /-- SCHED_SET_SAMPLING (R235): Sets a queue's sampling and clears its record. -/
  | schedSetSampling (slot : Slot) (tag : Half) (payload : Bytes)
  /-- SCHED_READ_HIST (R236): Returns a queue's histogram record, clearing it if asked. -/
  | schedReadHist (slot : Slot) (tag : Half) (payload : Bytes)
  /-- SCHED_GET_COUNTERS (R237): Returns scheduling and buffer counters. -/
  | schedGetCounters (slot : Slot) (tag : Half) (payload : Bytes)
  /-- SCHED_CLEAR_COUNTERS (R212): Clears scheduling and buffer counters. -/
  | schedClearCounters (slot : Slot) (tag : Half) (payload : Bytes)
  /-- GATE_GET_CAPS (R266): Returns gate list capabilities. -/
  | gateGetCaps (slot : Slot) (tag : Half) (payload : Bytes)
  /-- GATE_SET_ADMIN_HEADER (R241): Writes the administrative list header. -/
  | gateSetAdminHeader (slot : Slot) (tag : Half) (payload : Bytes)
  /-- GATE_SET_ADMIN_ENTRIES (R242): Writes administrative list entries. -/
  | gateSetAdminEntries (slot : Slot) (tag : Half) (payload : Bytes)
  /-- GATE_GET_LIST (R266): Returns an administrative or operational list. -/
  | gateGetList (slot : Slot) (tag : Half) (payload : Bytes)
  /-- GATE_COMMIT_ADMIN (R246): Computes the change time and arms the list change. -/
  | gateCommitAdmin (slot : Slot) (tag : Half) (payload : Bytes)
  /-- GATE_CANCEL_CHANGE (R248): Cancels a pending list change. -/
  | gateCancelChange (slot : Slot) (tag : Half) (payload : Bytes)
  /-- GATE_GET_STATUS (R266): Returns the gate state and W_max. -/
  | gateGetStatus (slot : Slot) (tag : Half) (payload : Bytes)
  /-- GATE_SET_QUEUE_TIMING (R261): Writes a queue's LAUNCH_EN, MAX_SDU and LATE_TOL shadows. -/
  | gateSetQueueTiming (slot : Slot) (tag : Half) (payload : Bytes)
  /-- GATE_GET_QUEUE_TIMING (R266): Returns a queue's timing fields. -/
  | gateGetQueueTiming (slot : Slot) (tag : Half) (payload : Bytes)
  /-- GATE_SET_PREEMPT (R253): Sets preemption and starts verification. -/
  | gateSetPreempt (slot : Slot) (tag : Half) (payload : Bytes)
  /-- GATE_GET_COUNTERS (R264): Returns gate counters. -/
  | gateGetCounters (slot : Slot) (tag : Half) (payload : Bytes)
  /-- GATE_CLEAR_COUNTERS (R264): Clears gate counters. -/
  | gateClearCounters (slot : Slot) (tag : Half) (payload : Bytes)
  /-- TIME_GET_CAPS (R286): Returns time unit capabilities. -/
  | timeGetCaps (slot : Slot) (tag : Half) (payload : Bytes)
  /-- TIME_GET_NOW (R286): Returns the local clock and epoch. -/
  | timeGetNow (slot : Slot) (tag : Half) (payload : Bytes)
  /-- TIME_SET_SOURCE (R286): Sets the clock source and opens an epoch. -/
  | timeSetSource (slot : Slot) (tag : Half) (payload : Bytes)
  /-- TIME_NEW_EPOCH (R273): Opens a new synchronisation epoch. -/
  | timeNewEpoch (slot : Slot) (tag : Half) (payload : Bytes)
  /-- TIME_STEP (R272): Steps the local clock. -/
  | timeStep (slot : Slot) (tag : Half) (payload : Bytes)
  /-- TIME_SET_RATE (R271): Sets the increment. -/
  | timeSetRate (slot : Slot) (tag : Half) (payload : Bytes)
  /-- TIME_SET_DOMAIN (R278): Writes a gPTP instance's parameters. -/
  | timeSetDomain (slot : Slot) (tag : Half) (payload : Bytes)
  /-- TIME_ENABLE_DOMAIN (R286): Enables or disables a gPTP instance. -/
  | timeEnableDomain (slot : Slot) (tag : Half) (payload : Bytes)
  /-- TIME_GET_DOMAIN (R280): Returns an instance's state and offset-rate pair. -/
  | timeGetDomain (slot : Slot) (tag : Half) (payload : Bytes)
  /-- TIME_SET_PORT (R282): Sets a port's TC_EN and asymmetry. -/
  | timeSetPort (slot : Slot) (tag : Half) (payload : Bytes)
  /-- TIME_SET_ALARM (R276): Writes the caller's alarm shadow. -/
  | timeSetAlarm (slot : Slot) (tag : Half) (payload : Bytes)
  /-- TIME_SET_IO (R285): Writes a TIME_IO pin's shadows. -/
  | timeSetIo (slot : Slot) (tag : Half) (payload : Bytes)
  /-- TIME_READ_CAPTURES (R284): Pops and returns captures of a pin. -/
  | timeReadCaptures (slot : Slot) (tag : Half) (payload : Bytes)
  /-- TIME_GET_COUNTERS (R287): Returns time counters. -/
  | timeGetCounters (slot : Slot) (tag : Half) (payload : Bytes)
  /-- RED_GET_CAPS (R303): Returns redundancy capabilities. -/
  | redGetCaps (slot : Slot) (tag : Half) (payload : Bytes)
  /-- RED_SET_GENERATOR (R290): Writes a generator record. -/
  | redSetGenerator (slot : Slot) (tag : Half) (payload : Bytes)
  /-- RED_SET_RECOVERY (R294): Writes a recovery record. -/
  | redSetRecovery (slot : Slot) (tag : Half) (payload : Bytes)
  /-- RED_ENABLE (R288): Enables or disables an instance. -/
  | redEnable (slot : Slot) (tag : Half) (payload : Bytes)
  /-- RED_GET_INSTANCE (R303): Returns an instance's record and history. -/
  | redGetInstance (slot : Slot) (tag : Half) (payload : Bytes)
  /-- RED_SET_PROTECT (R299): Writes the protection record. -/
  | redSetProtect (slot : Slot) (tag : Half) (payload : Bytes)
  /-- RED_FORCE (R298): Forces or releases the active member. -/
  | redForce (slot : Slot) (tag : Half) (payload : Bytes)
  /-- RED_GET_PROTECT (R303): Returns the protection record and status. -/
  | redGetProtect (slot : Slot) (tag : Half) (payload : Bytes)
  /-- RED_SUBSCRIBE (R301): Subscribes the caller to health reports. -/
  | redSubscribe (slot : Slot) (tag : Half) (payload : Bytes)
  /-- RED_GET_COUNTERS (R302): Returns redundancy counters. -/
  | redGetCounters (slot : Slot) (tag : Half) (payload : Bytes)
  /-- RED_CLEAR_COUNTERS (R302): Clears redundancy counters. -/
  | redClearCounters (slot : Slot) (tag : Half) (payload : Bytes)
  /-- CAN_GET_CAPS (R353): Returns CAN capabilities. -/
  | canGetCaps (slot : Slot) (tag : Half) (payload : Bytes)
  /-- CAN_SET_CONFIG (R328): Writes a channel's configuration record in OFF. -/
  | canSetConfig (slot : Slot) (tag : Half) (payload : Bytes)
  /-- CAN_GET_CONFIG (R353): Returns a channel's configuration. -/
  | canGetConfig (slot : Slot) (tag : Half) (payload : Bytes)
  /-- CAN_SET_MODE (R326): Changes a channel's state. -/
  | canSetMode (slot : Slot) (tag : Half) (payload : Bytes)
  /-- CAN_GET_STATUS (R347): Returns a channel's status. -/
  | canGetStatus (slot : Slot) (tag : Half) (payload : Bytes)
  /-- CAN_SET_QUEUE (R332): Writes a transmit queue record. -/
  | canSetQueue (slot : Slot) (tag : Half) (payload : Bytes)
  /-- CAN_SET_FILTER (R342): Writes an acceptance filter. -/
  | canSetFilter (slot : Slot) (tag : Half) (payload : Bytes)
  /-- CAN_TRANSMIT (R333): Enqueues a CAN frame. -/
  | canTransmit (slot : Slot) (tag : Half) (payload : Bytes)
  /-- CAN_RX_READ (R343): Claims FIFO entries for the owner slot. -/
  | canRxRead (slot : Slot) (tag : Half) (payload : Bytes)
  /-- CAN_RX_RELEASE (R343): Releases claimed FIFO entries. -/
  | canRxRelease (slot : Slot) (tag : Half) (payload : Bytes)
  /-- CAN_RECOVER (R349): Starts bus-off recovery. -/
  | canRecover (slot : Slot) (tag : Half) (payload : Bytes)
  /-- CAN_FLUSH_QUEUE (R339): Ends queued frames ABORTED. -/
  | canFlushQueue (slot : Slot) (tag : Half) (payload : Bytes)
  /-- CAN_DETECT_RATE (R351): Starts nominal bit-rate detection. -/
  | canDetectRate (slot : Slot) (tag : Half) (payload : Bytes)
  /-- CAN_GET_COUNTERS (R355): Returns channel counters. -/
  | canGetCounters (slot : Slot) (tag : Half) (payload : Bytes)
  /-- CAN_CLEAR_COUNTERS (R355): Clears channel counters. -/
  | canClearCounters (slot : Slot) (tag : Half) (payload : Bytes)
  /-- LIN_GET_CAPS (R369): Returns LIN and serial capabilities. -/
  | linGetCaps (slot : Slot) (tag : Half) (payload : Bytes)
  /-- LIN_SET_CONFIG (R359): Writes a LIN configuration record. -/
  | linSetConfig (slot : Slot) (tag : Half) (payload : Bytes)
  /-- LIN_SET_MODE (R356): Changes a LIN channel's state. -/
  | linSetMode (slot : Slot) (tag : Half) (payload : Bytes)
  /-- LIN_SET_FRAME (R360): Writes a frame table entry. -/
  | linSetFrame (slot : Slot) (tag : Half) (payload : Bytes)
  /-- LIN_SET_SCHEDULE (R361): Writes a schedule table. -/
  | linSetSchedule (slot : Slot) (tag : Half) (payload : Bytes)
  /-- LIN_SELECT_SCHEDULE (R361): Selects a schedule table. -/
  | linSelectSchedule (slot : Slot) (tag : Half) (payload : Bytes)
  /-- LIN_SET_PUBLISH (R360): Writes a publish buffer. -/
  | linSetPublish (slot : Slot) (tag : Half) (payload : Bytes)
  /-- LIN_SEND_WAKE (R364): Drives a LIN wake. -/
  | linSendWake (slot : Slot) (tag : Half) (payload : Bytes)
  /-- LIN_GET_STATUS (R369): Returns a LIN channel's status. -/
  | linGetStatus (slot : Slot) (tag : Half) (payload : Bytes)
  /-- SER_SET_CONFIG (R365): Writes a UART configuration record. -/
  | serSetConfig (slot : Slot) (tag : Half) (payload : Bytes)
  /-- SER_SET_MODE (R356): Changes a UART's state. -/
  | serSetMode (slot : Slot) (tag : Half) (payload : Bytes)
  /-- SER_TRANSMIT (R366): Enqueues a serial message. -/
  | serTransmit (slot : Slot) (tag : Half) (payload : Bytes)
  /-- SER_GET_STATUS (R369): Returns a UART's status. -/
  | serGetStatus (slot : Slot) (tag : Half) (payload : Bytes)
  /-- SER_RX_READ (R357): Claims LIN or serial FIFO entries. -/
  | serRxRead (slot : Slot) (tag : Half) (payload : Bytes)
  /-- SER_RX_RELEASE (R357): Releases LIN or serial FIFO entries. -/
  | serRxRelease (slot : Slot) (tag : Half) (payload : Bytes)
  /-- SER_GET_COUNTERS (R370): Returns LIN or serial counters. -/
  | serGetCounters (slot : Slot) (tag : Half) (payload : Bytes)
  /-- SER_CLEAR_COUNTERS (R370): Clears LIN or serial counters. -/
  | serClearCounters (slot : Slot) (tag : Half) (payload : Bytes)
  /-- ROUTE_GET_CAPS (R393): Returns relay capabilities. -/
  | routeGetCaps (slot : Slot) (tag : Half) (payload : Bytes)
  /-- ROUTE_SET_RULE (R377): Writes a route to staging. -/
  | routeSetRule (slot : Slot) (tag : Half) (payload : Bytes)
  /-- ROUTE_CLEAR (R378): Clears a range of staged routes. -/
  | routeClear (slot : Slot) (tag : Half) (payload : Bytes)
  /-- ROUTE_GET_RULE (R393): Returns a route. -/
  | routeGetRule (slot : Slot) (tag : Half) (payload : Bytes)
  /-- ROUTE_SWAP (R378): Makes staged route partitions active, now or at an instant. -/
  | routeSwap (slot : Slot) (tag : Half) (payload : Bytes)
  /-- ROUTE_GET_GEN (R393): Returns the generation and partition states. -/
  | routeGetGen (slot : Slot) (tag : Half) (payload : Bytes)
  /-- ROUTE_SET_TUNNEL (R382): Writes a tunnel record. -/
  | routeSetTunnel (slot : Slot) (tag : Half) (payload : Bytes)
  /-- ROUTE_GET_TUNNEL (R393): Returns a tunnel record and sequence numbers. -/
  | routeGetTunnel (slot : Slot) (tag : Half) (payload : Bytes)
  /-- ROUTE_SET_ENGINE (R390): Moves a source to another home engine. -/
  | routeSetEngine (slot : Slot) (tag : Half) (payload : Bytes)
  /-- ROUTE_GET_ENGINES (R393): Returns engine states and load. -/
  | routeGetEngines (slot : Slot) (tag : Half) (payload : Bytes)
  /-- ROUTE_GET_COUNTERS (R395): Returns relay counters. -/
  | routeGetCounters (slot : Slot) (tag : Half) (payload : Bytes)
  /-- ROUTE_CLEAR_COUNTERS (R395): Clears relay counters. -/
  | routeClearCounters (slot : Slot) (tag : Half) (payload : Bytes)
  /-- ESC_GET_CAPS (R413): Returns time-redundant execution capabilities. -/
  | escGetCaps (slot : Slot) (tag : Half) (payload : Bytes)
  /-- ESC_SET_CONFIG (R412): Writes the ESC configuration record. -/
  | escSetConfig (slot : Slot) (tag : Half) (payload : Bytes)
  /-- ESC_GET_STATUS (R413): Returns the fault latch and FAULT_SEQ. -/
  | escGetStatus (slot : Slot) (tag : Half) (payload : Bytes)
  /-- ESC_SET_SAFE (R409): Writes a route's safe record. -/
  | escSetSafe (slot : Slot) (tag : Half) (payload : Bytes)
  /-- ESC_GET_SAFE (R413): Returns a route's safe record. -/
  | escGetSafe (slot : Slot) (tag : Half) (payload : Bytes)
  /-- ESC_ACK_FAULT (R410): Acknowledges a latched fault and releases FAULT_N. -/
  | escAckFault (slot : Slot) (tag : Half) (payload : Bytes)
  /-- ESC_TEST_ENGINE (R413): Runs an engine self-test on demand. -/
  | escTestEngine (slot : Slot) (tag : Half) (payload : Bytes)
  /-- ESC_INJECT (R413): Corrupts the check signature of an engine's next window. -/
  | escInject (slot : Slot) (tag : Half) (payload : Bytes)
  /-- ESC_GET_COUNTERS (R415): Returns ESC counters. -/
  | escGetCounters (slot : Slot) (tag : Half) (payload : Bytes)
  /-- ESC_CLEAR_COUNTERS (R415): Clears ESC counters. -/
  | escClearCounters (slot : Slot) (tag : Half) (payload : Bytes)
  /-- CRYPT_GET_CAPS (R436): Returns cipher capabilities. -/
  | cryptGetCaps (slot : Slot) (tag : Half) (payload : Bytes)
  /-- CRYPT_SET_PORT (R420): Writes a port's MACsec policy. -/
  | cryptSetPort (slot : Slot) (tag : Half) (payload : Bytes)
  /-- CRYPT_SET_MKA (R424): Configures MKA on a port. -/
  | cryptSetMka (slot : Slot) (tag : Half) (payload : Bytes)
  /-- CRYPT_INSTALL_SA (R421): Installs a secure association. -/
  | cryptInstallSa (slot : Slot) (tag : Half) (payload : Bytes)
  /-- CRYPT_SET_TX_AN (R422): Selects a port's active transmit association. -/
  | cryptSetTxAn (slot : Slot) (tag : Half) (payload : Bytes)
  /-- CRYPT_DELETE_SA (R421): Deletes a secure association. -/
  | cryptDeleteSa (slot : Slot) (tag : Half) (payload : Bytes)
  /-- CRYPT_GET_SA (R436): Returns an association record and state. -/
  | cryptGetSa (slot : Slot) (tag : Half) (payload : Bytes)
  /-- CRYPT_SET_PROFILE (R426): Writes an authentication profile. -/
  | cryptSetProfile (slot : Slot) (tag : Half) (payload : Bytes)
  /-- CRYPT_GET_PROFILE (R436): Returns a profile with its present FV. -/
  | cryptGetProfile (slot : Slot) (tag : Half) (payload : Bytes)
  /-- CRYPT_OPEN (R430): Opens a host context, latching its key. -/
  | cryptOpen (slot : Slot) (tag : Half) (payload : Bytes)
  /-- CRYPT_UPDATE (R431): Processes data in a host context. -/
  | cryptUpdate (slot : Slot) (tag : Half) (payload : Bytes)
  /-- CRYPT_FINAL (R431): Finishes a host context with its tag. -/
  | cryptFinal (slot : Slot) (tag : Half) (payload : Bytes)
  /-- CRYPT_SAVE (R432): Exports a context's state and frees it. -/
  | cryptSave (slot : Slot) (tag : Half) (payload : Bytes)
  /-- CRYPT_RESTORE (R432): Loads a saved context state. -/
  | cryptRestore (slot : Slot) (tag : Half) (payload : Bytes)
  /-- CRYPT_ONESHOT (R430): Runs a single-shot cipher or key-wrap operation. -/
  | cryptOneshot (slot : Slot) (tag : Half) (payload : Bytes)
  /-- CRYPT_BREAK_LOCK (R434): Releases the CDI lock. -/
  | cryptBreakLock (slot : Slot) (tag : Half) (payload : Bytes)
  /-- CRYPT_GET_COUNTERS (R438): Returns cipher counters. -/
  | cryptGetCounters (slot : Slot) (tag : Half) (payload : Bytes)
  /-- CRYPT_CLEAR_COUNTERS (R438): Clears cipher counters. -/
  | cryptClearCounters (slot : Slot) (tag : Half) (payload : Bytes)
  /-- KEY_GET_CAPS (R454): Returns key store capabilities. -/
  | keyGetCaps (slot : Slot) (tag : Half) (payload : Bytes)
  /-- KEY_IMPORT (R447): Writes a slot from a wrapped blob. -/
  | keyImport (slot : Slot) (tag : Half) (payload : Bytes)
  /-- KEY_DERIVE (R445): Defines a derived slot. -/
  | keyDerive (slot : Slot) (tag : Half) (payload : Bytes)
  /-- KEY_PREFETCH (R445): Forces the derivation of a DEFINED slot. -/
  | keyPrefetch (slot : Slot) (tag : Half) (payload : Bytes)
  /-- KEY_REFRESH (R451): Derives a STALE slot again. -/
  | keyRefresh (slot : Slot) (tag : Half) (payload : Bytes)
  /-- KEY_INVALIDATE (R449): Marks a slot and its descendants STALE. -/
  | keyInvalidate (slot : Slot) (tag : Half) (payload : Bytes)
  /-- KEY_ERASE (R449): Zeroes a range of slots. -/
  | keyErase (slot : Slot) (tag : Half) (payload : Bytes)
  /-- KEY_NARROW_MASK (R441): Clears bits of a slot's owner mask. -/
  | keyNarrowMask (slot : Slot) (tag : Half) (payload : Bytes)
  /-- KEY_GET_ATTR (R439): Returns a slot's attribute record. -/
  | keyGetAttr (slot : Slot) (tag : Half) (payload : Bytes)
  /-- KEY_SET_SERVICE (R453): Ends the start-up re-mask phase. -/
  | keySetService (slot : Slot) (tag : Half) (payload : Bytes)
  /-- KEY_GET_COUNTERS (R456): Returns key store counters. -/
  | keyGetCounters (slot : Slot) (tag : Half) (payload : Bytes)
  /-- KEY_CLEAR_COUNTERS (R456): Clears key store counters. -/
  | keyClearCounters (slot : Slot) (tag : Half) (payload : Bytes)
  /-- PWR_GET_CAPS (R468): Returns power capabilities. -/
  | pwrGetCaps (slot : Slot) (tag : Half) (payload : Bytes)
  /-- PWR_GET_STATUS (R468): Returns the power account. -/
  | pwrGetStatus (slot : Slot) (tag : Half) (payload : Bytes)
  /-- PWR_SET_CEILING (R464): Sets the die ceiling. -/
  | pwrSetCeiling (slot : Slot) (tag : Half) (payload : Bytes)
  /-- PWR_SET_BOARD_BUDGET (R466): Sets the camera board budget. -/
  | pwrSetBoardBudget (slot : Slot) (tag : Half) (payload : Bytes)
  /-- PWR_SET_DOMAIN (R458): Sets a domain's AUTO or KEEP_ON policy. -/
  | pwrSetDomain (slot : Slot) (tag : Half) (payload : Bytes)
  /-- PWR_GET_GRANTS (R468): Returns grants and queued requests. -/
  | pwrGetGrants (slot : Slot) (tag : Half) (payload : Bytes)
  /-- PWR_GET_COUNTERS (R470): Returns power counters. -/
  | pwrGetCounters (slot : Slot) (tag : Half) (payload : Bytes)
  /-- PWR_CLEAR_COUNTERS (R470): Clears power counters. -/
  | pwrClearCounters (slot : Slot) (tag : Half) (payload : Bytes)
  /-- SLEEP_GET_CAPS (R491): Returns sleep capabilities. -/
  | sleepGetCaps (slot : Slot) (tag : Half) (payload : Bytes)
  /-- SLEEP_REQUEST (R481): Starts the device sleep sequence. -/
  | sleepRequest (slot : Slot) (tag : Half) (payload : Bytes)
  /-- SLEEP_CANCEL (R484): Aborts a sleep before the point of no return. -/
  | sleepCancel (slot : Slot) (tag : Half) (payload : Bytes)
  /-- SLEEP_GET_STATUS (R491): Returns the sleep state and segment masks. -/
  | sleepGetStatus (slot : Slot) (tag : Half) (payload : Bytes)
  /-- SLEEP_SEGMENT (R473): Puts segments to sleep or wakes them. -/
  | sleepSegment (slot : Slot) (tag : Half) (payload : Bytes)
  /-- SLEEP_SET_PIN (R476): Writes a wake pin record. -/
  | sleepSetPin (slot : Slot) (tag : Half) (payload : Bytes)
  /-- SLEEP_SET_CAN_WAKE (R478): Writes a channel's selective-wake record. -/
  | sleepSetCanWake (slot : Slot) (tag : Half) (payload : Bytes)
  /-- SLEEP_SET_NM (R482): Writes a channel's NM record. -/
  | sleepSetNm (slot : Slot) (tag : Half) (payload : Bytes)
  /-- SLEEP_SET_HOST_WAKE (R477): Sets the host wake paths and targets. -/
  | sleepSetHostWake (slot : Slot) (tag : Half) (payload : Bytes)
  /-- SLEEP_SET_INH (R491): Sets the INH1 mode and delay. -/
  | sleepSetInh (slot : Slot) (tag : Half) (payload : Bytes)
  /-- SLEEP_GET_WAKE_RECORD (R489): Returns the wake record. -/
  | sleepGetWakeRecord (slot : Slot) (tag : Half) (payload : Bytes)
  /-- SLEEP_GET_COUNTERS (R493): Returns sleep counters. -/
  | sleepGetCounters (slot : Slot) (tag : Half) (payload : Bytes)
  /-- SLEEP_CLEAR_COUNTERS (R493): Clears sleep counters. -/
  | sleepClearCounters (slot : Slot) (tag : Half) (payload : Bytes)
  /-- MEAS_GET_CAPS (R508): Returns measurement ranges. -/
  | measGetCaps (slot : Slot) (tag : Half) (payload : Bytes)
  /-- MEAS_READ (R494): Returns measured values of one kind. -/
  | measRead (slot : Slot) (tag : Half) (payload : Bytes)
  /-- MEAS_RUN_TDR (R496): Runs cable reflectometry on a port. -/
  | measRunTdr (slot : Slot) (tag : Half) (payload : Bytes)
  /-- MEAS_RUN_TERM (R497): Measures CAN termination resistance. -/
  | measRunTerm (slot : Slot) (tag : Half) (payload : Bytes)
  /-- MEAS_GET_PARTNER (R499): Returns a port's partner record. -/
  | measGetPartner (slot : Slot) (tag : Half) (payload : Bytes)
  /-- DROV_GET_CAPS (R508): Returns Drover capabilities. -/
  | drovGetCaps (slot : Slot) (tag : Half) (payload : Bytes)
  /-- DROV_GRANT (R500): Grants a mandate. -/
  | drovGrant (slot : Slot) (tag : Half) (payload : Bytes)
  /-- DROV_REVOKE (R500): Ends a mandate, reverting if asked. -/
  | drovRevoke (slot : Slot) (tag : Half) (payload : Bytes)
  /-- DROV_GET_MANDATE (R508): Returns a mandate and its state. -/
  | drovGetMandate (slot : Slot) (tag : Half) (payload : Bytes)
  /-- DROV_READ_LEDGER (R507): Returns ledger entries. -/
  | drovReadLedger (slot : Slot) (tag : Half) (payload : Bytes)
  /-- DROV_PAUSE (R500): Suspends or resumes every mandate. -/
  | drovPause (slot : Slot) (tag : Half) (payload : Bytes)
  /-- DROV_GET_COUNTERS (R509): Returns Drover counters. -/
  | drovGetCounters (slot : Slot) (tag : Half) (payload : Bytes)
  /-- DROV_CLEAR_COUNTERS (R509): Clears Drover counters. -/
  | drovClearCounters (slot : Slot) (tag : Half) (payload : Bytes)
  /-- XTAL32K_SWITCH (R528): After power-on reset the 32.768 kHz crystal starts oscillating within 1 s and PD0 switches from its RC oscillator to it, or 1 s passes and PD0 stays on the RC oscillator. -/
  | xtal32kSwitch (ok : Bool)
  /-- INH0_ASSERT_AFTER_POR (R516): 1 ms after release from power-on reset PD0 asserts INH0 so that the board brings up its rails. -/
  | inh0AssertAfterPor
  /-- INH1_DELAY_EXPIRY (R491): With INH1_MODE 0, INH1 is asserted INH1_DELAY_MS after INH0 on every wake. -/
  | inh1DelayExpiry
  /-- PCIE_LINK_UP (R92): The PCIe link finishes training to L0 once PD5 has power, so that the PCIe transport can reach the window. -/
  | pcieLinkUp
  /-- GRANDMASTER_CHANGE (R273): The instance that drives the clock sees a change of grandmaster identity, which opens a new synchronisation epoch. -/
  | grandmasterChange (gm : DWord)
  /-- WAKE_DECODING_ERROR (R478): The selective-wake decoder meets a decoding error, advancing its frame error counter, and with ERR_WAKE set wakes the device when the counter passes 31. -/
  | wakeDecodingError (c : CanCh) (fd : Bool)
deriving DecidableEq, Repr

end Sys2Proof
end

