-- ==== Sys2Proof/Decode.lean ====
section
/-! DEFINITION. What a word spells. The command table of this block gives no row any bits, so no word spells a command. -/

namespace Sys2Proof

/-- The command of a word by the table's bits: none, as the table gives its rows none. -/
def decodeTableWord (nbits w : Nat) : Option Instr :=
  match nbits, w with
  | _, _ => none

end Sys2Proof
end

