-- ==== Sys2Proof/Config.lean ====
section
/-! DEFINITION. What the spec leaves open: free values without a body, the constants of one unit, and the functions of the
cryptographic standards that the manual names and does not print. -/

namespace Sys2Proof.Config

/-- A fresh unconstrained value of `w` bits: the draw number `n` of a run (State.fresh). DESIGN CHOICE, log 2. -/
opaque freeBits (w : Nat) : Nat → BitVec w

/-- A fresh unconstrained number. DESIGN CHOICE, log 2. -/
opaque freeNat : Nat → Nat

/-- A fresh unconstrained byte string (the draw number of a run). DESIGN CHOICE, log 2. -/
opaque freeBytes : Nat → Bytes

/-- The device serial number (R537), a constant of the unit. DESIGN CHOICE, log 3. -/
opaque serial : BitVec 64

/-- The management MAC address (R537), a constant of the unit. DESIGN CHOICE, log 3. -/
opaque managementMac : BitVec 48

/-- The device's own grandmaster identity (R277), a constant of the unit. DESIGN CHOICE, log 26. -/
opaque clockIdentity : BitVec 64

/-- The four fused hardware roots of 256 bits (R442). DESIGN CHOICE, log 3. -/
opaque hardwareRoot : Fin 4 → BitVec 256

/-- The fused SHA-256 hash of vendor key `k` (R99, R100). DESIGN CHOICE, log 3. -/
opaque vendorKeyHash : Fin 4 → BitVec 256

/-- SHA-256 of FIPS 180-4, whose text is not in the spec. DESIGN CHOICE, log 4. -/
opaque sha256 : Bytes → BitVec 256

/-- ECDSA P-256 verification of FIPS 186-5: public key, message digest, signature. DESIGN CHOICE, log 4. -/
opaque ecdsaVerify : Bytes → BitVec 256 → Bytes → Bool

/-- A vendor key has signed this serial number and target state (R109), whose form under the signature the spec does not give.
DESIGN CHOICE, log 4. -/
opaque rmaAuthentic : Bytes → Nat → Bytes → Bool

/-- One chaining step of AES-CMAC (SP 800-38B): key, chaining value, block. DESIGN CHOICE, log 4. -/
opaque cmacStep : Bytes → BitVec 128 → BitVec 128 → BitVec 128

/-- The end of AES-CMAC (SP 800-38B): key, chaining value, the last block, whole or partial. DESIGN CHOICE, log 4. -/
opaque cmacEnd : Bytes → BitVec 128 → Bytes → BitVec 128

/-- The CMAC of a message of whole blocks, from the chaining value after the last of them (SP 800-38B, its last step undone).
DESIGN CHOICE, log 4. -/
opaque cmacWhole : Bytes → BitVec 128 → BitVec 128

/-- One AES block encryption of FIPS 197: key, block. DESIGN CHOICE, log 4. -/
opaque aesBlock : Bytes → BitVec 128 → BitVec 128

/-- The GHASH step of SP 800-38D: key, accumulator, block. DESIGN CHOICE, log 4. -/
opaque ghashStep : Bytes → BitVec 128 → BitVec 128 → BitVec 128

/-- Key wrap KW of SP 800-38F: wrapping key, plaintext. DESIGN CHOICE, log 4. -/
opaque kwWrap : Bytes → Bytes → Bytes

/-- Key unwrap KW of SP 800-38F: wrapping key, ciphertext; none where the integrity check fails. DESIGN CHOICE, log 4. -/
opaque kwUnwrap : Bytes → Bytes → Option Bytes

/-- The engine-internal wrap key of start number `n` (R432), drawn anew at every start. DESIGN CHOICE, log 4. -/
opaque engineKey : Nat → Bytes

/-- CANsec of CiA 613-2, opening (R429): key, secured payload; the packet number it carries and the plaintext, or none
where the check of the tag fails. DESIGN CHOICE, log 4. -/
opaque cansecOpen : Bytes → Bytes → Nat × Option Bytes

/-- CANsec of CiA 613-2, protection (R429): key, encryption, packet number, plaintext. DESIGN CHOICE, log 4. -/
opaque cansecSeal : Bytes → Bool → Nat → Bytes → Bytes

/-- The forwarding-database hash of an address and a FID (R136), taken modulo 2,048 by its reader. DESIGN CHOICE, log 4. -/
opaque fdbHash : BitVec 48 → BitVec 12 → Nat

end Sys2Proof.Config
end

