-- ==== Sys2Proof/Machine/Bytes.lean ====
section
/-! DEFINITION. Byte order, bit fields and two's complement (R6): how the fields of registers, descriptors, messages and
network headers are read out of bytes and put into bytes. -/

namespace Sys2Proof.Machine

/-- The value of bytes with the least significant byte first (R6, registers, descriptors and Penyen messages). -/
def leNat : Bytes → Nat
  | [] => 0
  | b :: bs => b.toNat + 256 * leNat bs

/-- The value of bytes with the most significant byte first (R6, network fields). -/
def beNatFrom (acc : Nat) : Bytes → Nat
  | [] => acc
  | b :: bs => beNatFrom (acc * 256 + b.toNat) bs

/-- The value of bytes in network order (R6). -/
def beNat (bs : Bytes) : Nat := beNatFrom 0 bs

/-- `n` bytes of a value, least significant first. -/
def leBytes : Nat → Nat → Bytes
  | 0, _ => []
  | n + 1, v => BitVec.ofNat 8 v :: leBytes n (v / 256)

/-- `n` bytes of a value, most significant first. -/
def beBytes (n v : Nat) : Bytes := (leBytes n v).reverse

/-- `n` zero bytes (reserved fields of a payload, written as 0). -/
def zeros (n : Nat) : Bytes := List.replicate n 0

/-- The field of `len` bytes at offset `off`, little-endian; bytes past the end count as 0. -/
def le (b : Bytes) (off len : Nat) : Nat := leNat ((b.drop off).take len)

/-- The field of `len` bytes at offset `off` in network order. -/
def be (b : Bytes) (off len : Nat) : Nat := beNat ((b.drop off).take len)

/-- The byte at an offset; 0 past the end. -/
def byteAt (b : Bytes) (off : Nat) : Nat := (b.getD off 0).toNat

/-- `len` bytes from offset `off`. -/
def slice (b : Bytes) (off len : Nat) : Bytes := (b.drop off).take len

/-- `b` with the bytes at `off` replaced by `v`. -/
def splice (b : Bytes) (off : Nat) (v : Bytes) : Bytes := b.take off ++ v ++ b.drop (off + v.length)

/-- A string cut or zero-filled to `n` bytes. -/
def padTo (n : Nat) (b : Bytes) : Bytes := b.take n ++ zeros (n - b.length)

/-- Bits [lo+len-1:lo] of a value. -/
def bitsOf (v lo len : Nat) : Nat := v / 2 ^ lo % 2 ^ len

/-- Bit `i` of a value. -/
def bitOf (v i : Nat) : Bool := v.testBit i

/-- A Bool as the field value 0 or 1. -/
def b2n (b : Bool) : Nat := if b then 1 else 0

/-- The low `w` bits of a value read as two's complement. -/
def signedOf (w v : Nat) : Int :=
  if v % 2 ^ w < 2 ^ (w - 1) then (v % 2 ^ w : Nat) else (v % 2 ^ w : Nat) - (2 ^ w : Nat)

/-- The two's complement code of an integer in `w` bits. -/
def toTwos (w : Nat) (x : Int) : Nat := (x % (2 ^ w : Nat)).toNat

/-- A 2-byte little-endian field. -/
def w16 (v : Nat) : Bytes := leBytes 2 v
/-- A 4-byte little-endian field. -/
def w32 (v : Nat) : Bytes := leBytes 4 v
/-- An 8-byte little-endian field. -/
def w64 (v : Nat) : Bytes := leBytes 8 v
/-- A 1-byte field. -/
def w8 (v : Nat) : Bytes := [BitVec.ofNat 8 v]

/-- A 32-bit word as its four bytes in host memory (R6). -/
def wordBytes (w : Word) : Bytes := leBytes 4 w.toNat

/-- A mask of bits `f i` for i below `n`. -/
def maskOf : Nat → (Nat → Bool) → Nat
  | 0, _ => 0
  | n + 1, f => maskOf n f + (if f n then 2 ^ n else 0)

/-- The indices below `n` whose bit of `m` is set, in rising order. -/
def maskList (n m : Nat) : List Nat := (List.range n).filter (fun i => m.testBit i)

/-- The value with bit `i` set to `b`. -/
def setBit (m i : Nat) (b : Bool) : Nat := if b then m ||| 2 ^ i else if m.testBit i then m - 2 ^ i else m

/-- 16 bytes or fewer as a block, first byte highest, filled with zeros. -/
def toBlock (b : Bytes) : BitVec 128 := BitVec.ofNat 128 (beNat (padTo 16 b))

/-- The bytes of a block. -/
def blockBytes (b : BitVec 128) : Bytes := beBytes 16 b.toNat

/-- Data cut into blocks of 16 bytes, the last one perhaps shorter. -/
def blocksOf : Nat → Bytes → List Bytes
  | 0, _ => []
  | n + 1, b => if b.isEmpty then [] else b.take 16 :: blocksOf n (b.drop 16)

/-- The chaining value of AES-CMAC after whole blocks. -/
def cmacChain (key : Bytes) (chain : BitVec 128) (data : Bytes) : BitVec 128 :=
  (blocksOf data.length data).foldl (fun c b => Config.cmacStep key c (toBlock b)) chain

/-- AES-CMAC of a message (SP 800-38B): the last block, whole or partial, ends it. -/
def cmac (key data : Bytes) : BitVec 128 :=
  let n := (data.length - 1) / 16 * 16
  Config.cmacEnd key (cmacChain key 0 (data.take n)) (data.drop n)

end Sys2Proof.Machine
end

