-- ==== Sys2Proof/Machine/Tbl.lean ====
section
/-! DEFINITION. Sparse tables by key, fixed groups of like things, and byte-addressed memory in one canonical form. -/

namespace Sys2Proof.Machine

/-- Element `i` of a fixed group; the default value past its end. -/
def vget {α : Type} {n : Nat} [Inhabited α] (v : Vector α n) (i : Nat) : α := if h : i < n then v[i] else default

/-- A fixed group with element `i` changed; unchanged past its end. -/
def vmod {α : Type} {n : Nat} (v : Vector α n) (i : Nat) (f : α → α) : Vector α n :=
  if h : i < n then v.set i (f v[i]) else v

/-- A fixed group with element `i` replaced. -/
def vset {α : Type} {n : Nat} (v : Vector α n) (i : Nat) (x : α) : Vector α n := vmod v i (fun _ => x)

/-- The fixed group whose element `i` is `f i`. -/
def vtab {α : Type} (n : Nat) (f : Nat → α) : Vector α n := ⟨((List.range n).map f).toArray, by simp⟩

/-- A sparse table: key and value pairs, keys strictly rising. -/
abbrev Tbl (α : Type) := List (Nat × α)

/-- The value listed under a key. -/
def tget? {α : Type} (t : Tbl α) (k : Nat) : Option α := (t.find? (fun e => e.1 == k)).map (·.2)

/-- The value listed under a key, else `d`. -/
def tgetD {α : Type} (t : Tbl α) (k : Nat) (d : α) : α := (tget? t k).getD d

/-- The table with a value listed under a key. -/
def tset {α : Type} (t : Tbl α) (k : Nat) (x : α) : Tbl α :=
  match t with
  | [] => [(k, x)]
  | e :: es => if k < e.1 then (k, x) :: e :: es else if k = e.1 then (k, x) :: es else e :: tset es k x

/-- The table with no value under a key. -/
def tdel {α : Type} (t : Tbl α) (k : Nat) : Tbl α := t.filter (fun e => e.1 != k)

/-- The table with the value under a key changed, starting from `d` where none is listed. -/
def tmod {α : Type} (t : Tbl α) (k : Nat) (d : α) (f : α → α) : Tbl α := tset t k (f (tgetD t k d))

/-- Byte-addressed memory: the listed cells, addresses strictly rising, no cell equal to what an unlisted address
reads as. -/
abbrev Memory := List Host.Cell

/-- What an unlisted address reads as.
DESIGN CHOICE: the spec gives the mailbox RAM no contents beyond "start empty" (R51); it reads 0 (log 5). Unsafe. -/
def Memory.blank : BitVec 8 := 0

/-- The byte at an address. -/
def Memory.read (m : Memory) (a : Nat) : BitVec 8 :=
  match m with
  | [] => Memory.blank
  | c :: cs => if a = c.1 then c.2 else Memory.read cs a

/-- The cells with the byte at `a` replaced, in canonical form. -/
def Memory.write (m : Memory) (a : Nat) (v : BitVec 8) : Memory :=
  match m with
  | [] => if v = Memory.blank then [] else [(a, v)]
  | c :: cs =>
    if a < c.1 then (if v = Memory.blank then c :: cs else (a, v) :: c :: cs)
    else if a = c.1 then (if v = Memory.blank then cs else (a, v) :: cs)
    else c :: Memory.write cs a v

/-- Bytes written at rising addresses from `a`. -/
def Memory.writeAll (m : Memory) (a : Nat) : Bytes → Memory
  | [] => m
  | b :: bs => Memory.writeAll (Memory.write m a b) (a + 1) bs

/-- `n` bytes read at rising addresses from `a`. -/
def Memory.readAll (m : Memory) (a : Nat) : Nat → Bytes
  | 0 => []
  | n + 1 => Memory.read m a :: Memory.readAll m (a + 1) n

/-- Every address of the list lies above `lo`, addresses rise strictly, and no cell holds the blank value. -/
def Memory.above (lo : Nat) : Memory → Bool
  | [] => true
  | c :: cs => decide (lo < c.1) && (c.2 != Memory.blank) && Memory.above c.1 cs

/-- The canonical form of memory: strictly rising addresses, no cell equal to the blank value. -/
def Memory.wf (m : Memory) : Bool :=
  match m with
  | [] => true
  | c :: cs => (c.2 != Memory.blank) && Memory.above c.1 cs

end Sys2Proof.Machine
end

