-- ==== Sys2Proof/Machine/StateCrypt.lean ====
section
/-! DEFINITION. State of the cipher engine: MACsec, authentication profiles, host contexts and the crypto direct interface
(chapter 18 of the spec). -/

namespace Sys2Proof.Machine

/-- States of a secure association (R421); FREE associations are not listed. -/
inductive SaState where
  | installed | inUse | exhausted | stale
deriving DecidableEq, Repr, Inhabited

/-- A secure association (R421). -/
structure Sa where
  /-- The 48-byte record as written; PN is kept apart. -/
  record : Bytes
  /-- Transmit: next PN. Receive: lowest acceptable PN. -/
  pn : Nat
  state : SaState
  /-- CRYPT_PN_THRESHOLD has been given. -/
  warned : Bool
  /-- Installed by MKA (R424). -/
  mka : Bool
  /-- Which installation this is: a frame is processed wholly under the association it found (R20). -/
  run : Nat
deriving DecidableEq, Repr, Inhabited

/-- MACsec and MKA settings of a port (R420, R424). -/
structure MacPort where
  /-- The 8-byte policy. -/
  policy : Bytes
  /-- The active transmit association. -/
  txSa : Option Nat
  mkaEn : Bool
  mkaSuite : Nat
  mkaPriority : Nat
  cak : Nat
  sakFirst : Nat
  sakCount : Nat
  ckn : Bytes
deriving DecidableEq, Repr, Inhabited

/-- An authentication profile (R426): the 40-byte record as written, and its present freshness value. -/
structure Profile where
  record : Bytes
  fv : Nat
  /-- Its key slot has gone stale since it was written (R450). -/
  stale : Bool
deriving DecidableEq, Repr, Inhabited

/-- States of a host context (R431); FREE contexts are not listed. -/
inductive CtxState where
  | aad | data | invalid
deriving DecidableEq, Repr, Inhabited

/-- The chaining state of a GCM or CMAC operation: what the standards compute from the data so far. -/
structure Chain where
  aadLen : Nat
  dataLen : Nat
  /-- GCM counter block, or CMAC chaining value. -/
  chain : BitVec 128
  /-- GHASH accumulator. -/
  ghash : BitVec 128
deriving DecidableEq, Repr, Inhabited

/-- A host context (R430). -/
structure HostCtx where
  holder : Nat
  /-- 0 GCM_ENC, 1 GCM_DEC, 2 CMAC_GEN, 3 CMAC_VER. -/
  mode : Nat
  state : CtxState
  keySlot : Nat
  /-- The key slot's write count when the key was latched. -/
  epoch : Nat
  key : Bytes
  iv : Bytes
  tagLen : Nat
  chain : Chain
  /-- Its key slot has gone stale since the key was latched (R450). -/
  stale : Bool
deriving DecidableEq, Repr, Inhabited

/-- The block that a GO has handed over (R433): what CDI_CTRL, CDI_DIN and CDI_TAG held at that write. -/
structure CdiBlock where
  bytes : Nat
  final : Bool
  aad : Bool
  din : BitVec 128
  tag : BitVec 128
  tagLen : Nat
deriving DecidableEq, Repr, Inhabited

/-- The CDI registers and its open operation (R433, R434). -/
structure Cdi where
  owned : Bool
  owner : Transport
  mode : BitVec 2
  keySlot : BitVec 9
  bytes : BitVec 5
  final : Bool
  aad : Bool
  iv : BitVec 96
  din : BitVec 128
  dout : BitVec 128
  tag : BitVec 128
  err : Byte
  tagLen : BitVec 4
  keyChanged : Bool
  done : Bool
  /-- The block being processed: GO and BUSY read 1. -/
  job : Option CdiBlock
  active : Bool
  /-- The key latched by the first GO and its write count. -/
  opKey : Bytes
  opEpoch : Nat
  opMode : Nat
  opSlot : Nat
  chain : Chain
deriving DecidableEq, Repr, Inhabited

/-- Cipher counters (R438). -/
inductive CryptCtr where
  | txProtected | txClear | txHeldNoSa | rxOk | rxClear | rxBadIcv | rxReplay | rxNoSa | rxUntagged | rxTaggedDisabled
  | verified | authFail | replay | generated | exhausted
  | hostOps | grantDenied | lengthLimit | rngHealthFail
deriving DecidableEq, Repr, Inhabited

/-- The cipher engine. -/
structure Crypt where
  ports : Vector MacPort 25
  sas : Tbl Sa
  /-- Associations deleted or written anew while frames on their way name them (R20), by number. -/
  retired : List (Nat × Sa)
  /-- The next installation. -/
  nextRun : Nat
  profiles : Tbl Profile
  ctxs : Tbl HostCtx
  cdi : Cdi
  /-- The entropy source passes its health test, so reseeding goes on (R418). -/
  rngGood : Bool
  /-- Which start this is: the internal wrap key is drawn anew at every start (R432). -/
  starts : Nat
deriving DecidableEq, Repr, Inhabited

end Sys2Proof.Machine
end

