-- ==== Sys2Proof/Machine/StateNet.lean ====
section
/-! DEFINITION. State of the Ethernet side: forwarding, waybills, Customs, buffer, queues, policing, gates, redundancy, ports
and PHYs (chapters 06 to 10, 12 and 13 of the spec). -/

namespace Sys2Proof.Machine

/-- An FDB entry (R136). -/
structure FdbEntry where
  mac : BitVec 48
  fid : Nat
  dynamic : Bool
  multicast : Bool
  /-- Unicast: the fabric port. -/
  port : Nat
  /-- Unicast towards F25: the slot; otherwise 0xFF. -/
  slot : Nat
  portMask : Nat
  slotMask : Nat
  /-- Tick of the last refresh. -/
  refreshed : Nat
deriving DecidableEq, Repr, Inhabited

/-- A VLAN entry (R132). -/
structure Vlan where
  valid : Bool
  member : Nat
  untagged : Nat
  fid : Nat
  learn : Bool
  flood : Nat
  slots : Nat
deriving DecidableEq, Repr, Inhabited

/-- Port forwarding parameters (R160): the 24-byte record of R161, active and shadow. -/
structure FwdCfg where
  active : Bytes
  shadow : Bytes
deriving DecidableEq, Repr, Inhabited

/-- Why a frame is refused or revoked (R150, R157, R158). -/
inductive Cause where
  | runt | truncated | fcs | oversize | macsec | vlan | customs | stream | meter | rsvd | saGuard | noDest
  | admission | noWaybill
deriving DecidableEq, Repr, Inhabited

/-- A meter charge that a frame carries, with the parameters in force at classification (R151, R153). -/
structure Charge where
  meter : Nat
  /-- Charged on C (green); otherwise on E (yellow). -/
  green : Bool
  /-- A red or disabled meter charges nothing. -/
  amount : Nat
  cbs : Nat
  ebs : Nat
deriving DecidableEq, Repr, Inhabited

/-- The firewall's ruling for one destination zone of a frame (R171): the verdict at header time, its winner, and the
deep rules pending, with their records of the frame's generation (R21). -/
structure ZoneVerdict where
  zone : Nat
  permit : Bool
  /-- The winning border rule, if one won. -/
  winner : Option Nat
  /-- The winner's verdict was QUARANTINE (R182). -/
  quarantine : Bool
  /-- A conversation matched (R171, conv_hit). -/
  convHit : Bool
  /-- A TRACK pair under RULES or OPEN without a conversation: a permitted frame creates one (R179). -/
  create : Bool
  pending : List (Nat × Bytes)
deriving DecidableEq, Repr, Inhabited

/-- Firewall counters (R191). -/
inductive CustCtr where
  | ruleHits | canHits | canExcess | permitted | denied | convHits | convFull | mirrorLost | quarantines
deriving DecidableEq, Repr, Inhabited

/-- Policing counters (R237) and ingress buffer counters (R212). -/
inductive PolCtr where
  | greenFrames | greenBytes | yellowFrames | yellowBytes | redFrames
  | idHits | matched | passed | gateDrop | sduDrop | blockedDrop | closedDrop | convoyLimit | budgetDefer
deriving DecidableEq, Repr, Inhabited

/-- What the end of a frame does that was decided at header time, unless the frame has one of causes 1 to 4 of R150. -/
structure EndFacts where
  /-- The border rule whose hit is counted (R177). -/
  hit : Option Nat
  /-- The border rule that quarantines the ingress member (R182). -/
  quarantine : Option Nat
  /-- The stream filter that becomes BLOCKED (R232). -/
  block : Option Nat
  /-- Statistics to count, by scope index and name (R191, R237): firewall, then policing. -/
  cust : List (Nat × CustCtr)
  pol : List (Nat × PolCtr)
deriving DecidableEq, Repr, Inhabited

/-- A conversation key (R178). -/
inductive ConvKey where
  | ip (v6 : Bool) (src dst : Nat) (proto : Nat) (sport dport : Nat)
  | l2 (src dst : Nat) (etype : Nat) (vid : Nat)
deriving DecidableEq, Repr, Inhabited

/-- What a frame's classification found of MACsec, under which it is handled to its end (R20, R420, R423). -/
structure MacView where
  /-- The policy of its port. -/
  policy : Bytes
  /-- Its receive association and full packet number. -/
  sa : Option (Nat × Nat)
  /-- Which installation of that association. -/
  run : Nat
  /-- The association it names is STALE (R425). -/
  stale : Bool
deriving DecidableEq, Repr, Inhabited

/-- A frame the device holds or rules on. -/
structure Frame where
  id : Nat
  /-- Ingress fabric port. -/
  ingress : Nat
  /-- For F25, the sending slot; otherwise 0xFF. -/
  slot : Nat
  /-- The bytes received, from the first byte of the destination address; without FCS for F25 to F27. -/
  bytes : Bytes
  /-- Ingress time-stamp, ns. -/
  stamp : Nat
  /-- Ingress time-stamp, 2⁻¹⁶ ns. -/
  stampFrac : Nat
  /-- The last byte is in. -/
  ended : Bool
  /-- Confirmed (R150). -/
  confirmed : Bool
  /-- Confirmed or revoked. -/
  ruled : Bool
  /-- The EtherType after the tags. -/
  etype : Nat
  /-- A path probe (R300): sent in the clear, and counted by no counter of the port or queue. -/
  probe : Bool
  /-- Conversation key (R178), and whether a TCP frame carries FIN or RST (R180). -/
  key : Option ConvKey
  fin : Bool
  /-- LEARN_LIMIT of the port at classification (R22). -/
  learnLimit : Nat
  /-- BLOCK_OVERSIZE of the filter at classification (R232). -/
  blockOver : Bool
  /-- Confirmed, but eliminated by a recovery instance (R293). -/
  eliminated : Bool
  /-- Rule-table generation (R21). -/
  gen : Nat
  /-- Length estimate (R152). -/
  est : Nat
  /-- Cells charged at admission and the source charged (R203). -/
  cells : Nat
  fromReserve : Bool
  vid : Nat
  fid : Nat
  pcp : Nat
  tagged : Bool
  dei : Bool
  srcZone : Nat
  yellow : Bool
  charges : List Charge
  handle : Option Nat
  /-- The stream identification entry that gave the handle. -/
  streamEntry : Option Nat
  filter : Option Nat
  /-- The filter's MAX_SDU at classification; 0 no limit. -/
  maxSdu : Nat
  zones : List ZoneVerdict
  /-- The second pass ran (R176). -/
  deepDone : Bool
  /-- Deep rules whose window matched. -/
  deepHits : List Nat
  /-- The source may be learned (R139). -/
  learn : Bool
  /-- The sequence number a generator gave it (R290). -/
  genSeq : Option Nat
  /-- The recovery instance that takes it with its run (R288, R292), and the R-TAG number it carries. -/
  recovery : Option (Nat × Nat)
  rtag : Option Nat
  /-- Launch time of a transmit descriptor or route (R261). -/
  launch : Option Nat
  /-- The transmit ring it came from: slot, ring. -/
  ring : Option (Nat × Nat)
  /-- A one-step Sync, stamped as it leaves (R283). -/
  oneStep : Bool
  /-- Copies that left a port or reached a receive ring (R124). -/
  copies : Nat
  /-- Why the first copy dropped was dropped (R124). -/
  firstDrop : Option Nat
  /-- Egress time-stamp of the lowest-numbered external port: port, ns, fraction. -/
  egressStamp : Option (Nat × Nat × Nat)
  /-- A launch-timed copy was made (R124). -/
  launchUsed : Bool
  /-- A rule asked for a stamp (R126, R173). -/
  wantStamp : Bool
  mac : MacView
  /-- The cause among 1 to 4 of R150 found at the frame's end, if any. -/
  endCause : Option Cause
  /-- The MACsec cause counter of a MACSEC_FAIL: 0 bad ICV, 1 replay, 2 no SA (R423). -/
  secCause : Nat
  ends : EndFacts
deriving DecidableEq, Repr, Inhabited

/-- A frame being received on a port (R131, R150). -/
structure Rx where
  active : Bool
  /-- MAX_FRAME as latched at the first byte. -/
  maxFrame : Nat
  stamp : Nat
  stampFrac : Nat
  /-- The header has been handed over. -/
  handed : Bool
  /-- The refusal of stages 1 to 6, if any. -/
  refused : Option Cause
  /-- The frame record, once it has waybills. -/
  frame : Option Nat
  /-- A byte beyond MAX_FRAME arrived. -/
  excess : Bool
  /-- A receive error or link loss ended the reception. -/
  error : Bool
  /-- The frame has ended and its header is not yet handed over. -/
  ended : Bool
  /-- The cause found at the frame's end, if any. -/
  cause : Option Cause
  /-- A frame whose first mPacket is preemptable (R258). -/
  preempt : Bool
  /-- The MACsec cause counter of a MACSEC_FAIL: 0 bad ICV, 1 replay, 2 no SA, 3 untagged, 4 tagged while DISABLED. -/
  secCause : Nat
  /-- What its header found of MACsec, once handed over. -/
  mac : MacView
  /-- All bytes of the frame, once it has ended. -/
  bytes : Bytes
  ends : EndFacts
deriving DecidableEq, Repr, Inhabited

/-- Waybill states (R142). A FREE waybill is not listed. -/
inductive WbState where
  | held | provisional | confirmed | departing
deriving DecidableEq, Repr, Inhabited

/-- A waybill in use: one copy of a frame (R142 to R148). -/
structure Waybill where
  id : Nat
  frame : Nat
  ingress : Nat
  egress : Nat
  /-- Towards F25, the slot; otherwise 0xFF. -/
  slot : Nat
  tc : Nat
  state : WbState
  /-- The copy leaves tagged (R138). -/
  tagged : Bool
  /-- Cut-through (R148). -/
  cut : Bool
  /-- The border rule of a mirror copy (R173). -/
  mirror : Option Nat
  /-- Cells that have crossed the fabric. -/
  crossed : Nat
  /-- Egress has begun. -/
  begun : Bool
  /-- Its frame was revoked after egress began (R155). -/
  stomp : Bool
  /-- Cells counted in q of its egress queue. -/
  cells : Nat
  /-- Launch-timed (R261), with the launch time. -/
  launch : Option Nat
  /-- Local clock at admission (R235). -/
  since : Nat
  /-- The R-TAG number the copy carries in an added R-TAG (R290). -/
  addRtag : Option Nat
  /-- The window in which WINDOW_MISS last counted it (R250). -/
  missed : Option Nat
  /-- TX_HELD_NO_SA has counted it (R425). -/
  heldNoSa : Bool
  /-- Its last cell has crossed to F25: it has left its VOQ (R195). -/
  left : Bool
  /-- The MACsec policy of its port when its frame was classified (R420). -/
  policy : Bytes
deriving DecidableEq, Repr, Inhabited

/-- Port counters (R157), in table order. -/
inductive PortCtr where
  | rxFrames | rxBytes | rxUcast | rxMcast | rxBcast | runt | oversize | fcsErr | truncated | macsecFail | vlanDrop
  | customsDrop | streamDrop | meterDrop | rsvdDrop | saGuard | noDest | admission | noWaybill | revoked
  | stompCaused | held | learnFull | learnRefused | txFrames | txBytes | txCutThrough | stompedTx
deriving DecidableEq, Repr, Inhabited

/-- Pipeline statistics (R159). -/
structure PipeStats where
  provHigh : Nat
  waybillsLow : Nat
  heldFrames : Nat
deriving DecidableEq, Repr, Inhabited

/-- The matrix object of Customs (R188). -/
structure Matrix where
  /-- Zone-pair entries by source × 32 + destination; unlisted pairs are 0 (BLOCK). -/
  pairs : Tbl Nat
  /-- Zones by member code; unlisted members have none. -/
  zones : Tbl Nat
  /-- Zone map entries: member, VID, zone. -/
  zoneMap : Tbl (Nat × Nat × Nat)
  /-- Default CAN verdicts by source code; unlisted sources PERMIT (1). -/
  canDefault : Tbl Nat
deriving DecidableEq, Repr, Inhabited

/-- States of a partition (R189), codes 0 to 2. -/
inductive PartState where
  | idle | armed | retiring
deriving DecidableEq, Repr, Inhabited

/-- A swap that waits for its instant or for the old generation to retire. -/
structure Swap where
  /-- Border mask (bits 0 to 15), CAN mask (16 to 31), matrix (32). -/
  mask : Nat
  /-- The instant of a timed swap. -/
  instant : Option Nat
  /-- The generation it retires, once swapped. -/
  old : Nat
  /-- The new banks are active. -/
  swapped : Bool
  slot : Nat
  tag : Half
deriving DecidableEq, Repr, Inhabited

/-- A conversation (R178 to R180). -/
structure Conv where
  key : ConvKey
  orig : Nat
  resp : Nat
  /-- 0 TCP, 1 UDP and other IP, 2 ICMP echo, 3 layer 2. -/
  kind : Nat
  closing : Bool
  /-- Tick of the last refresh. -/
  refreshed : Nat
deriving DecidableEq, Repr, Inhabited

/-- A CAN rule's bucket (R186): level in units of 10⁻¹² frame, and the time of the last charge in ns. -/
structure CanBucket where
  level : Nat
  last : Nat
deriving DecidableEq, Repr, Inhabited

/-- The firewall. -/
structure Customs where
  matrix : Matrix
  matrixStaged : Matrix
  border : Tbl Bytes
  borderStaged : Tbl Bytes
  canRules : Tbl Bytes
  canStaged : Tbl Bytes
  buckets : Tbl CanBucket
  parts : Vector PartState 33
  swaps : List Swap
  /-- The generation (R188). -/
  gen : Nat
  convs : List Conv
  /-- The five timeouts of R180, in s. -/
  timeouts : Vector Nat 5
  /-- Quarantined members, by member code. -/
  quarantined : List Nat
  /-- Those of them that the Drover quarantined (cause 2 of R183) and no host command has touched since. -/
  byDrover : List Nat
  /-- Frames that found the table full since the last CONV_FULL event. -/
  convFull : Nat
  /-- The tick of the last CONV_FULL event. -/
  convFullAt : Option Nat
deriving DecidableEq, Repr, Inhabited

/-- Queue parameters of commit block 2 (R216). -/
structure QueueCfg where
  express : Bool
  weight : Nat
  overhead : Nat
deriving DecidableEq, Repr, Inhabited

/-- Queue timing of commit block 3 (R259, R261). -/
structure QueueTiming where
  launchEn : Bool
  maxSdu : Nat
  lateTol : Nat
deriving DecidableEq, Repr, Inhabited

/-- Queue caps of commit block 6 (R206). -/
structure QueueCap where
  cap : Nat
  ycap : Nat
deriving DecidableEq, Repr, Inhabited

/-- Shaper fields (R221). -/
structure ShaperCfg where
  enable : Bool
  rate : Nat
  burst : Nat
deriving DecidableEq, Repr, Inhabited

/-- Sampling of a queue and its histogram record (R235, R236). -/
structure Sampling where
  enable : Bool
  period : Nat
  depthScale : Nat
  sojournScale : Nat
  start : Nat
  samples : Nat
  depthMin : Nat
  depthMax : Nat
  sojournMin : Nat
  sojournMax : Nat
  saturated : Bool
  depthBins : Vector Nat 16
  sojournBins : Vector Nat 16
deriving DecidableEq, Repr, Inhabited

/-- An egress queue (port, class). -/
structure Queue where
  cfg : QueueCfg
  cfgShadow : QueueCfg
  timing : QueueTiming
  timingShadow : QueueTiming
  caps : QueueCap
  capsShadow : QueueCap
  /-- q of R203, in cells. -/
  depth : Nat
  depthHigh : Nat
  shaper : ShaperCfg
  /-- Fields written and not yet taken by a refill (R223). -/
  shaperNew : Option ShaperCfg
  /-- Credit in units of 2⁻³² byte, signed. -/
  credit : Int
  /-- The head's finish tag, 40 bits (R218). -/
  tag : Option Nat
  /-- fprev of R218. -/
  fprev : Nat
  sampling : Sampling
  /-- Waybills whose first cell has crossed, in order (R195). -/
  waiting : List Nat
  /-- The head is held only by its shaper since this tick (R237). -/
  shaperHeld : Option Nat
deriving DecidableEq, Repr, Inhabited

/-- Meter fields (R224). -/
structure MeterCfg where
  enable : Bool
  aware : Bool
  coupling : Bool
  cir : Nat
  cbs : Nat
  eir : Nat
  ebs : Nat
deriving DecidableEq, Repr, Inhabited

/-- A meter: its fields and its buckets, in units of 1/6,400,000 byte (1 kbit/s for one 1.25 ns tick). -/
structure Meter where
  cfg : MeterCfg
  shadow : MeterCfg
  c : Int
  e : Int
  /-- It has been enabled since the start, so its buckets were filled (R225). -/
  primed : Bool
  /-- Tick of the last update. -/
  last : Nat
deriving DecidableEq, Repr, Inhabited

/-- States of the stream identification table (R230). -/
structure StreamIds where
  active : Tbl Bytes
  staged : Tbl Bytes
  retiring : Bool
  swaps : List Swap
deriving DecidableEq, Repr, Inhabited

/-- A stream filter: the 16-byte record, active and shadow, and BLOCKED (R231). -/
structure Filter where
  active : Bytes
  shadow : Bytes
  blocked : Bool
deriving DecidableEq, Repr, Inhabited

/-- A stream gate list (R234). -/
structure SGateList where
  base : Nat
  cycle : Nat
  initOpen : Bool
  initIpv : Nat
  closeOnInvalid : Bool
  /-- Entries: open, IPV, interval. -/
  entries : List (Bool × Nat × Nat)
deriving DecidableEq, Repr, Inhabited

/-- A stream gate. -/
structure SGate where
  active : Option SGateList
  shadow : Option SGateList
  /-- The start instant of the list. -/
  start : Nat
  started : Bool
  entry : Nat
  isOpen : Bool
  ipv : Nat
  /-- Closed permanently (CLOSE_ON_INVALID). -/
  shut : Bool
deriving DecidableEq, Repr, Inhabited

/-- Buffer accounting and admission parameters (R202 to R206). -/
structure Buffer where
  reserve : Vector Nat 28
  reserveShadow : Vector Nat 28
  alpha : Vector Nat 8
  alphaShadow : Vector Nat 8
  usedRes : Vector Nat 28
  resMax : Vector Nat 28
  /-- f, signed. -/
  free : Int
  sharedMin : Int
  headroomMax : Nat
deriving DecidableEq, Repr, Inhabited

/-- A frame on the line of an egress port. -/
structure OnLine where
  waybill : Nat
  /-- Instant at which its present fragment started, in ps of local time. -/
  startPs : Nat
  /-- Instant at which the frame started: its egress stamp (R281, R282). -/
  stampPs : Nat
  /-- Tick of its start. -/
  startTick : Nat
  /-- Data bytes sent in earlier fragments. -/
  sent : Nat
  /-- Preemptable (R253). -/
  preemptable : Bool
  /-- The point, in data bytes, at which it is to be cut (R255, R257). -/
  cutAt : Option Nat
  /-- T of R216. -/
  length : Nat
  fragments : Nat
  /-- The association and packet number that protect it (R422). -/
  secure : Option (Nat × Nat)
  /-- It carries bits of correctionField added on egress (R282). -/
  corrected : Bool
  /-- Egress began before its frame was confirmed (R157, TX_CUT_THROUGH). -/
  early : Bool
  /-- Its shaped and tagged bytes were taken over a fragment already (R256): it has been cut at least once. -/
  wasCut : Bool
deriving DecidableEq, Repr, Inhabited

/-- Gate list header and entries (R241, R242). -/
structure GateList where
  /-- The 32-byte header. -/
  header : Bytes
  /-- The 256 entries of 8 bytes, by index; unlisted entries are the reset entry. -/
  entries : Tbl Bytes
deriving DecidableEq, Repr, Inhabited

/-- Gate states (R245). -/
inductive GateState where
  | disabled | running | pending
deriving DecidableEq, Repr, Inhabited

/-- Preemption status (R253). -/
inductive PreemptStatus where
  | disabled | verifying | active | failed
deriving DecidableEq, Repr, Inhabited

/-- Gates and preemption of a port. -/
structure PortGate where
  admin : GateList
  oper : GateList
  state : GateState
  /-- The state before PENDING. -/
  before : GateState
  /-- S of R243. -/
  start : Nat
  /-- The current entry. -/
  entry : Nat
  hold : Bool
  /-- C of R246. -/
  changeAt : Nat
  pastBase : Bool
  changeLate : Bool
  preemptEn : Bool
  verifyEn : Bool
  verifyMs : Nat
  status : PreemptStatus
  attempts : Nat
deriving DecidableEq, Repr, Inhabited

/-- Gate counters of a queue and of a port (R264), scheduling counters (R237) and buffer counters (R212). -/
inductive QCtr where
  | admitted | capDrop | yellowDrop | dtDrop | linkDrop | flushed | linkAbort | txFrames | txBytes | shaperHoldNs
  | windowMiss | windowDrop | windowOverrun | sduDrop | sduOverrun | lateDrop | launchLateSent
deriving DecidableEq, Repr, Inhabited

inductive GateCtr where
  | fragmentsTx | preemptions | holds | fragmentsRx | assemblyErr | verifyFail
deriving DecidableEq, Repr, Inhabited

/-- Fabric matching state (R196 to R200). -/
structure Fabric where
  /-- g[j]. -/
  grant : Vector Nat 28
  /-- a[i]. -/
  accept : Vector Nat 28
  /-- c[i][j], keyed i × 28 + j; unlisted pointers are 0. -/
  cls : Tbl Nat
deriving DecidableEq, Repr, Inhabited

/-- Egress side of an external port. -/
structure Egress where
  /-- The virtual time V, 40 bits (R218). -/
  v : Nat
  /-- The frame on the line. -/
  line : Option OnLine
  /-- A preempted frame that waits to resume. -/
  paused : Option OnLine
  /-- LINK_HOLD in ms, active and shadow (R209). -/
  linkHold : Nat
  linkHoldShadow : Nat
  /-- A hold runs. -/
  holding : Bool
  /-- The hold expired or was 0: copies offered count LINK_DROP (R211). -/
  dropping : Bool
  /-- The active transmit association has run out, so protected copies see a link down (R425): the hold runs. -/
  secHolding : Bool
  /-- That hold has expired: protected copies offered count LINK_DROP. -/
  secDropping : Bool
deriving DecidableEq, Repr, Inhabited

/-- FRER generator (R290). -/
structure Generator where
  /-- The 4-byte record. -/
  record : Bytes
  enabled : Bool
  next : Nat
deriving DecidableEq, Repr, Inhabited

/-- FRER recovery instance (R294). -/
structure Recovery where
  /-- The 16-byte record. -/
  record : Bytes
  enabled : Bool
  r : Nat
  /-- The history, bit k for number r − k. -/
  history : Nat
  takeAny : Bool
  /-- Number of its present record or enabling: frames classified under an earlier one are decided by that one (R288). -/
  run : Nat
  /-- PASSED and ELIMINATED at the last report boundary (R295). -/
  basePassed : Int
  baseEliminated : Int
deriving DecidableEq, Repr, Inhabited

/-- Protection states (R298), codes 0 to 5. -/
inductive ProtState where
  | disabled | onA | onB | wtr | forcedA | forcedB
deriving DecidableEq, Repr, Inhabited

/-- A backbone member (R297, R300). -/
structure Member where
  sqiBad : Bool
  probeBad : Bool
  remote : Bool
  txSeq : Nat
  lastRx : Nat
  /-- A probe has been received on this member. -/
  seen : Bool
  /-- Lowest SQI in the second. -/
  lowSqi : Nat
  /-- PROBES_RX and PROBES_LOST at the last report. -/
  baseRx : Int
  baseLost : Int
  /-- The member was faulty when last judged (R297). -/
  faulty : Bool
deriving DecidableEq, Repr, Inhabited

/-- Backbone redundancy. -/
structure Red where
  gens : Tbl Generator
  recs : Tbl Recovery
  /-- Earlier runs of recovery instances that frames on their way still name (R288). -/
  retired : List (Nat × Recovery)
  /-- The 16-byte protection record. -/
  protect : Bytes
  state : ProtState
  /-- The active member is B. -/
  onB : Bool
  members : Vector Member 2
  /-- Tick at which the wait to restore started. -/
  wtrSince : Nat
  /-- Subscribed slots. -/
  subscribed : BitVec 16
  /-- LOST and ROGUE of all instances at the last report. -/
  baseLost : Int
  baseRogue : Int
  /-- SWITCHES since start. -/
  switches : Nat
  /-- The whole second of the local clock that the last report has ended with (R301). -/
  second : Nat
deriving DecidableEq, Repr, Inhabited

/-- Redundancy counters (R302). -/
inductive RedCtr where
  | generated | passed | eliminated | outOfOrder | rogue | lost | tagless | resets | latentErrors
  | probesTx | probesRx | probesLost | faults | switches | wtrRestarts
deriving DecidableEq, Repr, Inhabited

/-- Link states (R307), codes 0 to 5. -/
inductive LinkState where
  | disabled | down | grantWait | training | up | asleep
deriving DecidableEq, Repr, Inhabited

/-- Camera power states (R317), codes 0 to 4. -/
inductive PodlState where
  | off | inrushWait | inrush | powered | fault
deriving DecidableEq, Repr, Inhabited

/-- An external port's PHY (R304 to R315). -/
structure Phy where
  /-- The 16-byte mode record, active and shadow. -/
  mode : Bytes
  modeShadow : Bytes
  /-- The 8-byte PLCA record, active and shadow. -/
  plca : Bytes
  plcaShadow : Bytes
  link : LinkState
  /-- Rate in force, Mbit/s; kept while down. -/
  rate : Nat
  sqi : Nat
  /-- The rate the attempt runs at, Mbit/s, and attempts made at it. -/
  tryRate : Nat
  attempts : Nat
  /-- The attempt is fast. -/
  fast : Bool
  /-- A stored coefficient set with its rate in force (R308). -/
  stored : Option Nat
  /-- The result of the last fast attempt: 0 none, 1 accepted, 2 rejected. -/
  fastResult : Nat
  /-- Local clock of the last change of state. -/
  changed : Nat
  wakeEn : Bool
  acceptSleep : Bool
  /-- The next attempt may be fast (after a link loss, a resume or a TC10 wake). -/
  mayFast : Bool
  /-- The next or present attempt was begun by a command (R322). -/
  byCommand : Bool
deriving DecidableEq, Repr, Inhabited

/-- PHY counters (R323). -/
inductive PhyCtr where
  | linkUps | linkDowns | fastOk | coeffReject | tc10WakeRx | tc10WakeTx | fallbacks | grantDefer
  | fecCorrected | fecUncorrected | beaconConflict | beaconLoss | short | overload | inrush | undercurrent | switch
deriving DecidableEq, Repr, Inhabited

/-- Camera power of a port P5 to P16 (R316 to R319). -/
structure Podl where
  /-- The 16-byte power record. -/
  record : Bytes
  state : PodlState
  /-- The latched cause, 0 none. -/
  cause : Nat
  /-- Measured current in mA. -/
  current : Nat
  /-- The current measured when the last fault was latched. -/
  trip : Nat
  /-- The last host command was OFF. -/
  hostOff : Bool
  /-- POWERED at sleep entry (R317). -/
  wasOn : Bool
  /-- Waiting has counted BOARD_WAITS. -/
  waited : Bool
deriving DecidableEq, Repr, Inhabited

/-- Time counters (R287). -/
inductive TimeCtr where
  | tcCorrected | syncRx | syncTimeouts | pdelayLost | steps | captures | capOverflow | pulses
deriving DecidableEq, Repr, Inhabited

/-- A frame built inside the device (firmware on F27, tunnels on F26) that waits to be handed whole to its pipeline
(R18, R129). -/
structure OutFrame where
  /-- 26 or 27. -/
  ingress : Nat
  /-- From destination address to the end of the payload, without FCS. -/
  bytes : Bytes
  /-- The one external port it is for, where firmware names one. -/
  direct : Option Nat
  /-- Launch time (R261). -/
  launch : Option Nat
  /-- The class firmware gives it, where it does not come from the tag. -/
  tc : Option Nat
  /-- A one-step Sync (R283). -/
  oneStep : Bool
deriving DecidableEq, Repr, Inhabited

/-- An envelope frame at F27 (R79, R81): its ingress port, addresses, VLAN identifier as tagged, and what follows the EtherType. -/
structure Inbound where
  port : Nat
  dst : BitVec 48
  src : BitVec 48
  vid : BitVec 12
  body : Bytes
deriving DecidableEq, Repr, Inhabited

/-- The Ethernet side. -/
structure Net where
  /-- Frames built inside the device and not yet handed to a pipeline, oldest first. -/
  outbox : List OutFrame
  /-- Envelope frames that have reached F27 through the fabric and are not yet verified (R82), oldest first. -/
  inbox : List Inbound
  vlans : Tbl Vlan
  /-- FDB entries by bucket × 8 + way. -/
  fdb : Tbl FdbEntry
  /-- AGE_TIME in s. -/
  ageTime : Nat
  fwd : Vector FwdCfg 28
  rx : Vector Rx 25
  frames : List Frame
  waybills : List Waybill
  nextFrame : Nat
  nextWaybill : Nat
  stats : PipeStats
  customs : Customs
  buffer : Buffer
  queues : Vector Queue 224
  fabric : Fabric
  egress : Vector Egress 25
  meters : Tbl Meter
  streamIds : StreamIds
  filters : Tbl Filter
  sgates : Vector SGate 64
  gates : Vector PortGate 25
  red : Red
  phys : Vector Phy 25
  podl : Vector Podl 12
  /-- PCIe link in L0 (R92, R106). -/
  pcieUp : Bool
  /-- The transmit ring whose turn is next, 4 × slot + ring, and the tick from which F25 takes another frame (R125). -/
  ringTurn : Nat
  f25Free : Nat
deriving DecidableEq, Repr, Inhabited

end Sys2Proof.Machine
end

