-- ==== Sys2Proof/Machine/StateEdge.lean ====
section
/-! DEFINITION. State of the CAN, LIN and serial channels, the relay engines with their routes and tunnels, and
time-redundant execution (chapters 14 to 17 of the spec). -/

namespace Sys2Proof.Machine

/-- A CAN, LIN or serial frame as the relay complex handles it. -/
structure CanFrame where
  /-- CAN_ID of R127: bits [28:0] identifier, bit 29 IDE, bit 30 RTR. LIN: the protected identifier; serial: the first
  byte. -/
  id : Nat
  /-- FORMAT of R127; 0x08 LIN, 0x10 serial (R412). -/
  format : Nat
  af : Nat
  sdt : Nat
  vcid : Nat
  data : Bytes
deriving DecidableEq, Repr, Inhabited

/-- A CAN transmit descriptor that waits for the fate of its frames: slot, ring and number (R127). -/
structure RingRef where
  slot : Nat
  ring : Nat
  number : Nat
  /-- A time-stamp was requested: the descriptor returns once a frame has been sent. -/
  ts : Bool
deriving DecidableEq, Repr, Inhabited

/-- A frame in a CAN transmit queue or slot (R332 to R334). -/
structure CanTx where
  frame : CanFrame
  queue : Nat
  launch : Option Nat
  deadline : Option Nat
  /-- RETX_MODE and RETX_MAX in force when it was enqueued. -/
  mode : Nat
  max : Nat
  /-- Attempts that ended in an error. -/
  failed : Nat
  /-- Its deadline has passed during an attempt: no further attempt is made (R339). -/
  expired : Bool
  /-- Its queue was flushed during an attempt (R353). -/
  flushed : Bool
  ring : Option RingRef
  /-- It is an NM frame of the sleep sequence (R482). -/
  nm : Bool
  /-- The order in which it was loaded into its slot. -/
  loaded : Nat
deriving DecidableEq, Repr, Inhabited

/-- Channel states (R326), codes 0 to 6. -/
inductive CanState where
  | off | normal | listenOnly | restricted | busOff | recovering | detecting
deriving DecidableEq, Repr, Inhabited

/-- An entry of a receive FIFO (R343, R345, R357). -/
structure RxEntry where
  handle : Nat
  /-- Time-stamp in ns. -/
  stamp : Nat
  frame : CanFrame
  /-- The order in which the channel's frames became valid. -/
  seq : Nat
  /-- Owned by its consumer: claimed by the owner slot, or taken by an engine. -/
  owned : Bool
deriving DecidableEq, Repr, Inhabited

/-- A receive FIFO with its shadow slot (R343, R344). -/
structure Fifo where
  /-- Entries in order of arrival. -/
  entries : List RxEntry
  shadow : Option RxEntry
  /-- Overruns since the last CAN_RX_OVERRUN event, and the fabric tick of that event. -/
  overruns : Nat
  eventAt : Option Nat
deriving DecidableEq, Repr, Inhabited

/-- A rate detection in progress (R351). -/
structure Detect where
  candidates : List Bytes
  current : Nat
  slot : Nat
  tag : Half
deriving DecidableEq, Repr, Inhabited

/-- A change of state commanded and not yet applied (R327, R356): the code and the command that waits for it. -/
structure Wanted where
  code : Nat
  slot : Nat
  tag : Half
deriving DecidableEq, Repr, Inhabited

/-- A CAN channel. -/
structure CanChan where
  /-- The 32-byte configuration record (R328). -/
  record : Bytes
  state : CanState
  /-- Changes of state that wait, oldest first. -/
  wanted : List Wanted
  tec : Nat
  rec_ : Nat
  /-- The last error code (R347). -/
  lastErr : Nat
  queues : Vector (List CanTx) 8
  /-- RETX_MODE and RETX_MAX of each queue. -/
  retx : Vector (Nat × Nat) 8
  slots : Vector (Option CanTx) 3
  /-- The slot whose attempt is on the bus. -/
  sending : Option Nat
  /-- A frame of another node is in progress: since a lost arbitration, or since a command found it so (R327). -/
  receiving : Bool
  /-- The slot pointer of SLOT_NUMBER (R336). -/
  pointer : Nat
  /-- Loads so far, for R335. -/
  loads : Nat
  filters : Vector Bytes 16
  fifos : Vector Fifo 2
  /-- Frames that have become valid so far. -/
  nextSeq : Nat
  detect : Option Detect
  /-- The state held at sleep entry (R327). -/
  kept : CanState
deriving DecidableEq, Repr, Inhabited

/-- CAN counters (R355), in table order. -/
inductive CanCtr where
  | rxFrames | rxFiltered | overrun | xlPoolDrop | pexEvents
  | txFrames | txQueueFull | slotPreempt | arbLost | retx | retxExhausted | lifetimeAbort | flushAbort
  | errStuff | errForm | errAck | errBit | errCrc | errorPassive | busOffs | recoveries
  | dominantTimeout | busDominant | vcc5Holds
deriving DecidableEq, Repr, Inhabited

/-- An entry of a LIN frame table (R360). -/
structure LinFrame where
  direction : Nat
  length : Nat
  checksum : Nat
deriving DecidableEq, Repr, Inhabited

/-- A publish buffer (R360, R361). -/
structure Publish where
  data : Bytes
  /-- Written since that frame was last sent. -/
  fresh : Bool
deriving DecidableEq, Repr, Inhabited

/-- A LIN channel (R356 to R364); states 0 OFF, 1 ACTIVE, 2 ASLEEP. -/
structure LinChan where
  /-- The 8-byte record. -/
  record : Bytes
  state : Nat
  /-- Changes of state that wait, oldest first. -/
  wanted : List Wanted
  frames : Vector LinFrame 64
  publish : Vector Publish 64
  /-- The four schedule tables, entries of 4 bytes. -/
  tables : Vector (List Bytes) 4
  table : Nat
  /-- The next entry to run. -/
  entry : Nat
  /-- The entry running. -/
  running : Nat
  /-- A selection made within the entry in progress. -/
  selected : Option Nat
  /-- The table and entry to resume after an event-triggered collision. -/
  resume : Option (Nat × Nat)
  /-- The header on the bus whose response is awaited: identifier and entry type. -/
  awaiting : Option (Nat × Nat)
  /-- The go-to-sleep command is to be sent after the entry in progress (R363). -/
  sleepDue : Bool
  /-- A master waits 100 ms after a wake (R364). -/
  resuming : Bool
  fifo : Fifo
  nextSeq : Nat
deriving DecidableEq, Repr, Inhabited

/-- LIN counters (R370), in order. -/
inductive LinCtr where
  | rxFrames | txFrames | overrun | noResponse | partialFrames | checksumErr | syncErr | frameErr | bitErr
  | collisionsResolved | wakes
deriving DecidableEq, Repr, Inhabited

/-- A serial message to send (R366, R367). -/
structure SerTx where
  data : Bytes
  priority : Nat
  deadline : Option Nat
  /-- Attempts that ended in a collision. -/
  failed : Nat
  expired : Bool
deriving DecidableEq, Repr, Inhabited

/-- A UART (R356, R365 to R368); states 0 OFF, 1 ACTIVE. -/
structure UartChan where
  /-- The 16-byte record. -/
  record : Bytes
  state : Nat
  /-- Changes of state that wait, oldest first. -/
  wanted : List Wanted
  /-- The transmit queue; while `sending`, its head is on the line. -/
  queue : List SerTx
  sending : Bool
  /-- A message is being received, as a command has found (R356). -/
  receiving : Bool
  fifo : Fifo
  nextSeq : Nat
deriving DecidableEq, Repr, Inhabited

/-- UART counters (R370), in order. -/
inductive UartCtr where
  | rxMessages | txMessages | overrun | frameErr | checksumErr | collision | retxExhausted | lifetimeAbort | txQueueFull
deriving DecidableEq, Repr, Inhabited

/-- A frame on its way through the relay complex (R371). -/
structure RMsg where
  /-- Source code of R184. -/
  source : Nat
  frame : CanFrame
  /-- Start-of-frame stamp; for a tunnel the ingress stamp of the tunnel frame, for a ring its LAUNCH_TIME is separate. -/
  stamp : Nat
  /-- message_timestamp of an ACF message with mtv 1. -/
  acf : Option Nat
  /-- LAUNCH_TIME of a transmit descriptor. -/
  launch : Option Nat
  ring : Option RingRef
  /-- The FIFO entry it came in: FIFO and handle. -/
  entry : Option (Nat × Nat)
  /-- Customs has ruled on it already and permitted it (R187). -/
  charged : Bool
deriving DecidableEq, Repr, Inhabited

/-- One output of a job (R379 to R381, R386, R387). -/
structure ROut where
  /-- The route that made it. -/
  route : Nat
  dest : Nat
  queue : Nat
  frame : CanFrame
  launch : Option Nat
  deadline : Option Nat
  escorted : Bool
  flush : Bool
  wakeFwd : Bool
  /-- Captured by an escorted job: the destination segment was ASLEEP (R403). -/
  asleep : Bool
  /-- PAD_BYTE of the route. -/
  pad : BitVec 8
deriving DecidableEq, Repr, Inhabited

/-- A place that a main run holds data in (R397, R411). -/
inductive RunPlace where
  | reg (r : Nat)
  | scratch (off : Nat)
deriving DecidableEq, Repr, Inhabited

/-- A debugger's write, logged for replay with the main run's instruction count (R411). -/
structure LoggedWrite where
  count : Nat
  place : RunPlace
  value : Word
deriving DecidableEq, Repr, Inhabited

/-- A job in one of an engine's contexts (R373, R396). -/
structure RJob where
  number : Nat
  msg : RMsg
  escorted : Bool
  /-- Outputs held until the signatures compare (R376). -/
  held : List ROut
  /-- At least one output has been delivered. -/
  delivered : Bool
  /-- The status of the first refused output (R381). -/
  refused : Option Half
  /-- The check run has ended. -/
  checked : Bool
  /-- Outputs to virtual CAN ports not yet written to host memory. -/
  waiting : Nat
  /-- Frames on their way whose sending returns the descriptor (R127, TS). -/
  pendingTs : Nat
  /-- Tick at which its main run began. -/
  began : Nat
  /-- The generation in force when it started (R21, R373). -/
  gen : Nat
  /-- The agreement buffer of an escorted job, at most 16 entries (R403). -/
  agreed : List DWord
  /-- The main run's committed values, in order (R399, R400). -/
  values : List Word
  /-- Instructions that the debugger stepped, the main run's registers as it wrote them, and its writes, oldest first (R411). -/
  insns : Nat
  regs : Tbl Word
  log : List LoggedWrite
deriving DecidableEq, Repr, Inhabited

/-- Engine states (R391), codes 0 to 2. -/
inductive EngineState where
  | inService | selfTest | retired
deriving DecidableEq, Repr, Inhabited

/-- The start value of a signature register (R401). -/
def signStart : DWord := 0xFFFFFFFFFFFFFFFF

/-- A relay engine (R390 to R392, R396, R401 to R406). -/
structure EngineRec where
  state : EngineState
  /-- The contexts in use, at most four. -/
  jobs : List RJob
  /-- The source codes from which the next turns of channel sources and of other sources look (R372). -/
  lastChan : Nat
  lastOther : Nat
  /-- STD_WINDOW in force for the open window. -/
  window : Nat
  /-- Standard jobs in the open window, with its first and last job number. -/
  inWindow : Nat
  firstJob : Nat
  lastJob : Nat
  /-- The signature registers of the main and the check runs of the open window (R401). -/
  sigMain : DWord
  sigCheck : DWord
  /-- NORM_BYTE in force (R400, R412). -/
  norm : BitVec 8
  /-- The 8 KiB of scratch memory, by word offset; unlisted words are 0 (R397). -/
  scratch : Tbl Word
  /-- ESC_INJECT waits for the next window of a class. -/
  injectStd : Bool
  injectEsc : Bool
  /-- Ticks of its transient faults. -/
  transients : List Nat
  /-- The self-test in progress follows a mismatch; false for a command's test. -/
  fault : Bool
  /-- The command that asked for the self-test. -/
  testFor : Option (Nat × Half)
  /-- A debugger holds it halted. -/
  halted : Bool
  /-- Jobs of the last second: the tick at which each began and its quarter job units (R392, R393). -/
  work : List (Nat × Nat)
deriving DecidableEq, Repr, Inhabited

/-- An open tunnel frame (R384): its messages as ACF bytes, and the launch instant one of them carries. -/
structure OpenFrame where
  messages : Nat
  bytes : Bytes
  launch : Option Nat
deriving DecidableEq, Repr, Inhabited

/-- A tunnel (R382 to R385). -/
structure Tunnel where
  /-- The 32-byte record. -/
  record : Bytes
  /-- The next sequence_num sent. -/
  txSeq : Nat
  /-- The last sequence_num received. -/
  rxSeq : Option Nat
  open_ : Option OpenFrame
deriving DecidableEq, Repr, Inhabited

/-- A frame for a slot's CAN receive rings (R127). -/
structure VOut where
  slot : Nat
  vport : Nat
  source : Nat
  stamp : Nat
  frame : CanFrame
  /-- The class its route assigns: QUEUE (R127, R374). -/
  tc : Nat
  route : Nat
  /-- The job that sent it: engine and number. -/
  engine : Nat
  job : Nat
deriving DecidableEq, Repr, Inhabited

/-- Relay counters (R395). -/
inductive RelayCtr where
  | hits | formatDrop | enqueueDrop | lifetime | segAsleep | wakeFwd
  | jobs | noRoute | fanoutLimit
  | txFrames | txMsgs | tooLong | rxFrames | rxMsgs | seqGap | acfSkipped | acfMalformed
  | engineJobs | selfTests | transients
  | noTunnel
deriving DecidableEq, Repr, Inhabited

/-- The relay complex. -/
structure Relay where
  routes : Tbl Bytes
  routesStaged : Tbl Bytes
  parts : Vector PartState 16
  swaps : List Swap
  tunnels : Tbl Tunnel
  /-- Sources whose home differs from R390. -/
  homes : Tbl Nat
  engines : Vector EngineRec 12
  /-- Frames of virtual ports and tunnels that wait for their engine, and frames of abandoned jobs, oldest first. -/
  waiting : List RMsg
  /-- Frames for CAN receive rings, oldest first. -/
  vout : List VOut
  nextJob : Nat
deriving DecidableEq, Repr, Inhabited

/-- Time-redundant execution counters (R415). -/
inductive EscCtr where
  | stdWindows | stdMismatch | escJobs | escMismatch | escTimeout | escSnapshot | replayedWrites
  | safeOutputs | faults | acks | injections
deriving DecidableEq, Repr, Inhabited

/-- The fault latch of PD0 (R407, R408) and the configuration of R412. -/
structure Esc where
  /-- The 8-byte configuration record. -/
  config : Bytes
  latched : Bool
  cause : Nat
  engine : Nat
  seq : Nat
  /-- Local clock when it was latched, and the tick. -/
  time : Nat
  setTick : Option Nat
  /-- FAULT_N is asserted for CAPACITY as well. -/
  capacity : Bool
  /-- The engine whose self-test the fault began. -/
  testing : Option Nat
  /-- Safe records by route, 76 bytes; unlisted routes are STOP. -/
  safe : Tbl Bytes
  /-- Held-last frames by route; none where the last output was longer than 64 bytes. -/
  held : Tbl CanFrame
deriving DecidableEq, Repr, Inhabited

end Sys2Proof.Machine
end

