-- ==== Sys2Proof/Machine/StateHost.lean ====
section
/-! DEFINITION. State of the host side: the unit registers of the window, slots and mailboxes, host frame rings, the boot
ROM, and the pins and records of the always-on domain (chapters 02 to 05 and 23 of the spec). -/

namespace Sys2Proof.Machine

/-- HIU registers (R37). -/
structure Hiu where
  /-- HIU_SCRATCH.VALUE. -/
  scratch : Word
  /-- HIU_ERR [3:0]: bit 0 LOCK_ERR, 1 DECODE_ERR, 2 SIZE_ERR, 3 PERM_ERR. -/
  err : BitVec 4
  /-- HIU_ERR.FIRST_SRC. -/
  firstSrc : BitVec 5
  /-- HIU_ERR_ADDR. -/
  errAddr : Word
  /-- HIU_WRITE_PERMIT.SLOTS (R29). -/
  permit : BitVec 16
  /-- HIU_TEST, reserved and live (R8). -/
  test : Word
  /-- Firmware's copy of HIU_WRITE_PERMIT through retention sleep, written back before the change to RUNNING (R37). -/
  kept : BitVec 16
deriving DecidableEq, Repr, Inhabited

/-- EVU registers of one slot (R38) and the message state of its eight vectors (R39). -/
structure Evu where
  /-- EVU_CAUSEn. -/
  cause : BitVec 10
  /-- EVU_MASKn. -/
  mask : BitVec 10
  /-- EVU_VMAPn. -/
  vmap : BitVec 30
  /-- EVU_HOLDOFFn, in µs. -/
  holdoff : BitVec 16
  /-- Vectors whose holdoff is running. -/
  holding : BitVec 8
  /-- Vectors with a message delayed by the holdoff. -/
  delayed : BitVec 8
deriving DecidableEq, Repr, Inhabited

/-- CMU registers (R43). -/
structure Cmu where
  /-- Groups of the accepted immediate commit that has not applied (R44). -/
  queued : BitVec 16
  /-- CMU_STATUS.BUSY. -/
  busy : Bool
  /-- CMU_COMMIT_AT. -/
  atTime : Word
  /-- CMU_COMMIT_AT_CTRL.ARM. -/
  arm : Bool
  /-- CMU_COMMIT_AT_CTRL.GROUP_MASK. -/
  atMask : BitVec 16
  /-- CMU_STATUS.CANCELLED. -/
  cancelled : Bool
  /-- CMU_STATUS.ARM_ERR. -/
  armErr : Bool
  /-- CMU_STATUS.LATE. -/
  late : Bool
  /-- CMU_STATUS.FIRED. -/
  fired : Bool
  /-- CMU_LAST_TIME. -/
  lastTime : Word
  /-- CMU_LAST_MASK. -/
  lastMask : BitVec 16
  /-- CMU_MAP0, fields 0 to 6: the commit group of blocks 0 to 6. -/
  map0 : BitVec 28
deriving DecidableEq, Repr, Inhabited

/-- PWS registers (R47) that hold state of their own. -/
structure Pws where
  /-- PWS_DOMAINS.ON. -/
  domains : BitVec 13
  /-- PWS_VDD.SETPOINT_MV. -/
  setpoint : BitVec 10
  /-- PWS_WAKE_SRC.SOURCE, kept in PD0. -/
  wakeSource : Byte
  /-- PWS_WAKE_SRC.INDEX, kept in PD0. -/
  wakeIndex : Byte
  /-- PWS_RESET_CAUSE, kept in PD0. -/
  resetCause : BitVec 6
  /-- PWS_TEMP.SENSOR. -/
  sensor : BitVec 3
  /-- PWS_TEMP.TJ_MAX. -/
  tjMax : BitVec 16
deriving DecidableEq, Repr, Inhabited

/-- One entry of a function's MSI-X table in BAR2 (R39, R320). -/
structure MsixEntry where
  /-- The address a message is written to. -/
  addr : DWord
  /-- The word it writes. -/
  data : Word
  /-- The vector's mask bit. -/
  masked : Bool
deriving DecidableEq, Repr, Inhabited

/-- One PCIe function (R39, R320). -/
structure PcieFn where
  /-- MSI-X Enable. -/
  msix : Bool
  /-- Function Mask. -/
  funcMask : Bool
  /-- The function is in D3hot. -/
  d3hot : Bool
  /-- The MSI-X table. -/
  table : Vector MsixEntry 8
  /-- The pending-bit array. -/
  pba : Byte
deriving DecidableEq, Repr, Inhabited

/-- The PCIe endpoint (R320): NumVFs, and functions 0 to 15. -/
structure Pcie where
  numVfs : Fin 16
  fns : Vector PcieFn 16
deriving DecidableEq, Repr, Inhabited

/-- States of the boot ROM (R48, R91). -/
inductive BootState where
  | powerUp | resumeCheck | waitImage | receiving | verifying | running | halted
deriving DecidableEq, Repr, Inhabited

/-- The boot ROM, the BOOT registers (R48), the fuses, and the download in progress (R93 to R100). -/
structure Boot where
  /-- BOOT_STATE.STATE. -/
  state : BootState
  /-- BOOT_STATE.OWNED. -/
  owned : Bool
  /-- BOOT_STATE.OWNER. -/
  owner : Transport
  /-- BOOT_STRAPS.SEAL_FAIL. -/
  sealFail : Bool
  /-- BOOT_STRAPS.RESUMED. -/
  resumed : Bool
  /-- BOOT_STRAPS.BOOTSEL as sampled at the start (R519). -/
  bootsel : BitVec 2
  /-- BOOT_XFER.GO. -/
  go : Bool
  /-- BOOT_XFER.LAST. -/
  last : Bool
  /-- BOOT_XFER.FIRST. -/
  first : Bool
  /-- BOOT_XFER.LEN. -/
  len : BitVec 19
  /-- BOOT_RESULT.CODE. -/
  result : Byte
  /-- BOOT_SECVER.COUNT (fuse, in effect). -/
  secver : BitVec 7
  /-- BOOT_KEYREV.REVOKED (fuse, in effect). -/
  keyrev : BitVec 4
  /-- BOOT_LCS.LCS (fuse, in effect). -/
  lcs : BitVec 3
  /-- Fuses as programmed, in effect from the next cold start (R101, R109). -/
  secverFused : BitVec 7
  /-- Vendor-key revocation fuses as programmed. -/
  keyrevFused : BitVec 4
  /-- Life-cycle fuses as programmed. -/
  lcsFused : BitVec 3
  /-- Running Morcal version; BOOT_FW_VER reads it in RUNNING. -/
  fwVersion : Word
  /-- The image bytes received so far, which lie in retention SRAM from offset 0 (R99). -/
  received : Nat
  /-- SEC_VERSION of the running image. -/
  runSecver : Nat
  /-- KEY_INDEX of the running image. -/
  runKey : Nat
  /-- EVU_BOOT_EVT.STATE_CHANGE (R41). -/
  bootEvt : Bool
  /-- The transport that delivered the image (R50). -/
  deliveredBy : Transport
  /-- The boot record of DIAG_GET_BOOT_RECORD, as read at firmware start (R112). -/
  record : Bytes
  /-- The image checks have passed and the cores are released (R100). -/
  released : Bool
deriving DecidableEq, Repr, Inhabited

/-- A management core (R15, R99, R111). -/
structure Core where
  /-- Released at its entry (R100). -/
  running : Bool
  /-- Its start address, ENTRY0 or ENTRY1. -/
  entry : Word
  /-- Halted by the debugger. -/
  halted : Bool
deriving DecidableEq, Repr, Inhabited

/-- The memories that an image is loaded into (R16, R99), and the cores that run it. -/
structure Store where
  /-- The 4 MiB of retention SRAM: the image from offset 0, and firmware's retained state above it. -/
  sram : Memory
  /-- The 512 KiB of tightly coupled memory of cores 0 and 1. -/
  tcm : Vector Memory 2
  /-- The 256 KiB of relay microcode store. -/
  microcode : Memory
  cores : Vector Core 2
deriving DecidableEq, Repr, Inhabited

/-- The retention seal held in PD0 (R102). -/
structure Seal where
  /-- The retention marker. -/
  marker : Bool
  /-- The 128-bit tag. -/
  tag : BitVec 128
  /-- The length of the sealed region. -/
  length : Nat
  /-- The 32-bit boot counter. -/
  counter : Word
deriving DecidableEq, Repr, Inhabited

/-- Debug unlock (R110, R111). -/
structure Debug where
  /-- The challenge last returned, while valid. -/
  challenge : Option (BitVec 128)
  /-- The key slot named with it. -/
  keySlot : Nat
  /-- Wrong tokens since the cold start. -/
  wrong : Nat
  /-- Debug is unlocked. -/
  unlocked : Bool
deriving DecidableEq, Repr, Inhabited

/-- Pins and monitors of the always-on domain (R511 to R518, R528). -/
structure Pd0 where
  /-- VBAT is above the power-on reset threshold (R514). -/
  vbatGood : Bool
  /-- INH0 is asserted. -/
  inh0 : Bool
  /-- INH1 is asserted. -/
  inh1 : Bool
  /-- The level of RESET_N. -/
  resetN : Bool
  /-- PWS_RAILS.GOOD (R47, R513). -/
  rails : BitVec 7
  /-- The digital die runs (R517). -/
  die : Bool
  /-- PD0 runs from the 32.768 kHz crystal (R528). -/
  crystal : Bool
  /-- The crystal has been tried since the last power-on reset (R528). -/
  crystalTried : Bool
  /-- A thermal shutdown holds INH0 released (R515). -/
  thermal : Bool
  /-- A start in progress is a wake from retention sleep or deep sleep: the wake source is set. -/
  waking : Bool
deriving DecidableEq, Repr, Inhabited

/-- Slot states (R52); the codes are 0 to 3. -/
inductive SlotState where
  | unbound | bound | opened | fenced
deriving DecidableEq, Repr, Inhabited

/-- An Ethernet binding (R80, SLOT_BIND). -/
structure EthBinding where
  /-- The external port 0 to 24, or 0xFFFF for any port. -/
  port : Nat
  /-- The host's source address. -/
  mac : BitVec 48
  /-- The VLAN identifier, 0 for untagged. -/
  vlan : BitVec 12
  /-- The derive-only key slot named. -/
  keySlot : Nat
  /-- The write count of that key slot when it was named; a rewritten key fails every frame (R80). -/
  keyWrites : Nat
  /-- The CMAC key of requests. -/
  h2d : Bytes
  /-- The CMAC key of responses and events. -/
  d2h : Bytes
deriving DecidableEq, Repr, Inhabited

/-- What a slot is bound to (R49). -/
inductive Binding where
  | unset
  | pcie (f : Fin 16)
  | spi (p : Fin 2)
  | eth (b : EthBinding)
deriving DecidableEq, Repr, Inhabited

/-- A response: its status, payload and flags (R64). -/
structure Answer where
  /-- STATUS. -/
  status : Half
  /-- The payload. -/
  payload : Bytes
  /-- FLAGS.REPLAYED. -/
  replayed : Bool
  /-- FLAGS.RESP_TRUNC. -/
  trunc : Bool
deriving DecidableEq, Repr, Inhabited

/-- An entry of the tag window with its stored response (R72, R74). -/
structure TagEntry where
  /-- The tag. -/
  tag : Half
  /-- The OPCODE of the command that brought it. -/
  op : Half
  /-- The response once given. -/
  answer : Option Answer
deriving DecidableEq, Repr, Inhabited

/-- A command taken and not yet answered (R66). -/
structure InFlight where
  /-- OPCODE. -/
  op : Half
  /-- TAG. -/
  tag : Half
  /-- The payload. -/
  payload : Bytes
  /-- A duplicate of a tag in the window (R72, R73); OPCODE is then the stored one. -/
  dup : Bool
  /-- In flight when its slot was fenced or unbound: it runs to completion (R53). -/
  excused : Bool
  /-- In flight when its slot was unbound: its response is discarded (R53). -/
  orphan : Bool
  /-- Started, its answer to come from its work. -/
  started : Bool
  /-- The answer, once there. -/
  answer : Option Answer
deriving DecidableEq, Repr, Inhabited

/-- A command answered ST_ACCEPTED whose work goes on (R68). -/
structure Job where
  /-- TAG. -/
  tag : Half
  /-- OPCODE. -/
  op : Half
  /-- The work is finished; its DONE event waits to be written (R78). -/
  finished : Bool
deriving DecidableEq, Repr, Inhabited

/-- A DONE event held for want of a ring entry, with the SEQ and TIME it took when it arose (R78). -/
structure HeldDone where
  /-- The command's TAG. -/
  tag : Half
  /-- The 64 bytes of the entry. -/
  entry : Bytes
deriving DecidableEq, Repr, Inhabited

/-- A frame fetched whole from a transmit ring and not yet returned (R123 to R127). -/
structure RingTx where
  /-- It came from a CAN ring. -/
  can : Bool
  /-- Its descriptors. -/
  descs : List Bytes
  /-- The number of its fabric frame, or of its reference in the relay complex. -/
  number : Nat
  /-- STATUS, once its fate is known. -/
  status : Option Half
  /-- The SOF time-stamp of a CAN frame sent with TS; none where no channel sent it. -/
  stamp : Option Nat
deriving DecidableEq, Repr, Inhabited

/-- A host frame ring (R114). -/
structure Ring where
  /-- MBX_RINGr_BASE_LO [31:6]. -/
  baseLo : BitVec 26
  /-- MBX_RINGr_BASE_HI. -/
  baseHi : Word
  /-- CTRL.ENABLE. -/
  enable : Bool
  /-- CTRL.KIND: true for CAN. -/
  can : Bool
  /-- CTRL.TC_MASK. -/
  tcMask : Byte
  /-- CTRL.IRQ_EN. -/
  irqEn : Bool
  /-- CTRL.RX_TS_ALL. -/
  tsAll : Bool
  /-- CTRL.DEFAULT_TC. -/
  defaultTc : BitVec 3
  /-- CTRL.SIZE_LOG2. -/
  sizeLog2 : BitVec 4
  /-- TAIL. -/
  tail : Half
  /-- HEAD. -/
  head : Half
  /-- Descriptors fetched whose frame has not had its turn, oldest first (R125). -/
  queue : List DescRead
  /-- Descriptors fetched in all, modulo 65,536. -/
  fetched : Half
  /-- STAT.CFG_ERR. -/
  cfgErr : Bool
  /-- STAT.DMA_ERR. -/
  dmaErr : Bool
  /-- STAT.DROPS. -/
  drops : Half
  /-- The device stopped at a descriptor with OWN clear and reads it again after 10 µs (R119). -/
  stopped : Bool
  /-- The descriptors of the open chain, oldest first (R123). -/
  chain : List DescRead
  /-- Frames fetched whole and not returned, in ring order. -/
  frames : List RingTx
deriving DecidableEq, Repr, Inhabited

/-- The nine counters of a slot (R536). -/
structure SlotStats where
  commands : Nat
  responses : Nat
  replays : Nat
  events : Nat
  eventsLost : Nat
  foreignWrites : Nat
  auth : Nat
  seq : Nat
  format : Nat
deriving DecidableEq, Repr, Inhabited

/-- One host slot: state, binding, MBX registers (R59), commands and events. -/
structure SlotRec where
  /-- The slot state. -/
  state : SlotState
  /-- The bound transport. -/
  binding : Binding
  /-- SLOT_SET_READ_POLICY has restricted the slot (R56). -/
  restricted : Bool
  /-- MBX_REQ_HEAD. -/
  reqHead : Half
  /-- MBX_REQ_TAIL. -/
  reqTail : Half
  /-- MBX_RSP_HEAD. -/
  rspHead : Half
  /-- MBX_RSP_TAIL. -/
  rspTail : Half
  /-- MBX_EVT_HEAD. -/
  evtHead : Half
  /-- MBX_EVT_TAIL. -/
  evtTail : Half
  /-- MBX_EVT_LOST. -/
  evtLost : Half
  /-- The tag window, oldest first (R72). -/
  tags : List TagEntry
  /-- Commands in flight, oldest first (R66). -/
  inFlight : List InFlight
  /-- Accepted commands (R68), oldest first. -/
  jobs : List Job
  /-- DONE events held (R78), in completion order. -/
  held : List HeldDone
  /-- The SEQ of the next event (R76). -/
  seq : Half
  /-- The last SEQ accepted from an Ethernet host (R81). -/
  ethRx : Nat
  /-- The SEQ of the device's next frame to an Ethernet host (R81). -/
  ethTx : Nat
  /-- SYS_RESET is answered, and the reset waits for the response to be written (R84). -/
  resetDue : Bool
  /-- The transport, and the SEQ of its next frame, that the next response goes to: S0's old one after its own SLOT_BIND (R52). -/
  replyTo : Option (Binding × Nat)
  /-- The counters of R536. -/
  stats : SlotStats
  /-- Its eight frame rings (R117). -/
  rings : Vector Ring 8
  /-- Its EVU registers. -/
  evu : Evu
deriving DecidableEq, Repr, Inhabited

/-- A GPIO pin (R85). -/
structure Gpio where
  /-- DIRECTION: 0 input, 1 push-pull, 2 open-drain. -/
  direction : Nat
  /-- PULL. -/
  pull : Nat
  /-- The output level. -/
  out : Bool
  /-- EDGE. -/
  edge : Nat
  /-- DEBOUNCE_US. -/
  debounce : Nat
  /-- The level at the pin. -/
  level : Bool
  /-- The ball is high-impedance in sleep, whatever the record says (R85). -/
  floating : Bool
  /-- The debounced level last reported or taken as settled. -/
  settled : Bool
  /-- A debounce runs: the local clock in ns at its first edge, and the tick of its last. -/
  since : Option (Nat × Nat)
deriving DecidableEq, Repr, Inhabited

/-- Board interfaces of the SYS commands (R85 to R87). -/
structure Board where
  /-- GPIO0 to GPIO7. -/
  gpio : Vector Gpio 8
  /-- The SPEED of I2C0 and I2C1. -/
  i2cFast : Vector Bool 2
  /-- MDC_KHZ. -/
  mdcKhz : Nat
deriving DecidableEq, Repr, Inhabited

/-- One step of a transfer on an I²C bus (R86). -/
inductive I2cStep where
  | start
  | restart
  /-- A byte that the master sends, and whether the target acknowledges it. -/
  | sent (b : Byte) (ack : Bool)
  /-- A byte that the master reads, and whether the master acknowledges it. -/
  | got (b : Byte) (ack : Bool)
  /-- Nine clocks to free the bus. -/
  | nineClocks
  | stop
deriving DecidableEq, Repr

/-- What the device sends out of itself, in order: the model's record of outputs. -/
inductive Out where
  /-- An MSI-X message of a PCIe function: the vector, and the write of its table entry's word to its address. -/
  | msix (fn : Fin 16) (vec : Nat) (addr : DWord) (data : Word)
  /-- Words driven on MISO in an SPI read. -/
  | miso (port : Nat) (words : List Word)
  /-- An SPI status word. -/
  | spiStatus (port : Nat) (status : Bytes)
  /-- A frame left an external port: its bytes without FCS and before protection, whether its FCS was inverted, and the
  secure association and packet number that protect it. -/
  | ethTx (port : Nat) (frame : Nat) (bytes : Bytes) (stomped : Bool) (sec : Option (Nat × Nat))
  /-- A fragment of a preempted frame left a port, with its mCRC: the bytes of the frame, before protection, from an offset on. -/
  | ethPart (port : Nat) (frame : Nat) (offset : Nat) (bytes : Bytes)
  /-- A write into a PCIe function's memory: function, address, bytes. -/
  | hostWrite (fn : Nat) (addr : Nat) (bytes : Bytes)
  /-- A CAN frame was offered to the bus and sent. -/
  | canTx (ch : Nat) (desc : Bytes)
  /-- A LIN header or response was sent. -/
  | linTx (ch : Nat) (id : Nat) (data : Bytes)
  /-- A serial message was sent. -/
  | uartTx (ch : Nat) (data : Bytes)
  /-- A wake or sleep signal was sent on a port or channel. -/
  | signal (what : Nat) (index : Nat)
  /-- A level change of an output pin: 0 FAULT_N, 1 INH0, 2 INH1, 16 + n a GPIO, 32 + n a TIME_IO, 64 + n a PODL_EN. -/
  | pin (which : Nat) (level : Bool)
  /-- An output pin, numbered as in `pin`, becomes high-impedance. -/
  | pinFloat (which : Nat)
  /-- A frame of the MDIO master. -/
  | mdio (bytes : Bytes)
  /-- What an I²C master and its target put on the bus in one transfer (R86). -/
  | i2c (master : Nat) (fast : Bool) (steps : List I2cStep)
  /-- A read of the window returned these bytes to a transport. -/
  | readData (t : Transport) (bytes : Bytes)
  /-- A word that the debugger's port returned (R111, R411). -/
  | debug (v : Word)
deriving DecidableEq, Repr

end Sys2Proof.Machine
end

