-- ==== Sys2Proof/Machine/StatePower.lean ====
section
/-! DEFINITION. State of the power-grant arbiter (chapter 20 of the spec). -/

namespace Sys2Proof.Machine

/-- Grant kinds (R460) that stay outstanding; CRYPTO_BURST and FUSE grants are given and released within their command
(log 20). -/
inductive GrantKind where
  | train | selfTest | memTest
deriving DecidableEq, Repr, Inhabited

/-- A queued request (R460, R461). -/
structure Ask where
  kind : GrantKind
  /-- Port for TRAIN, engine for SELF_TEST, 0 for MEM_TEST. -/
  requester : Nat
  /-- Local clock in ns when it was made. -/
  time : Nat
  /-- An attempt that has already counted GRANT_DEFER (R312). -/
  again : Bool
deriving DecidableEq, Repr, Inhabited

/-- A grant outstanding (R459, R463). -/
structure Grant where
  kind : GrantKind
  requester : Nat
  /-- Local clock in ns when it was given, for PWR_GET_GRANTS. -/
  time : Nat
  /-- Fabric tick when it was given. -/
  since : Nat
deriving DecidableEq, Repr, Inhabited

/-- Power counters (R470). -/
inductive PwrCtr where
  | grants | queued | denied | overdue | throttled | baselineOver | guardMs | boardWaits
deriving DecidableEq, Repr, Inhabited

/-- The arbiter. -/
structure Power where
  /-- PWS_BUDGET.CEILING, in 10 mW. -/
  ceiling : Nat
  /-- A ceiling written and not yet applied by a grant tick. -/
  newCeiling : Option Nat
  grants : List Grant
  /-- The grant queue, in order. -/
  queue : List Ask
  /-- Queued-kind requests of the present tick, in the order firmware received them. -/
  arrivals : List Ask
  /-- The guard of R465 is raised. -/
  guard : Bool
  /-- Measured package power, averaged over 10 ms, in 10 mW. -/
  measured : Nat
  /-- BASELINE_OVER has been given for the present excess (R464). -/
  excess : Bool
  /-- BOARD_BUDGET in 100 mW. -/
  boardBudget : Nat
  /-- The ceiling that firmware keeps through retention sleep (R464). -/
  keptCeiling : Nat
  /-- Domains set to KEEP_ON. -/
  keepOn : BitVec 13
deriving DecidableEq, Repr, Inhabited

end Sys2Proof.Machine
end

