-- ==== Sys2Proof/Machine/StateTime.lean ====
section
/-! DEFINITION. State of the time unit and of the gPTP instances (chapter 11 of the spec). -/

namespace Sys2Proof.Machine

/-- The shadowed registers of an alarm (R270). -/
structure AlarmRegs where
  /-- TU_ALARMn_TIME. -/
  time : Word
  /-- TU_ALARMn_CTRL.ENABLE. -/
  enable : Bool
deriving DecidableEq, Repr, Inhabited

/-- An alarm: its active and shadow registers, and whether it is to fire late (R276). -/
structure Alarm where
  active : AlarmRegs
  shadow : AlarmRegs
  /-- Its instant was already past when its commit applied, or a step of the clock has left it in the past (R275). -/
  late : Bool
deriving DecidableEq, Repr, Inhabited

/-- The shadowed registers of a TIME_IO pin (R284, R285). -/
structure IoRegs where
  /-- CTRL.FILTER_US. -/
  filter : BitVec 14
  /-- CTRL.POLARITY. -/
  polarity : Bool
  /-- CTRL.EDGE. -/
  edge : BitVec 2
  /-- CTRL.FUNCTION. -/
  function : BitVec 3
  /-- START_HI and START_LO. -/
  start : DWord
  /-- PERIOD. -/
  period : Word
  /-- WIDTH. -/
  width : Word
  /-- COUNT. -/
  count : BitVec 16
deriving DecidableEq, Repr, Inhabited

/-- A capture (R284). -/
structure Capture where
  /-- Nanosecond count. -/
  ns : Nat
  /-- Fraction in units of 2⁻¹⁶ ns. -/
  frac : Nat
  /-- The edge was falling. -/
  falling : Bool
  /-- Sequence modulo 256. -/
  seq : Nat
deriving DecidableEq, Repr, Inhabited

/-- A TIME_IO pin. -/
structure TimeIo where
  active : IoRegs
  shadow : IoRegs
  /-- STAT.PULSES. -/
  pulses : BitVec 16
  /-- STAT.OVERFLOW. -/
  overflow : Bool
  /-- STAT.RUNNING. -/
  running : Bool
  /-- Captures held, oldest first, at most 16. -/
  captures : List Capture
  /-- The sequence number of the next capture. -/
  nextSeq : Nat
  /-- The start instant S of the output (R285). -/
  startAt : Nat
  /-- Pulses begun since the start, as the COUNT of a TRIGGER pin sees them. -/
  begun : Nat
  /-- The output is in its pulse. -/
  inPulse : Bool
  /-- The first edge of the run that waits for the filter (R284). -/
  waiting : Option Capture
  /-- Fabric tick of the last edge of a CAPTURE pin: the start of the present level (R284). -/
  lastEdge : Nat
deriving DecidableEq, Repr, Inhabited

/-- States of a gPTP instance (R278), codes 0 to 3. -/
inductive GptpState where
  | disabled | acquiring | locked | holdover
deriving DecidableEq, Repr, Inhabited

/-- A gPTP instance (R277 to R280). -/
structure Gptp where
  /-- The 24-byte record of R278. -/
  record : Bytes
  /-- The state. -/
  state : GptpState
  /-- Grandmaster identity. -/
  gm : DWord
  /-- REF of R280. -/
  ref : Nat
  /-- OFFSET of R280, in units of 2⁻¹⁶ ns, signed. -/
  offset : Int
  /-- RATE of R280, in units of 2⁻³², signed. -/
  rate : Int
  /-- The last offset from the grandmaster in ns, signed. -/
  lastOffset : Int
deriving DecidableEq, Repr, Inhabited

/-- Per-port time settings (R281, R282). -/
structure PortTime where
  /-- TC_EN. -/
  tcEn : Bool
  /-- ASYMMETRY in ns. -/
  asymmetry : Int
  /-- Mean link delay in ns (R277). -/
  linkDelay : Nat
deriving DecidableEq, Repr, Inhabited

/-- What firmware keeps of the local clock through retention sleep (R268, R270): the values at sleep entry. -/
structure KeptClock where
  /-- Nanosecond count. -/
  ns : Nat
  /-- Fraction. -/
  frac : Nat
  /-- Increment in force. -/
  incr : BitVec 40
  /-- Synchronisation epoch. -/
  epoch : BitVec 16
deriving DecidableEq, Repr, Inhabited

/-- The latched words of TU_NOW (R270). -/
structure NowLatch where
  hi : Word
  frac : Word
deriving DecidableEq, Repr, Inhabited

/-- The time unit. -/
structure TimeUnit where
  /-- The local clock's nanosecond count, below 2⁶⁴ (R267). -/
  ns : Nat
  /-- Its 32-bit fraction. -/
  frac : Nat
  /-- The increment in force, in units of 2⁻³² ns (8.32 bits). -/
  incr : BitVec 40
  /-- The increment that the next tick takes (R271). -/
  nextIncr : BitVec 40
  /-- The held TU_INCR_FRAC. -/
  heldFrac : Word
  /-- TU_CTRL.DRIVER. -/
  driver : BitVec 2
  /-- TU_CTRL.SOURCE: 0 FREE, 1 GPTP, 2 HOST. -/
  source : BitVec 2
  /-- TU_CTRL.STEPPED. -/
  stepped : Bool
  /-- TU_CTRL.RUN. -/
  run : Bool
  /-- TU_EPOCH. -/
  epoch : BitVec 16
  /-- NS_HI and FRAC as latched for each transport. -/
  latch : Vector NowLatch 18
  /-- TU_STEP_LO. -/
  stepLo : Word
  /-- TU_STEP_HI. -/
  stepHi : Word
  /-- The lock of TU_STEP_HI (R272). -/
  stepLocked : Bool
  /-- The alarms. -/
  alarms : Vector Alarm 16
  /-- TU_ALARM_FIRED. -/
  fired : BitVec 16
  /-- TU_ALARM_LATE. -/
  lateBits : BitVec 16
  /-- The TIME_IO pins. -/
  io : Vector TimeIo 6
  /-- The gPTP instances. -/
  inst : Vector Gptp 4
  /-- Per-port settings. -/
  ports : Vector PortTime 25
  /-- The clock as it was at sleep entry. -/
  kept : KeptClock
deriving DecidableEq, Repr, Inhabited

end Sys2Proof.Machine
end

