-- ==== Sys2Proof/Machine/StateSys.lean ====
section
/-! DEFINITION. State of the key store, of network sleep and wake, of the measurements and of the Drover (chapters 19, 21
and 22 of the spec). -/

namespace Sys2Proof.Machine

/-- Key slot states (R439), codes 0 to 3. -/
inductive KeyState where
  | empty | defined | valid | stale
deriving DecidableEq, Repr, Inhabited

/-- A key slot (R439). -/
structure KeySlot where
  state : KeyState
  use : Nat
  alg : Nat
  flags : Nat
  mask : Nat
  /-- 0 to 511, or 0x8000 for the root. -/
  parent : Nat
  depth : Nat
  /-- WRITE_COUNT. -/
  writes : Nat
  label : Bytes
  context : Bytes
  /-- The 32-byte value. -/
  value : Bytes
deriving DecidableEq, Repr, Inhabited

/-- Key store counters (R456), in order. -/
inductive KeyCtr where
  | imports | importFail | derivations | invalidations | staleMarked | staleUse | remaskPasses
deriving DecidableEq, Repr, Inhabited

/-- The key store. -/
structure KeyStore where
  slots : Tbl KeySlot
  /-- The draw number of the masks of the cells (R452): free values, one a slot. -/
  maskAt : Nat
  /-- The start-up re-mask phase (R453). -/
  startup : Bool
deriving DecidableEq, Repr, Inhabited

/-- Segment states (R472), codes 0 to 2. -/
inductive SegState where
  | awake | going | asleep
deriving DecidableEq, Repr, Inhabited

/-- Device sleep states (R481), codes 0 to 3; `sleeping` is past the point of no return. -/
inductive Phase where
  | awake | indicate | quiet | prepare | sleeping
deriving DecidableEq, Repr, Inhabited

/-- A wake pin (R476). -/
structure WakePin where
  /-- The 12-byte record. -/
  record : Bytes
  level : Bool
deriving DecidableEq, Repr, Inhabited

/-- A SLEEP_SEGMENT under way (R473). -/
structure SegJob where
  mask : Nat
  slot : Nat
  tag : Half
  quiet : Nat
deriving DecidableEq, Repr, Inhabited

/-- A selective-wake decoder (R478). -/
structure Decoder where
  running : Bool
  errors : Nat
deriving DecidableEq, Repr, Inhabited

/-- Sleep counters (R493), in order. -/
inductive SleepCtr where
  | sleeps | aborts | timeouts | forced | wakesPin | wakesCanFrame | wakesCanPattern | wakesLin | wakesTc10 | wakesHost
  | wupStandby | segmentWakes
deriving DecidableEq, Repr, Inhabited

/-- Sleep and wake. -/
structure Sleep where
  phase : Phase
  /-- TYPE, FORCE, QUIET_MS and TIMEOUT_MS of the request in progress. -/
  deep : Bool
  force : Bool
  quietMs : Nat
  timeoutMs : Nat
  /-- The requester and its tag; none for the Drover. -/
  request : Option (Nat × Half)
  segs : Vector SegState 64
  /-- Segments that the sequence moved from AWAKE. -/
  moved : Nat
  /-- Camera ports that were POWERED when the request started, bit k for port 5 + k. -/
  cameras : Nat
  jobs : List SegJob
  pins : Vector WakePin 4
  canWake : Vector Bytes 16
  decoders : Vector Decoder 16
  nm : Vector Bytes 16
  /-- NM frames still to enqueue. -/
  nmLeft : Vector Nat 16
  /-- HOST_WAKE flags and TARGETS (R477). -/
  hostFlags : Nat
  hostTargets : Nat
  inhMode : Nat
  inhDelay : Nat
  /-- INH0 must stay released until its 1 ms ends (R486). -/
  inhHold : Bool
  /-- A wake registered within that millisecond, or the first wake of the sleeping device. -/
  wakeDue : Bool
  /-- Segments that the wakes of this resume concern (R480). -/
  wakeMask : Nat
  /-- Wake record (R489): TYPE, OUTCOME, WAKE_SRC, FRAME_ID, FRAME_DATA, ENTERED, SLEPT, WOKEN. -/
  recType : Nat
  recOutcome : Nat
  recSrc : Nat
  recId : Nat
  recData : Bytes
  recEntered : Nat
  /-- The fabric tick of the point of no return. -/
  sinceTick : Nat
  recSlept : Nat
  recWoken : Nat
deriving DecidableEq, Repr, Inhabited

/-- A partner record (R498, R499). -/
structure Partner where
  lldpSeen : Bool
  mkaPeer : Bool
  chassis : Bytes
  portId : Bytes
  /-- The LLDP time to live in s, and the fabric tick at which it was received. -/
  ttl : Nat
  heard : Nat
  /-- Local clock at the last change. -/
  changed : Nat
deriving DecidableEq, Repr, Inhabited

/-- Measured values (R494). -/
structure Meas where
  /-- VBAT in mV. -/
  vbat : Nat
  /-- Lowest VBAT since the last Drover loop; 0 where there was no sample. -/
  vbatLow : Nat
  /-- Rail voltages in mV and powers in mW. -/
  rails : Vector Nat 7
  powers : Vector Nat 7
  /-- Temperatures in 0.25 °C, signed. -/
  temps : Vector Int 6
  /-- CAN bus load in 0.1 %. -/
  load : Vector Nat 16
  /-- The last ten package powers in mW, newest first. -/
  history : List Nat
  partners : Vector Partner 25
deriving DecidableEq, Repr, Inhabited

/-- What a ledger entry says of a decision (R507). -/
structure Decision where
  action : Nat
  outcome : Nat
  measured : Nat
  before : Nat
  after : Nat
deriving DecidableEq, Repr, Inhabited

/-- Mandate states (R500), codes 1 to 4; FREE mandates are not listed, and PAUSED is shown while every mandate is
suspended. -/
inductive MandateState where
  | learning | watching | acting | givenUp
deriving DecidableEq, Repr, Inhabited

/-- A mandate (R500 to R503). -/
structure Mandate where
  /-- The 32-byte record. -/
  record : Bytes
  /-- The granting slot. -/
  slot : Nat
  state : MandateState
  /-- Baseline b of R502, in units of 2⁻³² frame/s. -/
  baseline : Nat
  /-- The baseline has taken its first hit rate. -/
  seeded : Bool
  /-- Loops since the grant, or since learning began. -/
  learned : Nat
  /-- Consecutive loops with the trigger; for kinds 3 and 6, loops since the fault or BUS_OFF was first seen, from 1. -/
  streak : Nat
  /-- Consecutive loops with the return condition. -/
  calm : Nat
  /-- The counter at the last loop, for rates. -/
  last : Nat
  /-- Drops of each of the last 50 loops, newest first, for a rate over the last second (kind 2). -/
  recent : List Nat
  /-- The try number n of R503. -/
  tries : Nat
  /-- Loops since each recovery of the last minute. -/
  recoveries : List Nat
  /-- The value replaced by the action in effect: RATE and METER_MODE, RATE code, or port mask. -/
  before : Nat
  beforeMode : Nat
  /-- The owner has written the resource while the action was in effect (R504). -/
  touched : Bool
  /-- The CAN rule as the Drover left it. -/
  mine : Bytes
  /-- Chassis and port ID recorded at the grant. -/
  chassis : Bytes
  portId : Bytes
  /-- A deferral of the present episode is in the ledger. -/
  deferred : Bool
  /-- A REFUSED of the present episode is in the ledger. -/
  refused : Bool
deriving DecidableEq, Repr, Inhabited

/-- Drover counters (R509), in order. -/
inductive DrovCtr where
  | loops | loopOverruns | actions | deferred | refused | endedByHost | ledgerOverwritten
deriving DecidableEq, Repr, Inhabited

/-- A decision to switch camera ports on that has not taken effect: the mandate as it decided, and the ports that wait for the
board budget (R466, R507). -/
structure DueEntry where
  index : Nat
  mandate : Mandate
  decision : Decision
  ports : Nat
deriving DecidableEq, Repr, Inhabited

/-- The Drover. -/
structure Drover where
  mandates : Tbl Mandate
  paused : Bool
  /-- Entries written since the cold start, and the last 1,024 of them, oldest first. -/
  seq : Nat
  ledger : List Bytes
  /-- Traffic or a command since the last loop keeps the device from being idle (R505). -/
  active : Bool
  /-- Loops for which the device has been idle. -/
  idle : Nat
  /-- Loops since a backbone's rate was last changed by a mandate (R504). -/
  rateLoops : Nat
  /-- Decisions whose ledger entry waits for the instant at which they take effect. -/
  due : List DueEntry
  /-- The mandate whose sleep request is under way. -/
  sleeping : Option Nat
deriving DecidableEq, Repr, Inhabited

end Sys2Proof.Machine
end

