-- ==== Sys2Proof/Machine/State.lean ====
section
/-! DEFINITION. The state of the block, as plain data; the reasons a step stops; and the state right after power-on reset. -/

namespace Sys2Proof.Machine

/-- Outcomes the manual calls undefined (R5): the machine stops. Every one is SAFE: the model allows nothing after it. -/
inductive Fault where
  /-- An access to the alias region other than an aligned 32-bit one (R35). Raised by window accesses. Safe. -/
  | aliasAccess
  /-- A write that changes an RSVL bit of HIU_TEST (R8). Raised by REGISTER_WRITE and SPI_WRITE. Safe. -/
  | testControl
  /-- An SPI transaction whose chip select rose in the middle of a word (R36). Raised by SPI_WRITE. Safe. -/
  | spiPartialWord
  /-- A CMU_MAP field changed while a commit of its old or new group was pending (R46). Raised by REGISTER_WRITE. Safe. -/
  | commitMapChange
  /-- A mailbox head or tail advanced against R62. Raised by MBX_REQ_HEAD_WRITE, MBX_RSP_TAIL_WRITE,
  MBX_EVT_TAIL_WRITE. Safe. -/
  | mailboxMisuse
  /-- Request bytes changed after MBX_REQ_HEAD covered them (R62). Raised by writes to mailbox buffers. Safe. -/
  | requestChanged
  /-- Landing-buffer bytes changed between a GO and the clearing of that GO (R95). Raised by LANDING_BUFFER_WRITE. Safe. -/
  | landingBufferChanged
  /-- TAIL of a frame ring advanced beyond the ring size (R122). Raised by RING_TAIL_WRITE. Safe. -/
  | ringMisuse
  /-- A clock increment with integer part 0 was programmed (R267). Raised by TU_INCR_INT_WRITE and TIME_SET_RATE. Safe. -/
  | zeroIncrement
  /-- The CDI was used without holding the lock, or CDI_KEYSEL changed while another transport held it (R435). Raised by
  the CDI rows. Safe. -/
  | cdiMisuse
  /-- A receive FIFO entry released by a slot that does not own it (R343, R357). Raised by CAN_RX_RELEASE and
  SER_RX_RELEASE. Safe. -/
  | entryNotOwned
deriving DecidableEq, Repr

/-- Commands without a meaning. -/
inductive Refusal where
  /-- The command of this mnemonic has no meaning yet. Raised by Dispatch. Safe. -/
  | notModelled (mnemonic : String)
deriving DecidableEq, Repr

/-- The names of the block's counters (R157 and the counter rules of each chapter), with the scope's index. -/
inductive Ctr where
  /-- Port counters (R157), by fabric port. -/
  | port (p : Nat) (k : PortCtr)
  /-- Frames to the management address dropped at F27 (R135). -/
  | mgmtDropped
  /-- Firewall counters (R191), by rule, pair or 0. -/
  | cust (i : Nat) (k : CustCtr)
  /-- Egress-queue counters (R212, R237, R264), by port × 8 + class. -/
  | queue (q : Nat) (k : QCtr)
  /-- Gate counters of a port (R264). -/
  | gate (p : Nat) (k : GateCtr)
  /-- Policing counters (R237) and ingress buffer counters (R212), by meter, entry, filter, gate or port. -/
  | pol (i : Nat) (k : PolCtr)
  /-- Redundancy counters (R302), by instance or member. -/
  | red (i : Nat) (k : RedCtr)
  /-- PHY counters (R323), by port. -/
  | phy (p : Nat) (k : PhyCtr)
  /-- Time counters (R287), by port, instance or pin. -/
  | time (i : Nat) (k : TimeCtr)
  /-- Cipher counters (R438), by port, profile or 0. -/
  | crypt (i : Nat) (k : CryptCtr)
  /-- Power counters (R470). -/
  | pwr (k : PwrCtr)
  /-- CAN counters (R355), by channel. -/
  | can (i : Nat) (k : CanCtr)
  /-- LIN counters (R370), by channel. -/
  | lin (i : Nat) (k : LinCtr)
  /-- UART counters (R370), by channel. -/
  | uart (i : Nat) (k : UartCtr)
  /-- Relay counters (R395), by route, source code, tunnel, engine or 0. -/
  | relay (i : Nat) (k : RelayCtr)
  /-- Time-redundant execution counters (R415), by engine, route or 0. -/
  | esc (i : Nat) (k : EscCtr)
  /-- Key store counters (R456). -/
  | key (k : KeyCtr)
  /-- Sleep counters (R493). -/
  | sleep (k : SleepCtr)
  /-- Drover counters (R509). -/
  | drov (k : DrovCtr)
deriving DecidableEq, Repr

/-- The memory test of R460 as SYS_GET_INFO reports it (R537). -/
structure MemTest where
  /-- MEMTEST: 0 passed, 1 failed, 2 not yet run. -/
  result : Nat
  /-- MEMTEST_FAIL. -/
  fail : Nat
deriving DecidableEq, Repr, Inhabited

/-- The state of the block. -/
structure State where
  /-- The commands that wait, first in first out. -/
  pending : List Instr
  /-- Fabric ticks of 1.25 ns that the model has counted (the free-running fabric time base of R221). -/
  tick : Nat
  /-- The number of free values drawn so far (the model's own field, log 2). -/
  fresh : Nat
  /-- What the device has sent out of itself, newest first (the model's own record, log 6). -/
  out : List Out
  /-- Counters that are not 0. -/
  counters : List (Ctr × Nat)
  hiu : Hiu
  cmu : Cmu
  pws : Pws
  boot : Boot
  store : Store
  /-- The retention seal of PD0. -/
  retSeal : Seal
  jtag : Debug
  pd0 : Pd0
  /-- LAST_STATUS of SPI0 and SPI1 (R98). -/
  spiLast : Vector Half 2
  pcie : Pcie
  slots : Vector SlotRec 16
  /-- The slot whose command was served last (R67). -/
  lastServed : Nat
  /-- Owner slot by resource type × 1,024 + index; unlisted resources belong to S0 (R54). -/
  owners : Tbl Nat
  /-- The 512 KiB of mailbox buffers, by offset from 0x0010_0000 (R25, R58). -/
  ram : Memory
  board : Board
  memTest : MemTest
  time : TimeUnit
  net : Net
  crypt : Crypt
  power : Power
  can : Vector CanChan 16
  lin : Vector LinChan 4
  uart : Vector UartChan 6
  relay : Relay
  esc : Esc
  keys : KeyStore
  sleep : Sleep
  meas : Meas
  drover : Drover
deriving DecidableEq, Repr

/-- MBX_RINGr at reset (R117). -/
def Ring.reset : Ring :=
  { (default : Ring) with irqEn := true, sizeLog2 := 6 }

/-- EVU registers at reset (R38). -/
def Evu.reset : Evu := { (default : Evu) with vmap := 0x37BAC688 }

/-- A slot after a cold start (R49, R51, R59): UNBOUND, with nothing in flight. -/
def SlotRec.reset : SlotRec :=
  { (default : SlotRec) with
    state := .unbound, binding := .unset, ethTx := 1
    rings := Vector.replicate 8 Ring.reset, evu := Evu.reset }

/-- TIME_IO registers at reset (R284). -/
def IoRegs.reset : IoRegs := { (default : IoRegs) with period := 1000000000, width := 100000 }

/-- A gPTP instance record with the defaults of R277 for instance `i`, laid out by R278. -/
def Gptp.defaultRecord (i : Nat) : Bytes :=
  w8 i ++ [1, 0xFF, 246] ++ w32 0 ++ [248, 0xFB, 0, 3] ++ w16 800 ++ w16 0 ++ w32 1000 ++ w32 0

/-- The time unit at reset (R267, R270, R277). -/
def TimeUnit.reset : TimeUnit :=
  { (default : TimeUnit) with
    incr := 0x0140000000, nextIncr := 0x0140000000, heldFrac := 0x40000000
    io := Vector.replicate 6 { (default : TimeIo) with active := IoRegs.reset, shadow := IoRegs.reset }
    inst := vtab 4 (fun i => { (default : Gptp) with record := Gptp.defaultRecord i, state := .disabled }) }

/-- Port forwarding parameters at reset (R160), laid out by R161; PCP_MAP sends PCP n to TCn. -/
def FwdCfg.resetRecord : Bytes :=
  w16 1 ++ [0, 1, 0, 1, 0, 0] ++ w32 0xFAC688 ++ w16 16384 ++ w16 1522 ++ zeros 8

/-- VLAN 1 at reset (R132). -/
def Vlan.one : Vlan :=
  { valid := true, member := 0xFFFFFFF, untagged := 0xFFFFFFF, fid := 1, learn := true, flood := 0xFFFFFFF, slots := 0 }

/-- The Customs matrix after a cold start (R166, R168, R185): Z0, Z30 and Z31 OPEN among themselves. -/
def Matrix.reset : Matrix :=
  { pairs := [(0, 3), (30, 3), (31, 3), (960, 3), (990, 3), (991, 3), (992, 3), (1022, 3), (1023, 3)]
    zones := (List.range 25).map (fun p => (p, 0)) ++ [(26, 30), (27, 31)]
    zoneMap := []
    canDefault := [] }

/-- Customs after a cold start (R166, R168, R180, R188). -/
def Customs.reset : Customs :=
  { (default : Customs) with
    matrix := Matrix.reset, matrixStaged := Matrix.reset
    parts := Vector.replicate 33 .idle
    timeouts := #v[600, 10, 60, 10, 60] }

/-- The shared buffer after a cold start (R202, R206). -/
def Buffer.reset : Buffer :=
  { reserve := Vector.replicate 28 256, reserveShadow := Vector.replicate 28 256
    alpha := Vector.replicate 8 6, alphaShadow := Vector.replicate 8 6
    usedRes := Vector.replicate 28 0, resMax := Vector.replicate 28 0
    free := 119808, sharedMin := 119808, headroomMax := 0 }

/-- Queue defaults of a class (R217). -/
def QueueCfg.reset (tc : Nat) : QueueCfg :=
  { express := decide (6 ≤ tc), weight := if 6 ≤ tc then 1 else 2 ^ tc, overhead := 20 }

/-- Sampling after a cold start (R235). PERIOD at reset: DESIGN CHOICE 1 µs (log 11). -/
def Sampling.reset : Sampling :=
  { (default : Sampling) with period := 1, sojournScale := 7 }

/-- An egress queue after a cold start (R206, R217, R221, R259, R261). -/
def Queue.reset (tc : Nat) : Queue :=
  { (default : Queue) with
    cfg := QueueCfg.reset tc, cfgShadow := QueueCfg.reset tc
    timing := { launchEn := false, maxSdu := 0, lateTol := 10000 }
    timingShadow := { launchEn := false, maxSdu := 0, lateTol := 10000 }
    caps := { cap := 131072, ycap := 131072 }, capsShadow := { cap := 131072, ycap := 131072 }
    shaper := { enable := false, rate := 1000000, burst := 16384 }
    sampling := Sampling.reset }

/-- The gate list header after a cold start (R241, R242). -/
def GateList.resetHeader : Bytes :=
  [0, 0] ++ w16 1 ++ w16 0 ++ w16 0 ++ w64 0 ++ w32 1000000 ++ w32 10000 ++ zeros 8

/-- The gate list entry after a cold start (R242). -/
def GateList.resetEntry : Bytes := [0xFF, 0, 0, 0] ++ w32 1000000

/-- Both gate lists and preemption after a cold start (R242, R253). -/
def PortGate.reset : PortGate :=
  { (default : PortGate) with
    admin := { header := GateList.resetHeader, entries := [] }
    oper := { header := GateList.resetHeader, entries := [] }
    verifyEn := true, verifyMs := 10 }

/-- The protection record at reset (R303). -/
def Red.resetProtect : Bytes := [0, 1] ++ w16 10 ++ [0, 1, 3, 7, 3, 0] ++ w16 10 ++ zeros 4

/-- Redundancy after a cold start (R288, R298, R303). -/
def Red.reset : Red :=
  { (default : Red) with
    protect := Red.resetProtect, state := .disabled
    members := Vector.replicate 2 { (default : Member) with faulty := true } }

/-- The default RATE code of a port (R304): 0 AUTO on P0 and P1, else 1. -/
def Phy.defaultRate (p : Nat) : Nat := if p ≤ 1 then 0 else 1

/-- The line rate in Mbit/s of a port whose link has not yet come up: the highest setting of its row (R13, R304). -/
def Phy.nominal (p : Nat) : Nat :=
  if p ≤ 2 then 10000 else if p ≤ 16 then 1000 else if p ≤ 22 then 100 else 10

/-- A PHY after a cold start (R304, R306, R307, R315). -/
def Phy.reset (p : Nat) : Phy :=
  let mode : Bytes := [1, BitVec.ofNat 8 (Phy.defaultRate p), 0, 3, 4, 2, 8, 0, 4] ++ zeros 7
  let plca : Bytes := [0, 8, 32, 0, 128] ++ zeros 3
  { (default : Phy) with
    mode := mode, modeShadow := mode, plca := plca, plcaShadow := plca
    link := .down, rate := Phy.nominal p, tryRate := Phy.nominal p }

/-- The camera power record at reset (R316). -/
def Podl.resetRecord : Bytes := [6, 24] ++ w16 500 ++ w16 1000 ++ [20, 5] ++ w16 10 ++ w16 300 ++ zeros 4

/-- The Ethernet side after a cold start. -/
def Net.reset : Net :=
  { outbox := [], inbox := []
    vlans := [(1, Vlan.one)]
    fdb := []
    ageTime := 300
    fwd := Vector.replicate 28 { active := FwdCfg.resetRecord, shadow := FwdCfg.resetRecord }
    rx := Vector.replicate 25 default
    frames := [], waybills := [], nextFrame := 0, nextWaybill := 0
    stats := { provHigh := 0, waybillsLow := 65536, heldFrames := 0 }
    customs := Customs.reset
    buffer := Buffer.reset
    queues := vtab 224 (fun q => Queue.reset (q % 8))
    fabric := default
    egress := Vector.replicate 25 { (default : Egress) with linkHold := 10, linkHoldShadow := 10, dropping := false }
    meters := [], streamIds := default, filters := []
    sgates := Vector.replicate 64 { (default : SGate) with isOpen := true, ipv := 0xFF }
    gates := Vector.replicate 25 PortGate.reset
    red := Red.reset
    phys := vtab 25 Phy.reset
    podl := Vector.replicate 12 { (default : Podl) with record := Podl.resetRecord }
    pcieUp := false, ringTurn := 0, f25Free := 0 }

/-- The MACsec policy at reset (R420). -/
def MacPort.resetPolicy : Bytes := [0, 0, 3, 1, 0, 0, 0, 0]

/-- The cipher engine after a cold start (R420, R421, R433). -/
def Crypt.reset : Crypt :=
  { ports := Vector.replicate 25 { (default : MacPort) with policy := MacPort.resetPolicy }
    sas := [], retired := [], nextRun := 1, profiles := [], ctxs := []
    cdi := { (default : Cdi) with bytes := 16 }
    rngGood := true
    starts := 0 }

/-- The HIU registers at reset (R37). HIU_TEST at reset: DESIGN CHOICE 0 (log 11). -/
def Hiu.reset : Hiu := { (default : Hiu) with permit := 0xFFFF }

/-- A PCIe function after a reset of its link: MSI-X off, every vector masked, D0. PRESUMED: PCI Express Base 4.0 (log 10). -/
def PcieFn.reset : PcieFn :=
  { msix := false, funcMask := false, d3hot := false, table := Vector.replicate 8 { addr := 0, data := 0, masked := true }, pba := 0 }

/-- The PCIe endpoint before the host configures it. -/
def Pcie.reset : Pcie := { numVfs := 0, fns := Vector.replicate 16 PcieFn.reset }

/-- The PWS registers after power-on reset (R47). -/
def Pws.reset : Pws :=
  { domains := 1, setpoint := 750, wakeSource := 0, wakeIndex := 0, resetCause := 1, sensor := 0, tjMax := 0x8000 }

/-- The boot ROM after power-on reset (R48). BOOTSEL, the fuses: DESIGN CHOICE (log 11): straps 0b00, no bit of the
thermometer blown, no key revoked, PRODUCTION. -/
def Boot.reset : Boot := { (default : Boot) with lcs := 3, lcsFused := 3 }

/-- The arbiter after a cold start (R47, R459, R466). -/
def Power.reset : Power := { (default : Power) with ceiling := 1400, keptCeiling := 1400, boardBudget := 1800 }

/-- GPIO and board interfaces after a cold start (R85, R87). -/
def Board.reset : Board := { gpio := Vector.replicate 8 default, i2cFast := Vector.replicate 2 false, mdcKhz := 2500 }

/-- The CAN configuration record at reset (R328). -/
def CanChan.resetRecord : Bytes :=
  [1, 0] ++ w16 768 ++ w16 256 ++ [0, 0] ++ [1, 32] ++ w16 127 ++ [32, 0, 0, 0] ++ [1, 10] ++ w16 29 ++ [10, 158, 0, 0]
    ++ [1, 2] ++ w16 5 ++ [2, 134, 0, 0]

/-- A CAN channel after a cold start (R326, R328, R332, R342). -/
def CanChan.reset : CanChan :=
  { (default : CanChan) with
    record := CanChan.resetRecord, state := .off, kept := .off
    queues := Vector.replicate 8 [], retx := Vector.replicate 8 (0, 16), filters := Vector.replicate 16 (zeros 12) }

/-- The LIN configuration record at reset (R359). -/
def LinChan.resetRecord : Bytes := [0, 2] ++ w16 19200 ++ [5, 4, 0, 0]

/-- A LIN channel after a cold start (R356, R359, R360). -/
def LinChan.reset : LinChan :=
  { (default : LinChan) with
    record := LinChan.resetRecord, publish := Vector.replicate 64 { data := zeros 8, fresh := false } }

/-- The UART configuration record at reset (R365). -/
def UartChan.resetRecord : Bytes := [0, 1, 20, 0] ++ w32 9600 ++ w16 256 ++ [1, 1, 8] ++ zeros 3

/-- A UART after a cold start (R356, R365). -/
def UartChan.reset : UartChan := { (default : UartChan) with record := UartChan.resetRecord }

/-- The relay complex after a cold start (R378, R390, R391). -/
def Relay.reset : Relay :=
  { (default : Relay) with
    parts := Vector.replicate 16 .idle
    engines := Vector.replicate 12 { (default : EngineRec) with
      state := .inService, window := 16, sigMain := signStart, sigCheck := signStart } }

/-- The ESC configuration record at reset (R412). -/
def Esc.resetConfig : Bytes := [16, 0, 6] ++ zeros 5

/-- Time-redundant execution after a cold start (R407, R412). -/
def Esc.reset : Esc := { (default : Esc) with config := Esc.resetConfig }

/-- All segments (R471): bits 0 to 19 and 24 to 43. -/
def Sleep.allSegments : Nat := (2 ^ 20 - 1) + (2 ^ 20 - 1) * 2 ^ 24

/-- Sleep and wake after power-on reset (R472, R476, R478, R482, R489). -/
def Sleep.reset : Sleep :=
  { (default : Sleep) with
    phase := .awake, segs := Vector.replicate 64 .awake, quietMs := 500, timeoutMs := 5000
    pins := Vector.replicate 4 { record := [0, 0] ++ w16 50 ++ w64 Sleep.allSegments, level := false }
    canWake := Vector.replicate 16 ([1, 2, 1, 0] ++ zeros 28)
    nm := Vector.replicate 16 ([0, 7] ++ w16 10 ++ zeros 20)
    hostTargets := Sleep.allSegments, recType := 0xFF, recData := zeros 8 }

/-- Right after release from power-on reset (R514): PD0 runs, INH0 is not yet asserted, no rail is good, and the digital
die waits. -/
def State.reset : State :=
  { pending := [], tick := 0, fresh := 0, out := [], counters := []
    hiu := Hiu.reset
    cmu := default
    pws := Pws.reset
    boot := Boot.reset
    store := default
    retSeal := default
    jtag := default
    pd0 := { (default : Pd0) with vbatGood := true, resetN := true }
    spiLast := Vector.replicate 2 0
    pcie := Pcie.reset
    slots := Vector.replicate 16 SlotRec.reset
    lastServed := 15
    owners := []
    ram := []
    board := Board.reset
    memTest := { result := 2, fail := 0xFFFFFFFF }
    time := TimeUnit.reset
    net := Net.reset
    crypt := Crypt.reset
    power := Power.reset
    can := Vector.replicate 16 CanChan.reset
    lin := Vector.replicate 4 LinChan.reset
    uart := Vector.replicate 6 UartChan.reset
    relay := Relay.reset
    esc := Esc.reset
    keys := default
    sleep := Sleep.reset
    meas := default
    drover := default }

end Sys2Proof.Machine
end

