-- ==== Sys2Proof/Machine/Ops.lean ====
section
/-! DEFINITION. The named operations over the state that the commands share: lookups, counters, outputs, slots, causes and
interrupts, window errors, events, and the life of a Penyen command from its taking to its response. -/

namespace Sys2Proof.Machine

/-- What a command answers. -/
abbrev Res := Host.Outcome State Fault Refusal

/-- A second operation after a first that may stop. -/
def thenDo (r : Res) (f : State → Res) : Res :=
  match r with
  | .next s => f s
  | .fault e => .fault e
  | .refused e => .refused e

/-- Operations run one after another over a list. -/
def foldDo {α : Type} (l : List α) (f : α → State → Res) (s : State) : Res :=
  match l with
  | [] => .next s
  | a :: as => thenDo (f a s) (foldDo as f)

/-- A state change made only if a condition holds. -/
def doIf (c : Bool) (f : State → State) (s : State) : State := if c then f s else s

/-- A state change made for each element of a list, in order. -/
def forAll {α : Type} (l : List α) (f : α → State → State) (s : State) : State := l.foldl (fun s a => f a s) s

/-! Lookups. -/

/-- The local clock's nanosecond count (R269). -/
def State.now (s : State) : Nat := s.time.ns

/-- Slot `n`. -/
def State.slot (s : State) (n : Nat) : SlotRec := vget s.slots n

/-- Slot `n` changed. -/
def State.modSlot (s : State) (n : Nat) (f : SlotRec → SlotRec) : State := { s with slots := vmod s.slots n f }

/-- Slot `n`'s counters changed. -/
def State.modStats (s : State) (n : Nat) (f : SlotStats → SlotStats) : State :=
  s.modSlot n (fun x => { x with stats := f x.stats })

/-- An output recorded. -/
def State.emit (s : State) (o : Out) : State := { s with out := o :: s.out }

/-- The value of a counter. -/
def State.ctr (s : State) (k : Ctr) : Nat := ((s.counters.find? (fun e => e.1 == k)).map (·.2)).getD 0

/-- A counter list with `n` added to one counter. -/
def addCtr (l : List (Ctr × Nat)) (k : Ctr) (n : Nat) : List (Ctr × Nat) :=
  match l with
  | [] => [(k, n)]
  | e :: es => if e.1 = k then (k, e.2 + n) :: es else e :: addCtr es k n

/-- `n` events counted (R157). -/
def State.count (s : State) (k : Ctr) (n : Nat := 1) : State :=
  if n = 0 then s else { s with counters := addCtr s.counters k n }

/-- Counters set to 0 (R157). -/
def State.clearCtrs (s : State) (p : Ctr → Bool) : State := { s with counters := s.counters.filter (fun e => !p e.1) }

/-- A fresh free number (log 2). -/
def State.freeNat (s : State) : Nat × State := (Config.freeNat s.fresh, { s with fresh := s.fresh + 1 })

/-- A fresh free word of `w` bits (log 2). -/
def State.freeBits (s : State) (w : Nat) : BitVec w × State :=
  (Config.freeBits w s.fresh, { s with fresh := s.fresh + 1 })

/-- Fresh free bytes, `n` of them (log 2). -/
def State.freeBytes (s : State) (n : Nat) : Bytes × State :=
  (padTo n (Config.freeBytes s.fresh), { s with fresh := s.fresh + 1 })

/-- Firmware runs (R48, R100). -/
def State.running (s : State) : Bool := s.boot.state == .running

/-- A rail of PWS_RAILS inside its window or outside it (R47, R513). -/
def State.railBit (s : State) (r : Nat) (good : Bool) : State :=
  { s with pd0 := { s.pd0 with rails := BitVec.ofNat 7 (setBit s.pd0.rails.toNat r good) } }

/-- Rail `r` is good: 0 VDD, 1 VDDM, 2 VDDA09, 3 VDDA18, 4 VDDIO18, 5 VDDIO33, 6 VCC5 (R47). -/
def State.railGood (s : State) (r : Nat) : Bool := s.pd0.rails.getLsbD r

/-- The balls of the VDDIO33 bank work (R513). -/
def State.bank33 (s : State) : Bool := s.railGood 5

/-- VCC5 is inside its limits (R330). -/
def State.vcc5 (s : State) : Bool := s.railGood 6

/-- Something that keeps the device from being idle for the Drover's SLEEP mandate (R505). -/
def State.stir (s : State) : State := { s with drover := { s.drover with active := true } }

/-- The owner slot of a resource (R54). -/
def State.ownerOf (s : State) (ty i : Nat) : Nat := tgetD s.owners (ty * 1024 + i) 0

/-- Slot `n` owns a resource (R55). -/
def State.owns (s : State) (n ty i : Nat) : Bool := s.ownerOf ty i == n

/-- The owner of a resource set (R54); S0's resources are not listed. -/
def State.setOwner (s : State) (ty i n : Nat) : State :=
  { s with owners := if n = 0 then tdel s.owners (ty * 1024 + i) else tset s.owners (ty * 1024 + i) n }

/-- The transport code of a binding (R37); none for Ethernet and for no binding. -/
def Binding.transport : Binding → Option Nat
  | .pcie f => some f.val
  | .spi p => some (16 + p.val)
  | _ => none

/-- Slot `n` is bound to the transport of this code (R49); before firmware runs, no slot is bound to anything (R29). -/
def State.boundTo (s : State) (n code : Nat) : Bool := s.running && (s.slot n).binding.transport == some code

/-- The slot bound to a transport (R29, R49). -/
def State.slotOf (s : State) (t : Transport) : Option Nat := (List.range 16).find? (fun n => s.boundTo n t.val)

/-- The transport code of MBX_STATE and SLOT_STATE (R59): 0x1F for Ethernet. -/
def Binding.code (none_ : Nat) : Binding → Nat
  | .unset => none_
  | .eth _ => 0x1F
  | .pcie f => f.val
  | .spi p => 16 + p.val

/-- Slot state codes. -/
def SlotState.code : SlotState → Nat
  | .unbound => 0 | .bound => 1 | .opened => 2 | .fenced => 3

/-- BOOT_STATE codes (R48). -/
def BootState.code : BootState → Nat
  | .powerUp => 0 | .resumeCheck => 1 | .waitImage => 2 | .receiving => 3 | .verifying => 4 | .running => 5 | .halted => 6

/-- PCIe is enabled: by BOOTSEL before firmware runs, always afterwards (R48, R92). -/
def State.pcieEnabled (s : State) : Bool := s.running || s.boot.bootsel == 0 || s.boot.bootsel == 1

/-- A transport is enabled (R48, R92): 0b00 PCIe, SPI0, SPI1; 0b01 PCIe; 0b10 SPI0 and SPI1; 0b11 SPI0. -/
def State.enabled (s : State) (t : Transport) : Bool :=
  s.running ||
    (if t.val < 16 then s.boot.bootsel == 0 || s.boot.bootsel == 1
     else if t.val = 16 then s.boot.bootsel != 1
     else s.boot.bootsel == 0 || s.boot.bootsel == 2)

/-- PCIe function `f`. -/
def State.pcieFn (s : State) (f : Nat) : PcieFn := vget s.pcie.fns f

/-- PCIe function `f` changed. -/
def State.modFn (s : State) (f : Nat) (g : PcieFn → PcieFn) : State :=
  { s with pcie := { s.pcie with fns := vmod s.pcie.fns f g } }

/-- A PCIe function exists under NumVFs (R320). -/
def State.fnExists (s : State) (f : Nat) : Bool := decide (f ≤ s.pcie.numVfs.val)

/-- A PCIe function exists and is not in D3hot (R320). -/
def State.fnAwake (s : State) (f : Nat) : Bool := s.fnExists f && !(s.pcieFn f).d3hot

/-- A transport reaches the window: the die runs, the transport is enabled, and a PCIe access finds the link in L0 and a function that
answers. -/
def State.reaches (s : State) (t : Transport) : Bool :=
  s.pd0.die && s.enabled t && (if 16 ≤ t.val then s.railGood 5 else s.net.pcieUp && s.fnAwake t.val)

/-! Causes and interrupts (R38 to R41). -/

/-- The vector of cause `c` (R38). -/
def Evu.vec (e : Evu) (c : Nat) : Nat := bitsOf e.vmap.toNat (3 * c) 3

/-- Vector `v` is pending (R39). -/
def Evu.isPending (e : Evu) (v : Nat) : Bool :=
  (List.range 10).any (fun c => e.cause.getLsbD c && e.mask.getLsbD c && e.vec c == v)

/-- An MSI-X message of function `f` for vector `v`, once the host has enabled MSI-X (R39, R320): a masked vector, or a function in
D3hot, keeps it in the pending-bit array. -/
def State.msixSend (s : State) (f : Fin 16) (v : Nat) : State :=
  let p := s.pcieFn f
  let e := vget p.table v
  if !p.msix then s
  else if e.masked || p.funcMask || !s.fnAwake f then s.modFn f (fun p => { p with pba := p.pba ||| (1#8 <<< v) })
  else s.emit (.msix f v e.addr e.data)

/-- The PCIe link is down, and the endpoint with it: the host configures it again (R320, log 10). -/
def State.pcieDown (s : State) : State := { s with net := { s.net with pcieUp := false }, pcie := Pcie.reset }

/-- A message sent on vector `v` of slot `n`, or delayed by the holdoff (R39). -/
def State.message (s : State) (n v : Nat) : State :=
  match (s.slot n).binding with
  | .pcie f =>
    if !s.running || !(s.pcieFn f).msix then s
    else if (s.slot n).evu.holding.getLsbD v then
      s.modSlot n (fun x => { x with evu := { x.evu with delayed := x.evu.delayed ||| (1#8 <<< v) } })
    else
      let s := s.msixSend f v
      if (s.slot n).evu.holdoff = 0 then s
      else s.modSlot n (fun x => { x with evu := { x.evu with holding := x.evu.holding ||| (1#8 <<< v) } })
  | _ => s

/-- Messages for the vectors that `before` did not have pending (first case of R39). -/
def State.messagesSince (s : State) (n : Nat) (before : Evu) : State :=
  forAll (List.range 8)
    (fun v s => if (s.slot n).evu.isPending v && !before.isPending v then s.message n v else s) s

/-- Messages for every vector left pending by a write (second case of R39). -/
def State.messagesAll (s : State) (n : Nat) : State :=
  forAll (List.range 8) (fun v s => if (s.slot n).evu.isPending v then s.message n v else s) s

/-- Cause `c` set in slot `n` (R38). -/
def State.setCause (s : State) (n c : Nat) : State :=
  let before := (s.slot n).evu
  let s := s.modSlot n (fun x => { x with evu := { x.evu with cause := x.evu.cause ||| (1#10 <<< c) } })
  s.messagesSince n before

/-- A cause set in every slot (R44). -/
def State.setCauseAll (s : State) (c : Nat) : State := forAll (List.range 16) (fun n s => s.setCause n c) s

/-- IRQ_N of an SPI port is driven low (R40, R41). -/
def State.irqLow (s : State) (p : Nat) : Bool :=
  (List.range 16).any (fun n => s.boundTo n (16 + p)
    && ((s.slot n).evu.cause &&& (s.slot n).evu.mask) != 0)
  || (s.boot.bootEvt && (if p = 0 then s.boot.bootsel != 1 else s.boot.bootsel == 0 || s.boot.bootsel == 2))

/-- An HIU error of a transport at an address: the first since all were clear is captured (R37) and sets HIU_ERR in S0
and in the slot of that transport (R38). -/
def State.hiuError (s : State) (t : Transport) (addr bit : Nat) : State :=
  let first := s.hiu.err = 0
  let s := { s with hiu := { s.hiu with err := s.hiu.err ||| (1#4 <<< bit) } }
  if first then
    let s := { s with hiu := { s.hiu with firstSrc := BitVec.ofNat 5 t.val, errAddr := BitVec.ofNat 32 addr } }
    let s := s.setCause 0 4
    match s.slotOf t with
    | some n => if n = 0 then s else s.setCause n 4
    | none => s
  else s

/-- LOCK_ERR (R31). -/
def State.lockErr (s : State) (t : Transport) (addr : Nat) : State := s.hiuError t addr 0
/-- DECODE_ERR (R27). -/
def State.decodeErr (s : State) (t : Transport) (addr : Nat) : State := s.hiuError t addr 1
/-- SIZE_ERR (R26). -/
def State.sizeErr (s : State) (t : Transport) (addr : Nat) : State := s.hiuError t addr 2
/-- PERM_ERR (R29). -/
def State.permErr (s : State) (t : Transport) (addr : Nat) : State := s.hiuError t addr 3

/-- A change of BOOT_STATE sets STATE_CHANGE; its 0-to-1 change sends vector 0 of PF (R41). -/
def State.bootStateTo (s : State) (b : BootState) : State :=
  if s.boot.state = b then s
  else
    let was := s.boot.bootEvt
    let pcie := s.boot.bootsel == 0 || s.boot.bootsel == 1
    let s := { s with boot := { s.boot with state := b, bootEvt := true } }
    if !was && pcie then s.msixSend 0 0 else s

/-! Messages and events of slots (R59 to R82). -/

/-- A mailbox ring of `size` bytes at `base`: bytes written from running offset `off`, wrapping (R60). -/
def ringWrite (m : Memory) (base size off : Nat) : Bytes → Memory
  | [] => m
  | b :: bs => ringWrite (m.write (base + off % size) b) base size (off + 1) bs

/-- `n` bytes read from a mailbox ring at running offset `off`, wrapping (R60). -/
def ringRead (m : Memory) (base size off : Nat) : Nat → Bytes
  | 0 => []
  | n + 1 => m.read (base + off % size) :: ringRead m base size (off + 1) n

/-- The 64-byte event entry (R76). -/
def eventEntry (ev seq tag status time : Nat) (data : Bytes) : Bytes :=
  w16 ev ++ w16 seq ++ w16 tag ++ w16 status ++ w64 time ++ padTo 48 data

/-- A Penyen message header and payload as a response carries it (R64). -/
def responseMsg (n : Nat) (op tag : Half) (a : Answer) : Bytes :=
  w16 op.toNat ++ w16 tag.toNat ++ w16 a.payload.length
    ++ w16 (0x8000 + 2 * b2n a.trunc + b2n a.replayed) ++ w8 n ++ [0] ++ w16 a.status.toNat ++ zeros 4 ++ a.payload

/-- The Ethernet frame of an envelope, without FCS (R79): destination, source, tag if the binding names a VLAN,
EtherType 0x88B7, envelope header, message and CMAC. -/
def envelopeFrame (b : EthBinding) (flags n seq : Nat) (msg : Bytes) : Bytes :=
  let dst := beBytes 6 b.mac.toNat
  let src := beBytes 6 Config.managementMac.toNat
  let head := beBytes 3 0x0AE17C ++ beBytes 2 2 ++ w8 flags ++ w8 n ++ [0] ++ beBytes 8 seq
  let mac := cmac b.d2h (dst ++ src ++ beBytes 2 0x88B7 ++ head ++ msg)
  let tag := if b.vlan = 0 then [] else beBytes 2 0x8100 ++ beBytes 2 b.vlan.toNat
  dst ++ src ++ tag ++ beBytes 2 0x88B7 ++ head ++ msg ++ beBytes 16 mac.toNat

/-- An envelope frame sent from a slot through F27 (R81, R82). -/
def State.sendEnvelope (s : State) (n flags : Nat) (msg : Bytes) : State :=
  match (s.slot n).binding with
  | .eth b =>
    let f := envelopeFrame b flags n (s.slot n).ethTx msg
    let s := s.modSlot n (fun x => { x with ethTx := x.ethTx + 1 })
    { s with net := { s.net with outbox := s.net.outbox ++
        [{ ingress := 27, bytes := f, direct := if b.port = 0xFFFF then none else some b.port, launch := none,
           tc := none, oneStep := false }] } }
  | _ => s

/-- The slot is bound to Ethernet. -/
def SlotRec.isEth (x : SlotRec) : Bool := match x.binding with | .eth _ => true | _ => false

/-- Free entries of a slot's event ring (R58, R59). -/
def SlotRec.evtFree (x : SlotRec) : Nat := 64 - (x.evtHead - x.evtTail).toNat

/-- An entry stored in a slot's event ring: EVT_HEAD advances and EVENT is set (R76, R78). -/
def State.storeEvent (s : State) (n : Nat) (entry : Bytes) : State :=
  let k := (s.slot n).evtHead.toNat % 64
  let s := { s with ram := s.ram.writeAll (0x8000 * n + 0x4000 + 64 * k) entry }
  let s := s.modSlot n (fun x => { x with evtHead := x.evtHead + 1 })
  let s := s.modStats n (fun c => { c with events := c.events + 1 })
  s.setCause n 1

/-- An event that is not DONE: SEQ advances; it is sent to an Ethernet host, written to the ring, or lost when 4 or
fewer entries are free (R76, R78). -/
def State.event (s : State) (n ev : Nat) (data : Bytes) : State :=
  let x := s.slot n
  let entry := eventEntry ev x.seq.toNat 0 0 s.now data
  let s := s.modSlot n (fun x => { x with seq := x.seq + 1 })
  if x.isEth then
    let s := s.modStats n (fun c => { c with events := c.events + 1 })
    s.sendEnvelope n 3 (w16 ev ++ w16 0 ++ w16 64 ++ w16 0x8000 ++ w8 n ++ zeros 7 ++ entry)
  else if x.evtFree ≤ 4 then
    let s := s.modSlot n (fun x => { x with evtLost := if x.evtLost = 0xFFFF then x.evtLost else x.evtLost + 1 })
    s.modStats n (fun c => { c with eventsLost := c.eventsLost + 1 })
  else s.storeEvent n entry

/-- The event also in a second slot where it differs from the first. -/
def State.eventTwo (s : State) (a b ev : Nat) (data : Bytes) : State :=
  let s := s.event a ev data
  if a = b then s else s.event b ev data

/-- The event in every OPEN slot. -/
def State.eventOpen (s : State) (ev : Nat) (data : Bytes) : State :=
  forAll (List.range 16) (fun n s => if (s.slot n).state == .opened then s.event n ev data else s) s

/-- An unfinished job of a slot with this tag and opcode. -/
def SlotRec.hasJob (x : SlotRec) (tag op : Half) : Bool :=
  x.jobs.any (fun j => j.tag == tag && j.op == op && !j.finished)

/-- The first unfinished job of this tag and opcode marked finished. -/
def markJob (l : List Job) (tag op : Half) : List Job :=
  match l with
  | [] => []
  | j :: js => if j.tag = tag ∧ j.op = op ∧ j.finished = false then { j with finished := true } :: js
               else j :: markJob js tag op

/-- The work of an accepted command finishes (R68, R78): its DONE event takes its SEQ and TIME now, and waits to be written
(DONE_EVENT, or MBX_EVT_TAIL_WRITE). Without such a job nothing happens. -/
def State.finishJob (s : State) (n : Nat) (tag op status : Half) (result : Bytes) : State :=
  let x := s.slot n
  if !x.hasJob tag op then s
  else
    let entry := eventEntry 1 x.seq.toNat tag.toNat status.toNat s.now (w16 op.toNat ++ result.take 46)
    s.modSlot n (fun x => { x with
      seq := x.seq + 1, jobs := markJob x.jobs tag op, held := x.held ++ [{ tag := tag, entry := entry }] })

/-- The jobs without the first finished one of a tag. -/
def dropFinished (l : List Job) (tag : Half) : List Job :=
  match l with
  | [] => []
  | j :: js => if j.tag = tag ∧ j.finished then js else j :: dropFinished js tag

/-- The oldest held DONE event is written, if an entry is free (R78); to an Ethernet host it is sent. -/
def State.writeDone (s : State) (n : Nat) : State :=
  let x := s.slot n
  match x.held with
  | [] => s
  | h :: hs =>
    let done (s : State) : State := s.modSlot n (fun x => { x with held := hs, jobs := dropFinished x.jobs h.tag })
    if x.isEth then
      let s := (done s).modStats n (fun c => { c with events := c.events + 1 })
      s.sendEnvelope n 3 (w16 1 ++ w16 h.tag.toNat ++ w16 64 ++ w16 0x8000 ++ w8 n ++ [0] ++ slice h.entry 6 2 ++ zeros 4
        ++ h.entry)
    else if x.evtFree = 0 then s
    else (done s).storeEvent n h.entry

/-- Held DONE events written while entries are free, in completion order (R78). -/
def State.writeHeld (s : State) (n : Nat) : Nat → State
  | 0 => s
  | k + 1 => (s.writeDone n).writeHeld n k

/-! Status codes (R88) and answers. -/

/-- A response with a status and a payload. -/
def answer (status : Nat) (payload : Bytes) : Answer :=
  { status := BitVec.ofNat 16 status, payload := payload, replayed := false, trunc := false }

/-- ST_OK. -/
def stOk (payload : Bytes) : Answer := answer 0 payload
def stBadOpcode : Answer := answer 0x0100 []
def stBadLength : Answer := answer 0x0101 []
/-- ST_BAD_PARAM with the offset of the first bad field. -/
def stBadParam (off : Nat) : Answer := answer 0x0102 (w16 off)
def stNotOwner : Answer := answer 0x0103 []
/-- ST_WRONG_STATE with the payload of R75. -/
def stWrongState (ty idx st : Nat) : Answer := answer 0x0104 (w16 ty ++ w16 idx ++ w16 st ++ [0, 0])
def stNoResource : Answer := answer 0x0105 []
def stBusy : Answer := answer 0x0106 []
def stTimingConflict : Answer := answer 0x0107 []
def stLocked : Answer := answer 0x0108 []
def stKeyStale : Answer := answer 0x0200 []
def stKeyAttr : Answer := answer 0x0201 []
def stLengthLimit : Answer := answer 0x0202 []
def stExhausted : Answer := answer 0x0203 []
def stAuthFail : Answer := answer 0x0204 []
def stGrantDenied : Answer := answer 0x0300 []
/-- ST_SLEEP_ABORTED with the wake source. -/
def stSleepAborted (src : Nat) : Answer := answer 0x0301 (w16 src)

/-- What the execution of a command gives: an answer now, ST_ACCEPTED with the work to finish later, or an answer that
its work gives later while it stays in flight. -/
inductive Reply where
  | done (a : Answer)
  | accepted
  | later
deriving DecidableEq, Repr, Inhabited

/-- A Penyen command: its opcode, the lengths that suit it, the checks 5 to 8 of R65 in order, and its execution. -/
structure Cmd where
  /-- OPCODE. -/
  op : Nat
  /-- LENGTH suits the payload (check 4). -/
  lengthOk : Bytes → Bool
  /-- The first failing check after the slot state: object range, owner, object state, parameters. -/
  check : State → Nat → Bytes → Option Answer
  /-- The effect and the reply: state, slot, tag, payload. -/
  run : State → Nat → Half → Bytes → State × Reply

/-- One check: the answer if the condition fails. -/
def need (c : Bool) (a : Answer) : Option Answer := if c then none else some a

/-- The first failing check of a list. -/
def firstFail : List (Option Answer) → Option Answer
  | [] => none
  | some a :: _ => some a
  | none :: cs => firstFail cs

/-- A list of ranges as a capability record carries it (R538): the count, then each minimum and maximum. -/
def capRanges (l : List (Nat × Nat)) : Bytes := w32 l.length ++ l.flatMap (fun r => w32 r.1 ++ w32 r.2)

/-- The payload has exactly `n` bytes. -/
def lenIs (n : Nat) (p : Bytes) : Bool := p.length == n

/-- The opcodes of the GET commands of every group (R484). -/
def getOps : List Nat :=
  [0x0100, 0x0101, 0x0200, 0x0207, 0x020B, 0x020C, 0x0300, 0x0302, 0x0303, 0x0309, 0x030A, 0x0321, 0x0322,
   0x0324, 0x0400, 0x0412, 0x0500, 0x0506, 0x0508, 0x050B, 0x0510, 0x0600, 0x0602, 0x0604, 0x0606, 0x0608, 0x060B,
   0x060D, 0x0610, 0x0613, 0x0700, 0x0703, 0x0706, 0x0708, 0x070A, 0x0800, 0x0801, 0x0808, 0x080D, 0x0900,
   0x0904, 0x0907, 0x0909, 0x0A00, 0x0A02, 0x0A04, 0x0A0D, 0x0B00, 0x0B08, 0x0B13, 0x0B22, 0x0C00, 0x0C03,
   0x0C05, 0x0C07, 0x0C09, 0x0C0A, 0x0D00, 0x0D06, 0x0D08, 0x0D10, 0x0E00, 0x0E08, 0x0E0A, 0x0F00, 0x0F01,
   0x0F05, 0x0F06, 0x1000, 0x1003, 0x100A, 0x100B, 0x1100, 0x1104, 0x1200, 0x1203, 0x1206, 0x1300, 0x1301,
   0x1400, 0x1402, 0x1404, 0x1408]

/-- From PREPARE on, only SLEEP_GET_STATUS, SLEEP_CANCEL and the GET commands are admitted (R484). -/
def prepareAdmits (s : State) (op : Nat) : Option Answer :=
  need (!(s.sleep.phase == .prepare && !(getOps.contains op || op == 0x1002))) (stWrongState 0x1001 0 3)

/-- Check 5 of R65: the slot state admits the opcode, and then the sleep sequence (R484). -/
def admits (s : State) (n op : Nat) : Option Answer :=
  match (s.slot n).state with
  | .opened => prepareAdmits s op
  | .bound =>
    (need (op == 0x0201 || op == 0x0207 || op == 0x0100 || op == 0x0101) (stWrongState 0x0200 n 1)).orElse
      (fun _ => prepareAdmits s op)
  | .fenced => (need (op == 0x0207) stLocked).orElse (fun _ => prepareAdmits s op)
  | .unbound => some (stWrongState 0x0200 n 0)

/-- A restricted slot may not read what it does not own (R56). -/
def mayRead (s : State) (n ty i : Nat) : Option Answer :=
  need (!(s.slot n).restricted || s.owns n ty i) stNotOwner

/-- A restricted slot may not read what belongs to no slot (R56). -/
def mayReadDevice (s : State) (n : Nat) : Option Answer := need (!(s.slot n).restricted) stNotOwner

/-- The slot owns a resource (check 6 of R65). -/
def mustOwn (s : State) (n ty i : Nat) : Option Answer := need (s.owns n ty i) stNotOwner

/-- The slot is S0 (check 6 of R65 for S0's commands). -/
def mustBeS0 (n : Nat) : Option Answer := need (n == 0) stNotOwner

/-- An index field below its limit: the range check before check 6, or check 8 (R65). -/
def inRange (v limit off : Nat) : Option Answer := need (v < limit) (stBadParam off)

/-- A field between two bounds (check 8). -/
def between (v lo hi off : Nat) : Option Answer := need (lo ≤ v && v ≤ hi) (stBadParam off)

/-- A field that is 0 or 1. -/
def flag (p : Bytes) (off : Nat) : Option Answer := need (byteAt p off ≤ 1) (stBadParam off)

/-- A count field, and a range of indices that stays within a limit. -/
def countIn (first count most limit offFirst offCount : Nat) : Option Answer :=
  firstFail [need (first < limit) (stBadParam offFirst), need (1 ≤ count && count ≤ most) (stBadParam offCount),
    need (first + count ≤ limit) (stBadParam offCount)]

/-- The objects below a limit that a first index and a count name: those whose owner check 6 asks for (R65). -/
def objectsIn (first count limit : Nat) : List Nat := ((List.range count).map (fun k => first + k)).filter (fun i => decide (i < limit))

/-- The owner of a fabric port's settings: the owner of P0 to P24, S0 for F25 to F27 (R162, R239). -/
def mustOwnPort (s : State) (n p : Nat) : Option Answer := if p < 25 then mustOwn s n 1 p else mustBeS0 n

/-- A read of a fabric port's settings (R56). -/
def mayReadPort (s : State) (n p : Nat) : Option Answer := if p < 25 then mayRead s n 1 p else mayReadDevice s n

/-- Counters as 8-byte fields (R157). -/
def counterBytes (s : State) (l : List Ctr) : Bytes := l.flatMap (fun k => w64 (s.ctr k))

/-- The oldest command in flight, if it is neither answered nor a duplicate: the one that executes (R67). -/
def frontOf (l : List InFlight) : Option InFlight :=
  match l with
  | [] => none
  | f :: _ => if f.answer.isNone && !f.dup then some f else none

/-- The answer recorded for the oldest command. -/
def answerFrontOf (l : List InFlight) (a : Answer) : List InFlight :=
  match l with
  | [] => []
  | f :: fs => { f with answer := some a } :: fs

/-- The oldest command marked started, its answer to come later. -/
def startFrontOf (l : List InFlight) : List InFlight :=
  match l with
  | [] => []
  | f :: fs => { f with started := true } :: fs

/-- The response as the tag window stores it (R74): up to 240 bytes of payload. -/
def storedAnswer (a : Answer) : Answer :=
  if a.payload.length ≤ 240 then a else { a with payload := [], trunc := true }

/-- The response stored under a tag. -/
def storeTag (l : List TagEntry) (tag : Half) (a : Answer) : List TagEntry :=
  l.map (fun e => if e.tag == tag then { e with answer := some (storedAnswer a) } else e)

/-- The stored response as a duplicate gets it (R72, R74). -/
def replayOf (a : Answer) : Answer := { storedAnswer a with replayed := true }

/-- Duplicates of a tag that wait for its command get the stored response (R73). -/
def answerDups (l : List InFlight) (tag : Half) (a : Answer) : List InFlight :=
  l.map (fun f => if f.dup && f.tag == tag && f.answer.isNone then { f with answer := some (replayOf a) } else f)

/-- The front command of a slot is answered (R66); its tag keeps the response (R72). -/
def State.answerFront (s : State) (n : Nat) (a : Answer) : State :=
  match frontOf (s.slot n).inFlight with
  | none => s
  | some f => s.modSlot n (fun x => { x with
      inFlight := answerDups (answerFrontOf x.inFlight a) f.tag a, tags := storeTag x.tags f.tag a })

/-- The work of a started command ends: it is answered now, or, where its class limit has already passed and ST_ACCEPTED was its
answer, its DONE event follows (R68). -/
def State.answerStarted (s : State) (n : Nat) (tag op : Half) (a : Answer) : State :=
  match frontOf (s.slot n).inFlight with
  | none => s.finishJob n tag op a.status a.payload
  | some f =>
    if f.tag = tag ∧ f.op = op ∧ f.started then s.answerFront n a else s.finishJob n tag op a.status a.payload

/-- A tag enters the window of 32, pushing the oldest out (R72). -/
def pushTag (l : List TagEntry) (op tag : Half) : List TagEntry :=
  if tag = 0 then l
  else (l ++ [(TagEntry.mk tag op none)]).drop (l.length + 1 - 32)

/-- The entry of a non-zero tag in the window. -/
def SlotRec.holder (x : SlotRec) (tag : Half) : Option TagEntry :=
  if tag = 0 then none else x.tags.find? (fun e => e.tag == tag)

/-- A request is taken (R60, R66, R72): it joins the commands in flight, its tag enters the window, COMMANDS counts it. A
tag already in the window makes it a duplicate, answered with the stored response. -/
def State.take (s : State) (n : Nat) (op tag : Half) (payload : Bytes) (now : Option Answer) : State :=
  let new : InFlight :=
    { op := op, tag := tag, payload := payload, dup := false, excused := false, orphan := false, started := false
      answer := now }
  let s :=
    match (s.slot n).holder tag with
    | some e => s.modSlot n (fun x => { x with
        inFlight := x.inFlight ++ [{ new with op := e.op, dup := true, answer := e.answer.map replayOf }] })
    | none => s.modSlot n (fun x => { x with
        inFlight := x.inFlight ++ [new]
        tags := match now with
          | some a => storeTag (pushTag x.tags op tag) tag a
          | none => pushTag x.tags op tag })
  let s := if getOps.contains op.toNat then s else s.stir
  s.modStats n (fun c => { c with commands := c.commands + 1 })

/-- The checks of R65 from check 4, in order. A command in flight when its slot was fenced or unbound has the slot state behind
it (R53). -/
def Cmd.refusal (c : Cmd) (s : State) (n : Nat) (excused : Bool) (payload : Bytes) : Option Answer :=
  firstFail [need (c.lengthOk payload && decide (payload.length ≤ 8176)) stBadLength,
    if excused then prepareAdmits s c.op else admits s n c.op, c.check s n payload]

/-- The front command of a slot executes (R65, R67, R68). -/
def State.execute (s : State) (c : Cmd) (n : Nat) (excused : Bool) (tag : Half) (payload : Bytes) : State :=
  match c.refusal s n excused payload with
  | some a => s.answerFront n a
  | none =>
    match c.run s n tag payload with
    | (s', .done a) => s'.answerFront n a
    | (s', .later) => s'.modSlot n (fun x => { x with inFlight := startFrontOf x.inFlight })
    | (s', .accepted) =>
      if 4 ≤ (s.slot n).jobs.length then s.answerFront n stBusy
      else
        let j : Job := { tag := tag, op := BitVec.ofNat 16 c.op, finished := false }
        (s'.modSlot n (fun x => { x with jobs := x.jobs ++ [j] })).answerFront n (answer 2 [])

/-- A slot's oldest command waits to start (R67). -/
def State.ready (s : State) (n : Nat) : Bool :=
  match frontOf (s.slot n).inFlight with
  | some f => !f.started
  | none => false

/-- The round-robin has come to slot `n` (R67): no slot that waits comes before it, counted from the one after the last served, and the debugger has halted no core (log 72). -/
def State.hasTurn (s : State) (n : Nat) : Bool :=
  s.store.cores.toList.all (fun c => !c.halted) && (List.range 16).all (fun m => m == n || !s.ready m || decide ((n + 15 - s.lastServed) % 16 < (m + 15 - s.lastServed) % 16))

/-- The device serves slot `n`. -/
def State.serveSlot (s : State) (n : Nat) : State := { s with lastServed := n }

/-- The bytes a message occupies in a mailbox ring (R60): header and payload, rounded up to 16. -/
def msgSize (len : Nat) : Nat := (16 + len + 15) / 16 * 16

/-- Free bytes of a slot's response buffer. -/
def SlotRec.rspRoom (x : SlotRec) : Nat := 8192 - (x.rspHead - x.rspTail).toNat

/-- The oldest command is answered and its response lacks room, so no request is taken (R63). -/
def SlotRec.blocked (x : SlotRec) : Bool :=
  !x.isEth &&
  match x.inFlight with
  | [] => false
  | f :: _ =>
    match f.answer with
    | none => false
    | some a => decide (x.rspRoom < msgSize a.payload.length)

/-- This command is the oldest request in flight of its slot, neither answered nor started. -/
def InFlight.isFront (f : InFlight) (op tag : Half) (payload : Bytes) : Bool :=
  f.op == op && f.tag == tag && f.payload == payload && f.answer.isNone && !f.dup && !f.started

/-- A Penyen command executes now and passes every check. -/
def runsNow (c : Cmd) (n : Nat) (tag : Half) (payload : Bytes) (s : State) : Bool :=
  s.running && s.hasTurn n &&
    match (s.slot n).inFlight with
    | [] => (s.slot n).state != .unbound && ((s.slot n).holder tag).isNone && (c.refusal s n false payload).isNone
    | f :: _ => f.isFront (BitVec.ofNat 16 c.op) tag payload && (c.refusal s n f.excused payload).isNone

/-- A Penyen command of slot `n`: the oldest request in flight, if it is this one and has not started, executes; with
nothing in flight, it is taken and executes; behind another it is taken and waits, and so it does while the round-robin serves another
slot first (R63, R66, R67). Without firmware there is no
such command, and an UNBOUND slot takes none; what it had in flight runs on (R53). -/
def penyen (c : Cmd) (n : Nat) (tag : Half) (payload : Bytes) (s : State) : State :=
  let op := BitVec.ofNat 16 c.op
  let unbound := (s.slot n).state == .unbound
  if !s.running then s
  else
    match (s.slot n).inFlight with
    | [] =>
      if unbound then s
      else
        let s := s.take n op tag payload none
        if (frontOf (s.slot n).inFlight).isSome && s.hasTurn n then (s.serveSlot n).execute c n false tag payload else s
    | f :: _ =>
      if f.isFront op tag payload then (if s.hasTurn n then (s.serveSlot n).execute c n f.excused tag payload else s)
      else if unbound || decide (8 ≤ (s.slot n).inFlight.length) || (s.slot n).blocked then s
      else s.take n op tag payload none

end Sys2Proof.Machine
end

