-- ==== Sys2Proof/Machine/Budget.lean ====
section
/-! DEFINITION. Nested retry budgets (R71, R340, R368, R388). -/

namespace Sys2Proof.Machine

/-- The bit time of a timing triplet in ps (R328): (1 + TSEG1 + TSEG2) × BRP / 80 MHz. -/
def bitTime (t : Bytes) : Nat := (1 + le t 2 2 + byteAt t 1) * byteAt t 0 * 12500

/-- FD_EN, XL_EN and the triplets of a CAN record (R328). -/
def canFd (r : Bytes) : Bool := bitOf (byteAt r 0) 0
def canXl (r : Bytes) : Bool := bitOf (byteAt r 0) 1
def canNominal (r : Bytes) : Bytes := slice r 8 8
def canFdData (r : Bytes) : Bytes := slice r 16 8
def canXlData (r : Bytes) : Bytes := slice r 24 8

/-- One attempt in ps (R340): the channel's longest frame with worst-case stuffing, plus 31 nominal bits. A classical frame
of 8 bytes with an extended identifier has 160 nominal bits, an FD frame of 64 bytes 57 and 679 data bits (DEDUCED, log 31: the
example of R388 counts a standard identifier, and R3 lets the rule hold); an XL frame of 2,048 bytes 35 and 18,148 (PRESUMED,
log 31). -/
def canAttempt (r : Bytes) : Nat :=
  let n := bitTime (canNominal r)
  let classic := 160 * n
  let fd := if canFd r then 57 * n + 679 * bitTime (canFdData r) else 0
  let xl := if canXl r then 35 * n + 18148 * bitTime (canXlData r) else 0
  max classic (max fd xl) + 31 * n

/-- The retransmission budget of a queue in ps, none where it has no end (R340). -/
def canBudget (record : Bytes) (retx : Nat × Nat) : Option Nat :=
  if retx.1 = 0 then none else if retx.1 = 1 then some (canAttempt record) else some ((retx.2 + 1) * canAttempt record)

/-- The bits of one character (R365, R388). -/
def charBits (format : Nat) : Nat :=
  1 + (if bitOf format 0 then 8 else 7) + b2n (bitsOf format 1 2 != 0) + 1 + b2n (bitOf format 3)

/-- The budget of a UART in ps (R368, R388). -/
def uartBudget (r : Bytes) : Nat :=
  if byteAt r 0 = 1 then (byteAt r 12 + 1) * 236 * 10 ^ 12 / 9600
  else (le r 8 2 * charBits (byteAt r 1) + byteAt r 10 + byteAt r 11) * 10 ^ 12 / max 1 (le r 4 4)

/-- A budget in ps is not shorter than a lifetime in µs (R388). -/
def overlaps (budget : Option Nat) (lifetime : Nat) : Bool :=
  lifetime != 0 && match budget with
    | none => true
    | some b => decide (lifetime * 10 ^ 6 ≤ b)

/-- VALID of a route (R374). -/
def routeValid (r : Bytes) : Bool := bitOf (byteAt r 0) 0
/-- DEST of a route. -/
def routeDest (r : Bytes) : Nat := le r 12 2
/-- QUEUE of a route. -/
def routeQueue (r : Bytes) : Nat := byteAt r 14
/-- LIFETIME_US of a route. -/
def routeLife (r : Bytes) : Nat := le r 32 4

/-- Every valid route that is active or in an ARMED bank (R388). -/
def State.routesInForce (s : State) : List Bytes :=
  ((s.relay.routes ++ s.relay.routesStaged.filter (fun e => vget s.relay.parts (e.1 / 1024) == .armed)).map (·.2)).filter
    routeValid

/-- The routes in force that name a destination accept its budget, by queue (R388); ST_TIMING_CONFLICT otherwise. -/
def budgetsFit (s : State) (dest : Nat) (budget : Nat → Option Nat) : Option Answer :=
  need (s.routesInForce.all (fun r => routeDest r != dest || !overlaps (budget (routeQueue r)) (routeLife r)))
    stTimingConflict

/-- The budget that a route's destination has now: some none where it has no end, none where R388 names no pair. -/
def State.destBudget (s : State) (r : Bytes) : Option (Option Nat) :=
  let d := routeDest r
  if d < 16 then some (canBudget (vget s.can d).record (vget (vget s.can d).retx (routeQueue r)))
  else if 0x200 ≤ d ∧ d < 0x300 then
    some (some (le (tgetD s.relay.tunnels (d - 0x200) default).record 6 2 * 10 ^ 6))
  else if 0x310 ≤ d ∧ d < 0x316 then some (some (uartBudget (vget s.uart (d - 0x310)).record))
  else none

/-- A route may become active (R388). -/
def State.routeFits (s : State) (r : Bytes) : Bool :=
  match s.destBudget r with
  | none => true
  | some b => !overlaps b (routeLife r)

end Sys2Proof.Machine
end

