-- ==== Sys2Proof/Machine/Segs.lean ====
section
/-! DEFINITION. Segments: their codes, states, events, and the SLEEP_SEGMENT commands under way (chapter 21 of the spec). -/

namespace Sys2Proof.Machine

/-- The sleep state changed. -/
def State.modSleep (s : State) (f : Sleep → Sleep) : State := { s with sleep := f s.sleep }

/-- A segment code that is not reserved (R471). -/
def segReal (n : Nat) : Bool := decide (n < 20) || (decide (24 ≤ n) && decide (n < 44))

/-- The resource of a segment: type and index (R54, R471). -/
def segResource (n : Nat) : Nat × Nat := if n < 16 then (2, n) else if n < 24 then (3, n - 16) else (1, n - 19)

/-- The segment of port `p` (R471). -/
def segOfPort (p : Nat) : Nat := p + 19

/-- Segment state codes (R472). -/
def SegState.code : SegState → Nat
  | .awake => 0 | .going => 1 | .asleep => 2

/-- The state of segment `n` (R472): for LIN channels and T1 ports ASLEEP is the channel's or the port's own. A channel in OFF
or a port that is DISABLED has the mark alone (DEDUCED, log 40). -/
def State.segState (s : State) (n : Nat) : SegState :=
  let mark := vget s.sleep.segs n
  if n < 16 then mark
  else if n < 24 then (if (vget s.lin (n - 16)).state = 2 then .asleep else mark)
  else if (vget s.net.phys (n - 19)).link = .asleep then .asleep else mark

/-- The mask of the segments in a state. -/
def State.segMask (s : State) (st : SegState) : Nat := maskOf 64 (fun n => segReal n && s.segState n == st)

/-- SLEEP_SEGMENT to the segment's owner and to S0 (R473, R492): causes 0 command, 1 wake, 2 WAKE_FWD, 3 quiet. -/
def State.segEvent (s : State) (n : Nat) (st : SegState) (cause : Nat) : State :=
  let r := segResource n
  s.eventTwo (s.ownerOf r.1 r.2) 0 0x1002 (w8 n ++ w8 st.code ++ w8 cause)

/-- The mark of a segment set, without an event. -/
def State.segMark (s : State) (n : Nat) (st : SegState) : State :=
  s.modSleep (fun x => { x with segs := vset x.segs n st })

/-- A segment changes its state, with its event. -/
def State.segTo (s : State) (n : Nat) (st : SegState) (cause : Nat) : State :=
  if s.segState n = st then s else (s.segMark n st).segEvent n st cause

/-- SLEEP_SEGMENT commands whose every segment is ASLEEP end with ST_OK (R473). -/
def State.segSettle (s : State) : State :=
  let all (j : SegJob) : Bool := (maskList 64 j.mask).all (fun n => s.segState n == .asleep)
  let done := s.sleep.jobs.filter all
  let s := s.modSleep (fun x => { x with jobs := x.jobs.filter (fun j => !all j) })
  forAll done (fun j s => s.finishJob j.slot j.tag 0x1004 0 []) s

/-- A named segment woke first: the SLEEP_SEGMENT commands that name it end with ST_SLEEP_ABORTED, the wake source and the
segment code (R473). -/
def State.segWoke (s : State) (n src : Nat) : State :=
  let hit := s.sleep.jobs.filter (fun j => bitOf j.mask n)
  let s := s.modSleep (fun x => { x with jobs := x.jobs.filter (fun j => !bitOf j.mask n) })
  forAll hit (fun j s => s.finishJob j.slot j.tag 0x1004 0x0301 (w16 src ++ w8 n)) s

/-- The wake source of a command, as SLEEP_CANCEL has it (R484): host access with INDEX 0xFF. DEDUCED, log 30. -/
def commandWake : Nat := 0xFF06

end Sys2Proof.Machine
end

