-- ==== Sys2Proof/Machine/Can.lean ====
section
/-! DEFINITION. CAN channels: states, transmit queues and slots, outcomes, reception, errors and detection (chapter 14 of the
spec). -/

namespace Sys2Proof.Machine

/-- CAN channel `c`. -/
def State.canCh (s : State) (c : Nat) : CanChan := vget s.can c

/-- CAN channel `c` changed. -/
def State.modCan (s : State) (c : Nat) (f : CanChan → CanChan) : State := { s with can := vmod s.can c f }

/-- Channel state codes (R326). -/
def CanState.code : CanState → Nat
  | .off => 0 | .normal => 1 | .listenOnly => 2 | .restricted => 3 | .busOff => 4 | .recovering => 5 | .detecting => 6

/-- The state of a MODE code (R353). -/
def canMode (code : Nat) : CanState :=
  if code = 1 then .normal else if code = 2 then .listenOnly else if code = 3 then .restricted
  else if code = 6 then .detecting else .off

/-- The channel is error passive (R347). PRESUMED of ISO 11898-1, log 32: a counter above 127. -/
def CanChan.passive (x : CanChan) : Bool := decide (127 < x.tec) || decide (127 < x.rec_)

/-- The error state (R353): 0 active, 1 passive, 2 bus-off. -/
def CanChan.errorState (x : CanChan) : Nat :=
  if x.state = .busOff ∨ x.state = .recovering then 2 else if x.passive then 1 else 0

/-- CAN_STATE to the owner of the channel (R354). -/
def State.canEvent (s : State) (c cause : Nat) : State :=
  let x := s.canCh c
  s.event (s.ownerOf 2 c) 0x0A01
    (w8 c ++ w8 x.state.code ++ w8 x.errorState ++ w8 cause ++ w16 x.tec ++ w16 x.rec_)

/-- The segment of the channel carries traffic (R472). -/
def State.canSegUp (s : State) (c : Nat) : Bool := s.segState c != .asleep

/-! Frames. -/

/-- FORMAT bits [1:0]: 0 classical, 1 FD, 2 XL (R127). -/
def CanFrame.kind (f : CanFrame) : Nat := f.format % 4
/-- RTR of a classical frame (R127). -/
def CanFrame.remote (f : CanFrame) : Bool := f.kind == 0 && bitOf f.id 30
/-- IDE (R127). -/
def CanFrame.ide (f : CanFrame) : Bool := bitOf f.id 29

/-- The bit of the FORMATS match masks of R184 and R374. -/
def CanFrame.fmtBit (f : CanFrame) : Nat :=
  if f.format = 8 then 3 else if f.format = 16 then 4 else f.kind

/-- A valid FD data length (R127). -/
def fdLength (n : Nat) : Bool := decide (n ≤ 8) || [12, 16, 20, 24, 32, 48, 64].contains n

/-- The data length suits the format, and a CAN XL frame has IDE 0 and a priority identifier of 11 bits (R127, R352). -/
def CanFrame.lengthOk (f : CanFrame) : Bool :=
  if f.kind = 0 then decide (f.data.length ≤ 8)
  else if f.kind = 1 then fdLength f.data.length
  else f.kind == 2 && decide (1 ≤ f.data.length) && decide (f.data.length ≤ 2048) && decide (f.id % 2 ^ 30 < 2 ^ 11)

/-- The format is enabled on the channel (R324). -/
def formatOn (record : Bytes) (kind : Nat) : Bool :=
  kind == 0 || (kind == 1 && canFd record) || (kind == 2 && canXl record)

/-- Message RAM blocks of a frame (R331). -/
def CanFrame.blocks (f : CanFrame) : Nat := 1 + (f.data.length + 15) / 16

/-- The arbitration key of R335. -/
def CanFrame.key (f : CanFrame) : Nat :=
  let id := f.id % 2 ^ 29
  let rtr := b2n f.remote
  if f.ide then (((id / 2 ^ 18) * 2 + 1) * 2 + 1) * 2 ^ 19 + (id % 2 ^ 18) * 2 + rtr
  else ((id % 2 ^ 11) * 2 + rtr) * 2 * 2 ^ 19

/-- The frame before another on the wire and in the slots: key, then format, then order of loading (R335). -/
def CanTx.before (a b : CanTx) : Bool :=
  decide (a.frame.key < b.frame.key) || (a.frame.key == b.frame.key &&
    (decide (a.frame.kind < b.frame.kind) || (a.frame.kind == b.frame.kind && decide (a.loaded < b.loaded))))

/-! Host rings that wait for a frame's fate (R127). -/

/-- The fate of a descriptor of a CAN transmit ring, if it is still open. -/
def State.ringFate (s : State) (r : RingRef) (status : Nat) (stamp : Option Nat) : State :=
  s.modSlot r.slot (fun x => { x with rings := vmod x.rings r.ring (fun g => { g with
    frames := g.frames.map (fun f => if f.number = r.number ∧ f.status.isNone then
      { f with status := some (BitVec.ofNat 16 status), stamp := stamp } else f) }) })

/-- A frame of this descriptor is still queued somewhere. -/
def State.refAlive (s : State) (r : RingRef) : Bool :=
  s.can.toList.any (fun x => x.queues.toList.any (fun q => q.any (fun t => t.ring == some r))
    || x.slots.toList.any (fun t => match t with | some t => t.ring == some r | none => false))

/-- A frame of a descriptor with TS ended unsent: the last of its frames decides. DS_LIFETIME for a lifetime; the spec gives
no status for the other outcomes, so it is free (log 33). -/
def State.refFailed (s : State) (r : Option RingRef) (lifetime : Bool) : State :=
  match r with
  | none => s
  | some r =>
    if s.refAlive r then s
    else if lifetime then s.ringFate r 0x000B none
    else
      let v := s.freeBits 16
      v.2.ringFate r v.1.toNat none

/-- A frame ends without being sent (R339): LIFETIME, RETX_EXHAUSTED or ABORTED. -/
def State.canFail (s : State) (c : Nat) (k : CanCtr) (t : CanTx) : State :=
  (s.count (.can c k)).refFailed t.ring (k == .lifetimeAbort)

/-- The instant of a LAUNCH or DEADLINE is reached (R275, R334). -/
def reached (now t : Nat) : Bool := decide (signedOf 32 (toTwos 32 ((t : Int) - now)) ≤ 0)

/-- An optional instant has been reached. -/
def passed (now : Nat) (t : Option Nat) : Bool := match t with | some t => reached now t | none => false

/-! Slots and the feeder (R335 to R338). -/

/-- Slot `k` of a channel. -/
def CanChan.slot (x : CanChan) (k : Nat) : Option CanTx := vget x.slots k

/-- The occupied slots with their frames. -/
def CanChan.occupied (x : CanChan) : List (Nat × CanTx) :=
  (List.range 3).filterMap (fun k => (x.slot k).map (fun t => (k, t)))

/-- The best of the slots by an order. -/
def bestSlot (better : CanTx → CanTx → Bool) (l : List (Nat × CanTx)) : Option (Nat × CanTx) :=
  l.foldl (fun b e => match b with
    | none => some e
    | some x => if better e.2 x.2 then some e else some x) none

/-- The first of the slots at or after the pointer, in the cyclic order (R336). -/
def CanChan.fromPointer (x : CanChan) (l : List (Nat × CanTx)) : Option (Nat × CanTx) :=
  ([x.pointer, (x.pointer + 1) % 3, (x.pointer + 2) % 3].filterMap (fun k => l.find? (fun e => e.1 == k))).head?

/-- SLOT_ORDER is SLOT_NUMBER (R328). -/
def CanChan.byNumber (x : CanChan) : Bool := byteAt x.record 1 == 1

/-- The slot that the next arbitration offers (R336). -/
def CanChan.offered (x : CanChan) : Option (Nat × CanTx) :=
  if x.byNumber then x.fromPointer x.occupied else bestSlot CanTx.before x.occupied

/-- A frame put back at the head of its queue, its attempts as they are (R336). -/
def CanChan.putBack (x : CanChan) (t : CanTx) : CanChan :=
  { x with queues := vmod x.queues t.queue (fun q => t :: q) }

/-- Every slot emptied, its frame back at the head of its queue, later loads first so that their order stays (R327, R348). -/
def CanChan.emptySlots (x : CanChan) : CanChan :=
  let l := x.occupied.map (·.2)
  let first := l.foldl (fun (a : List CanTx) t => a.filter (fun u => decide (t.loaded < u.loaded)) ++ t ::
    a.filter (fun u => !decide (t.loaded < u.loaded))) []
  { first.foldl CanChan.putBack x with slots := Vector.replicate 3 none, sending := none }

/-- The candidate: the queue whose head may leave, the highest first (R337). -/
def CanChan.candidate (x : CanChan) (now : Nat) : Option (Nat × CanTx) :=
  ([7, 6, 5, 4, 3, 2, 1, 0].filterMap (fun q => match vget x.queues q with
    | t :: _ => if t.launch.isNone || passed now t.launch then some (q, t) else none
    | [] => none)).head?

/-- A frame leaves its queue and is loaded into a slot. -/
def CanChan.load (x : CanChan) (k q : Nat) (t : CanTx) : CanChan :=
  { x with
    queues := vmod x.queues q List.tail, slots := vset x.slots k (some { t with loaded := x.loads }), loads := x.loads + 1 }

/-- The slot that the candidate takes from another frame (R338): not the transmitting one. -/
def CanChan.victim (x : CanChan) (q : Nat) (t : CanTx) : Option (Nat × CanTx) :=
  let all := x.occupied
  let free := all.filter (fun e => x.sending != some e.1)
  if x.byNumber then
    (if all.all (fun e => decide (e.2.queue < q)) then x.fromPointer free else none)
  else if all.all (fun e => decide (t.frame.key < e.2.frame.key)) then bestSlot (fun a b => CanTx.before b a) free
  else none

/-- One exchange of the feeder (R337, R338): the lowest free slot takes the candidate, or a slot is preempted. -/
def State.feedCan (s : State) (c : Nat) : State :=
  let x := s.canCh c
  match x.candidate s.now with
  | none => s
  | some (q, t) =>
    match ((List.range 3).filter (fun k => (x.slot k).isNone)).head? with
    | some k => s.modCan c (fun x => x.load k q t)
    | none =>
      match x.victim q t with
      | none => s
      | some (k, v) => (s.modCan c (fun x => (x.load k q t).putBack v)).count (.can c .slotPreempt)

/-- The channel may start a frame of its own. -/
def State.mayOffer (s : State) (c : Nat) : Bool :=
  let x := s.canCh c
  x.state == .normal && s.vcc5 && s.canSegUp c && x.sending.isNone && !x.receiving && x.wanted.isEmpty

/-- An arbitration starts with the offered slot (R336). -/
def State.arbitrate (s : State) (c : Nat) : State :=
  if s.mayOffer c then s.modCan c (fun x => { x with sending := x.offered.map (·.1) }) else s

/-! States (R326, R327). -/

/-- The channel is in another state, with its event; leaving NORMAL empties the slots, OFF clears the counters. -/
def State.canTo (s : State) (c : Nat) (st : CanState) (cause : Nat) : State :=
  let was := (s.canCh c).state
  if was = st then s
  else
    let s := s.modCan c (fun x =>
      let x := if was = .normal then x.emptySlots else x
      let x : CanChan := { x with state := st, receiving := false }
      if st = .off then { x with tec := 0, rec_ := 0 } else x)
    s.canEvent c cause

/-- The domains and the memory test let a channel leave OFF (R457, R458, R460). -/
def State.canReady (s : State) : Bool :=
  s.memTest.result != 2 && s.pws.domains.getLsbD 11 && s.pws.domains.getLsbD 12

/-- No frame of the channel is in progress. -/
def CanChan.still (x : CanChan) : Bool := x.sending.isNone && !x.receiving

/-- A commanded change may apply now (R327). -/
def State.canMayChange (s : State) (c code : Nat) : Bool :=
  (s.canCh c).still && (code == 0 || (s.canCh c).state != .off || s.canReady)

/-- The present state admits a change to a MODE code (R326, R349): from BUS_OFF and RECOVERING only OFF. -/
def CanChan.admits (x : CanChan) (code : Nat) : Bool := code == 0 || !(x.state == .busOff || x.state == .recovering)

/-- The waiting changes of state apply in order, and their commands are answered (R326, R327); one that the state no longer admits
returns ST_WRONG_STATE. -/
def State.applyWaiting (s : State) (c : Nat) : Nat → State
  | 0 => s
  | k + 1 =>
    match (s.canCh c).wanted with
    | [] => s
    | w :: ws =>
      let next := s.modCan c (fun x => { x with wanted := ws })
      if !(s.canCh c).admits w.code then
        (next.answerStarted w.slot w.tag 0x0A03 (stWrongState 0x0A01 c (s.canCh c).state.code)).applyWaiting c k
      else if s.canMayChange c w.code then
        let s := next.canTo c (canMode w.code) 0
        (if w.code = 6 then s else s.answerStarted w.slot w.tag 0x0A03 (stOk (w8 w.code))).applyWaiting c k
      else s

/-- Every change of state that waits (R327). -/
def State.applyWanted (s : State) (c : Nat) : State := s.applyWaiting c (s.canCh c).wanted.length

/-! Outcomes of attempts (R339). -/

/-- The bytes of a frame as the model records it: CAN_ID, AF, DATA_LEN, FORMAT, SDT, VCID and data. -/
def CanFrame.record (f : CanFrame) : Bytes :=
  w32 f.id ++ w32 f.af ++ w16 f.data.length ++ w8 f.format ++ w8 f.sdt ++ w8 f.vcid ++ f.data

/-- A frame as the channel sends it: an FD frame's ESI is the channel's own (R346). -/
def CanChan.wire (x : CanChan) (f : CanFrame) : CanFrame :=
  if f.kind = 1 then { f with format := setBit f.format 3 x.passive } else { f with format := setBit f.format 3 false }

/-- A slot freed; the pointer moves on where its frame has ended (R336). -/
def CanChan.freeSlot (x : CanChan) (k : Nat) (ended : Bool) : CanChan :=
  { x with slots := vset x.slots k none, sending := none, pointer := if ended then (k + 1) % 3 else x.pointer }

/-- An attempt succeeded (R339): SENT. The transmit error counter falls by 1 (PRESUMED of ISO 11898-1, log 32). -/
def State.canSent (s : State) (c k : Nat) (t : CanTx) (stamp : Nat) : State :=
  let was := (s.canCh c).passive
  let s := (s.stir.emit (.canTx c ((s.canCh c).wire t.frame).record)).count (.can c .txFrames)
  let s := s.modCan c (fun x => { x.freeSlot k true with tec := x.tec - 1, receiving := false })
  let s := match t.ring with
    | some r => s.ringFate r 0 (some stamp)
    | none => s
  if was && !(s.canCh c).passive then s.canEvent c 1 else s

/-- An attempt ended in an error (R339, R353). -/
def State.canErred (s : State) (c k : Nat) (t : CanTx) : State :=
  let t : CanTx := { t with failed := t.failed + 1 }
  let spent := t.mode == 1 || (t.mode == 2 && decide (t.max < t.failed))
  let fail (kind : CanCtr) : State := (s.modCan c (fun x => x.freeSlot k true)).canFail c kind t
  if t.expired ∨ passed s.now t.deadline then fail .lifetimeAbort
  else if spent then fail .retxExhausted
  else if t.flushed then fail .flushAbort
  else (s.modCan c (fun x => { x with slots := vset x.slots k (some t), sending := none })).count (.can c .retx)

/-- An attempt lost arbitration (R336, R339). -/
def State.canLost (s : State) (c k : Nat) (t : CanTx) : State :=
  let s := (s.count (.can c .arbLost)).modCan c (fun x => { x with sending := none, receiving := true })
  if t.expired ∨ passed s.now t.deadline then (s.modCan c (fun x => x.freeSlot k true)).canFail c .lifetimeAbort t
  else if t.flushed then (s.modCan c (fun x => x.freeSlot k true)).canFail c .flushAbort t
  else s

/-- The attempt that ends: the transmitting slot, or the one that would have been offered. -/
def State.attempt (s : State) (c : Nat) : Option (Nat × CanTx) :=
  let x := s.canCh c
  match x.sending with
  | some k => (x.slot k).map (fun t => (k, t))
  | none => if s.mayOffer c then x.offered else none

/-- CAN_ATTEMPT_END (R339): outcome 0 success, 1 lost arbitration, 2 error. -/
def State.attemptEnd (s : State) (c outcome stamp : Nat) : State :=
  if (s.canCh c).state = .normal ∧ s.vcc5 then
    match s.attempt c with
    | none => s
    | some (k, t) =>
      if outcome = 0 then s.canSent c k t stamp else if outcome = 1 then s.canLost c k t else s.canErred c k t
  else s

/-- CAN_LIFETIME_EXPIRY (R339): queued frames and frames in slots that are not transmitting end LIFETIME. -/
def State.canExpire (s : State) (c : Nat) : State :=
  let x := s.canCh c
  let late (t : CanTx) : Bool := passed s.now t.deadline
  let dead := x.queues.toList.flatMap (fun q => q.filter late)
    ++ (x.occupied.filter (fun e => x.sending != some e.1 && late e.2)).map (·.2)
  let s := s.modCan c (fun x => { x with
    queues := x.queues.map (fun q => q.filter (fun t => !late t))
    slots := vtab 3 (fun k => match x.slot k with
      | none => none
      | some t => if !late t then some t else if x.sending = some k then some { t with expired := true } else none) })
  forAll dead (fun t s => s.canFail c .lifetimeAbort t) s

/-- Queued frames of a queue mask end ABORTED, and those in slots; a transmitting one finishes its attempt (R353). -/
def State.canFlush (s : State) (c mask : Nat) : Nat × State :=
  let x := s.canCh c
  let hit (t : CanTx) : Bool := bitOf mask t.queue
  let dead := x.queues.toList.flatMap (fun q => q.filter hit)
    ++ (x.occupied.filter (fun e => x.sending != some e.1 && hit e.2)).map (·.2)
  let s := s.modCan c (fun x => { x with
    queues := x.queues.map (fun q => q.filter (fun t => !hit t))
    slots := vtab 3 (fun k => match x.slot k with
      | none => none
      | some t => if !hit t then some t else if x.sending = some k then some { t with flushed := true } else none) })
  (dead.length, forAll dead (fun t s => s.canFail c .flushAbort t) s)

/-! Enqueueing (R331 to R333). -/

/-- Blocks of the channel's transmit frames (R331); those in slots are of its queues too (DEDUCED, log 34). -/
def CanChan.txBlocks (x : CanChan) : Nat :=
  ((x.queues.toList.flatMap (fun q => q) ++ x.occupied.map (·.2)).map (fun t => t.frame.blocks)).foldl (· + ·) 0

/-- The format and length suit the channel (R333). -/
def CanChan.takes (x : CanChan) (f : CanFrame) : Bool := formatOn x.record f.kind && f.lengthOk

/-- Frames may be enqueued (R333). -/
def CanChan.open_ (x : CanChan) : Bool := x.state != .off && x.state != .detecting

/-- A frame enqueued (R332, R333): none where TX_BLOCKS would be exceeded, which TX_QUEUE_FULL counts. -/
def State.enqueueCan (s : State) (c : Nat) (t : CanTx) : Bool × State :=
  let x := s.canCh c
  if le x.record 2 2 < x.txBlocks + t.frame.blocks then (false, s.count (.can c .txQueueFull))
  else
    let r := vget x.retx t.queue
    let t : CanTx := { t with mode := r.1, max := r.2 }
    (true, s.modCan c (fun x => { x with queues := vmod x.queues t.queue (fun q => q ++ [t]) }))

/-! Reception (R342 to R346). -/

/-- An acceptance filter matches a frame (R342): a remote frame has the remote bit of FORMATS (DEDUCED, log 35). -/
def filterMatches (r : Bytes) (f : CanFrame) : Bool :=
  let bit := if f.remote then 3 else f.kind
  let m := le r 4 4 % 2 ^ 30
  byteAt r 9 != 0 && bitOf (byteAt r 8) bit && (f.id % 2 ^ 30) &&& m == (le r 0 4 % 2 ^ 30) &&& m

/-- The action of the lowest-indexed enabled filter that matches: 1 FIFO 0, 2 FIFO 1, 3 REJECT; FIFO 0 without one. -/
def CanChan.accept (x : CanChan) (f : CanFrame) : Nat :=
  match x.filters.toList.find? (fun r => filterMatches r f) with
  | some r => byteAt r 9
  | none => 1

/-- Blocks that a received frame takes from XL_RX_BLOCKS (R345). -/
def CanFrame.rxBlocks (f : CanFrame) : Nat := if 64 < f.data.length then f.blocks else 0

/-- Blocks of XL receive data in use (R345). -/
def CanChan.rxBlocks (x : CanChan) : Nat :=
  (x.fifos.toList.flatMap (fun q => (q.entries ++ q.shadow.toList).map (fun e => e.frame.rxBlocks))).foldl (· + ·) 0

/-- The lowest handle that no entry has. -/
def Fifo.freeHandle (q : Fifo) (depth : Nat) : Nat :=
  ((List.range depth).find? (fun h => !q.entries.any (fun e => e.handle == h))).getD 0

/-- An arriving frame in a FIFO of `depth` entries (R343, R344), and whether a shadowed frame was lost. -/
def Fifo.arrive (q : Fifo) (depth : Nat) (e : RxEntry) : Fifo × Bool :=
  if q.entries.length < depth then
    ({ q with entries := q.entries ++ [{ e with handle := q.freeHandle depth }] }, false)
  else ({ q with shadow := some e }, q.shadow.isSome)

/-- Entries released (R343, R344): the shadow frame moves in as the newest entry. -/
def Fifo.release (q : Fifo) (depth : Nat) (handles : List Nat) : Fifo :=
  let q : Fifo := { q with entries := q.entries.filter (fun e => !handles.contains e.handle) }
  match q.shadow with
  | none => q
  | some e =>
    if q.entries.length < depth then
      { q with entries := q.entries ++ [{ e with handle := q.freeHandle depth }], shadow := none }
    else q

/-- One more overrun; the number that an event reports if a second has passed since the last one (R344). -/
def Fifo.overrun (q : Fifo) (tick : Nat) : Fifo × Option Nat :=
  let n := q.overruns + 1
  let due := match q.eventAt with
    | none => true
    | some t => decide (t + 800000000 ≤ tick)
  if due then ({ q with overruns := 0, eventAt := some tick }, some n) else ({ q with overruns := n }, none)

/-- A frame that becomes valid is stored in a FIFO of the channel (R344, R345). -/
def State.canStore (s : State) (c f : Nat) (frame : CanFrame) (sof : Nat) : State :=
  let x := s.canCh c
  if le x.record 4 2 < x.rxBlocks + frame.rxBlocks ∧ frame.rxBlocks ≠ 0 then s.count (.can c .xlPoolDrop)
  else
    let e : RxEntry := { handle := 0, stamp := sof, frame := frame, seq := x.nextSeq, owned := false }
    let r := (vget x.fifos f).arrive 64 e
    let s := (s.modCan c (fun x => { x with fifos := vset x.fifos f r.1, nextSeq := x.nextSeq + 1 })).count (.can c .rxFrames)
    if r.2 then
      let s := s.count (.can c .overrun)
      let o := r.1.overrun s.tick
      let s := s.modCan c (fun x => { x with fifos := vset x.fifos f o.1 })
      match o.2 with
      | none => s
      | some n => s.event (s.ownerOf 2 c) 0x0A02 (w8 c ++ w8 f ++ [0, 0] ++ w32 n)
    else s

/-- A channel receives in this state (R326). -/
def CanState.receives : CanState → Bool
  | .normal => true | .listenOnly => true | .restricted => true | .detecting => true
  | .off => false | .busOff => false | .recovering => false

/-- The channel hears its bus (R330, R472). -/
def State.canHears (s : State) (c : Nat) : Bool := (s.canCh c).state.receives && s.vcc5 && s.canSegUp c

/-- The receive error counter after a frame received (PRESUMED of ISO 11898-1, log 32): one less, or from above 127 some value
between 119 and 127. -/
def State.recDown (s : State) (c : Nat) : State :=
  let x := s.canCh c
  if x.state ≠ .normal then s
  else if 127 < x.rec_ then
    let v := s.freeNat
    let s := v.2.modCan c (fun x => { x with rec_ := 119 + v.1 % 9 })
    if (s.canCh c).passive then s else s.canEvent c 1
  else s.modCan c (fun x => { x with rec_ := x.rec_ - 1 })

/-- A rate detection ends (R351): with a winner its triplet is written into NOMINAL; the channel returns to OFF. -/
def State.detectEnd (s : State) (c : Nat) (winner : Option Nat) : State :=
  match (s.canCh c).detect with
  | none => s
  | some d =>
    let s := s.modCan c (fun x => { x with
      detect := none
      record := match winner with
        | some k => splice x.record 8 (d.candidates.getD k [])
        | none => x.record })
    let s := s.canTo c .off 0
    let s := s.event (s.ownerOf 2 c) 0x0A03 (w8 c ++ w8 (winner.getD 0xFF))
    s.finishJob d.slot d.tag 0x0A0C 0 []

/-- CAN_FRAME_VALID (R342 to R346, R351). -/
def State.canValid (s : State) (c : Nat) (f : CanFrame) (sof : Nat) : State :=
  let x := s.canCh c
  if s.canHears c && x.takes f && x.sending.isNone then
    let s := s.stir.modCan c (fun x => { x with receiving := false })
    let s := s.recDown c
    let a := x.accept f
    let s := if a = 3 then s.count (.can c .rxFiltered) else s.canStore c (a - 1) f sof
    match x.detect with
    | some d => s.detectEnd c (some d.current)
    | none => s
  else s

/-! Errors (R347 to R350). -/

/-- The counter of an error code (R347, R355). -/
def errorCtr (code : Nat) : CanCtr :=
  if code = 1 then .errStuff else if code = 2 then .errForm else if code = 3 then .errAck
  else if code = 6 then .errCrc else .errBit

/-- Bus-off (R339, R348): the attempt on the bus has failed, the frames of the slots return, and with BUSOFF_FLUSH every queued frame
ends ABORTED. -/
def State.busOff (s : State) (c : Nat) : State :=
  let x := s.canCh c
  let s := match x.sending with
    | none => s
    | some k => match x.slot k with
      | none => s
      | some t => s.canErred c k t
  let s := (s.count (.can c .busOffs)).canTo c .busOff 1
  if bitOf (byteAt (s.canCh c).record 7) 0 then (s.canFlush c 0xFF).2 else s

/-- The error counters after an error (PRESUMED of ISO 11898-1, log 32): a transmitter adds 8, but not for an acknowledge
error while passive; a receiver adds 1, and 8 more where its error flag was the first. -/
def CanChan.erred (x : CanChan) (code : Nat) (transmitter primary : Bool) : CanChan :=
  if transmitter then (if code = 3 ∧ x.passive then x else { x with tec := x.tec + 8 })
  else { x with rec_ := min 255 (x.rec_ + 1 + 8 * b2n primary) }

/-- CAN_BUS_ERROR (R347, R350): counted by kind, and in NORMAL by the error counters. -/
def State.canError (s : State) (c code : Nat) (primary : Bool) : State :=
  let s := (s.count (.can c (errorCtr code))).modCan c (fun x => { x with lastErr := code })
  let x := s.canCh c
  if x.state ≠ .normal then s.modCan c (fun x => { x with receiving := false })
  else
    let was := x.passive
    let s := s.modCan c (fun x => { x.erred code x.sending.isSome primary with receiving := false })
    if 255 < (s.canCh c).tec then s.busOff c
    else if !was && (s.canCh c).passive then (s.count (.can c .errorPassive)).canEvent c 1
    else s

/-- CAN_RECOVER or a Drover's recovery (R349). -/
def State.canRecover (s : State) (c cause : Nat) : State := s.canTo c .recovering cause

/-- The recovery sequence ends (R349). -/
def State.canRecovered (s : State) (c : Nat) : State :=
  ((s.count (.can c .recoveries)).modCan c (fun x => { x with tec := 0, rec_ := 0 })).canTo c .normal 2

/-- VCC5 leaves or returns to its limits (R330): an attempt on the line ends without success, and its frame stays. -/
def State.vcc5To (s : State) (good : Bool) : State :=
  if s.vcc5 = good then s
  else
    let s := s.railBit 6 good
    forAll (List.range 16) (fun c s =>
      if (s.canCh c).state = .off then s
      else
        let s := if good then s else
          match s.canCh c |>.sending with
          | none => s
          | some k =>
            let t := (s.canCh c).slot k
            let s := s.modCan c (fun x => { x with sending := none })
            match t with
            | some t =>
              if t.expired then (s.modCan c (fun x => x.freeSlot k true)).canFail c .lifetimeAbort t
              else if t.flushed then (s.modCan c (fun x => x.freeSlot k true)).canFail c .flushAbort t
              else s
            | none => s
        let s := if good then s else (s.modCan c (fun x => { x with receiving := false })).count (.can c .vcc5Holds)
        s.canEvent c 3) s

end Sys2Proof.Machine
end

