-- ==== Sys2Proof/Machine/CanCmds.lean ====
section
/-! DEFINITION. The CAN commands and the events of CAN channels (chapter 14 of the spec). -/

namespace Sys2Proof.Machine

/-- ST_WRONG_STATE for a CAN channel (object type 0x0A01). -/
def canWrong (s : State) (c : Nat) : Answer := stWrongState 0x0A01 c (s.canCh c).state.code

/-- The channel field and its owner. -/
def ownsCan (s : State) (n : Nat) (p : Bytes) : Option Answer :=
  firstFail [inRange (byteAt p 0) 16 0, mustOwn s n 2 (byteAt p 0)]

/-- The channel field, for a read (R56). -/
def readsCan (s : State) (n : Nat) (p : Bytes) : Option Answer :=
  firstFail [inRange (byteAt p 0) 16 0, mayRead s n 2 (byteAt p 0)]

/-- CAN_GET_CAPS (R353, R538). -/
def cmdCanGetCaps : Cmd :=
  { op := 0x0A00, lengthOk := lenIs 0, check := fun _ _ _ => none
    run := fun s _ _ _ => (s, .done (stOk ([16, 8, 3, 64, 16, 16384, 3, 1, 8, 10].flatMap w32))) }

/-- A timing triplet at an offset of the payload (R328): limits of TSEG2, least and most TSEG1, and most TDC. -/
def tripletRanges (p : Bytes) (o seg2 min1 seg1 tdc : Nat) : Option Answer :=
  firstFail [between (byteAt p o) 1 32 o, between (byteAt p (o + 1)) 1 seg2 (o + 1),
    between (le p (o + 2) 2) min1 seg1 (o + 2), between (byteAt p (o + 4)) 1 (byteAt p (o + 1)) (o + 4),
    between (byteAt p (o + 5)) 0 tdc (o + 5)]

/-- A nominal triplet within R324: 1 Mbit/s at most. -/
def nominalOk (p : Bytes) (o : Nat) : Option Answer :=
  firstFail [tripletRanges p o 128 2 256 0, need (decide (1000000 ≤ bitTime (slice p o 8))) (stBadParam o)]

/-- A data triplet at a fastest bit time in ps, not slower than the nominal one, with TDC above 1 Mbit/s (R328). -/
def dataOk (p : Bytes) (o nominal fastest : Nat) : Option Answer :=
  let t := bitTime (slice p o 8)
  firstFail [tripletRanges p o 32 1 64 255, need (decide (fastest ≤ t)) (stBadParam o),
    need (decide (t ≤ bitTime (slice p nominal 8))) (stBadParam o),
    need (!(decide (t < 1000000) && byteAt p (o + 5) < 128)) (stBadParam (o + 5))]

/-- The ranges of a CAN record at offset `o` of the payload (R328). -/
def canRecordOk (p : Bytes) (o : Nat) : Option Answer :=
  let f := byteAt p o
  firstFail [between f 0 31 o, need (!(bitOf f 3 && bitOf f 4)) (stBadParam o),
    need (!(bitOf f 1 && !bitOf f 0)) (stBadParam o),
    need (!(bitOf f 1 && !bitOf f 3 && decide (bitTime (slice p (o + 24) 8) < 200000))) (stBadParam o),
    between (byteAt p (o + 1)) 0 1 (o + 1), between (le p (o + 2) 2) 0 16384 (o + 2),
    between (le p (o + 4) 2) 0 16384 (o + 4), between (byteAt p (o + 6)) 0 3 (o + 6),
    between (byteAt p (o + 7)) 0 1 (o + 7), nominalOk p (o + 8), dataOk p (o + 16) (o + 8) 125000,
    dataOk p (o + 24) (o + 8) 100000]

/-- Message RAM blocks that the other channels have (R328). -/
def State.canBlocksBut (s : State) (c : Nat) : Nat :=
  ((List.range 16).map (fun k => if k = c then 0 else le (s.canCh k).record 2 2 + le (s.canCh k).record 4 2)).foldl
    (· + ·) 0

/-- CAN_SET_CONFIG (R328, R388). -/
def cmdCanSetConfig : Cmd :=
  { op := 0x0A01, lengthOk := lenIs 36
    check := fun s n p =>
      let c := byteAt p 0
      firstFail [ownsCan s n p, need ((s.canCh c).state == .off) (canWrong s c), canRecordOk p 4,
        budgetsFit s c (fun q => canBudget (slice p 4 32) (vget (s.canCh c).retx q)),
        need (decide (s.canBlocksBut c + le p 6 2 + le p 8 2 ≤ 16384)) stNoResource]
    run := fun s _ _ p =>
      let t (o : Nat) : Bytes := slice p o 6 ++ zeros 2
      (s.modCan (byteAt p 0) (fun x => { x with record := slice p 4 8 ++ t 12 ++ t 20 ++ t 28 }), .done (stOk [])) }

/-- CAN_GET_CONFIG (R353). -/
def cmdCanGetConfig : Cmd :=
  { op := 0x0A02, lengthOk := lenIs 4, check := readsCan
    run := fun s _ _ p => (s, .done (stOk (s.canCh (byteAt p 0)).record)) }

/-- CAN_SET_MODE is admitted in the present state (R326). -/
def canModeOk (s : State) (c mode : Nat) : Option Answer :=
  let st := (s.canCh c).state
  need (!(st == .detecting || (s.canCh c).detect.isSome || ((st == .busOff || st == .recovering) && mode != 0))) (canWrong s c)

/-- Whether a frame of another node is in progress on a channel that hears its bus shows in no row: it is free (R327, log 76). -/
def State.canListen (s : State) (c : Nat) : State :=
  if (s.canCh c).still && s.canHears c then
    let b := s.freeBits 1
    b.2.modCan c (fun x => { x with receiving := b.1 == 1 })
  else s

/-- CAN_SET_MODE (R326, R327): in order after the changes that still wait. -/
def cmdCanSetMode : Cmd :=
  { op := 0x0A03, lengthOk := lenIs 4
    check := fun s n p => firstFail [ownsCan s n p, canModeOk s (byteAt p 0) (byteAt p 1), between (byteAt p 1) 0 3 1]
    run := fun s n tag p =>
      let c := byteAt p 0
      let m := byteAt p 1
      let s := s.canListen c
      if s.canMayChange c m && (s.canCh c).wanted.isEmpty then (s.canTo c (canMode m) 0, .done (stOk (w8 m)))
      else (s.modCan c (fun x => { x with wanted := x.wanted ++ [{ code := m, slot := n, tag := tag }] }), .later) }

/-- CAN_GET_STATUS (R353). -/
def cmdCanGetStatus : Cmd :=
  { op := 0x0A04, lengthOk := lenIs 4, check := readsCan
    run := fun s _ _ p =>
      let x := s.canCh (byteAt p 0)
      (s, .done (stOk (w8 x.state.code ++ w8 x.errorState ++ w8 x.lastErr ++ w8 x.occupied.length ++ w16 x.tec
        ++ w16 x.rec_ ++ x.queues.toList.flatMap (fun q => w16 q.length)
        ++ x.fifos.toList.flatMap (fun f => w8 (64 - f.entries.length))
        ++ x.fifos.toList.flatMap (fun f => w8 (b2n f.shadow.isSome)) ++ w16 (le x.record 4 2 - x.rxBlocks)))) }

/-- CAN_SET_QUEUE (R332, R388): the record applies to frames enqueued after it. -/
def cmdCanSetQueue : Cmd :=
  { op := 0x0A05, lengthOk := lenIs 4
    check := fun s n p =>
      let x := s.canCh (byteAt p 0)
      firstFail [ownsCan s n p, between (byteAt p 1) 0 7 1, between (byteAt p 2) 0 2 2, between (byteAt p 3) 1 255 3,
        budgetsFit s (byteAt p 0)
          (fun q => canBudget x.record (if q = byteAt p 1 then (byteAt p 2, byteAt p 3) else vget x.retx q))]
    run := fun s _ _ p =>
      (s.modCan (byteAt p 0) (fun x => { x with retx := vset x.retx (byteAt p 1) (byteAt p 2, byteAt p 3) }),
        .done (stOk [])) }

/-- CAN_SET_FILTER (R342). -/
def cmdCanSetFilter : Cmd :=
  { op := 0x0A06, lengthOk := lenIs 16
    check := fun s n p => firstFail [ownsCan s n p, between (byteAt p 1) 0 15 1,
      need (decide (le p 4 4 < 2 ^ 30)) (stBadParam 4), need (decide (le p 8 4 < 2 ^ 30)) (stBadParam 8),
      between (byteAt p 12) 0 15 12, between (byteAt p 13) 0 3 13]
    run := fun s _ _ p =>
      (s.modCan (byteAt p 0) (fun x => { x with filters := vset x.filters (byteAt p 1) (slice p 4 10 ++ zeros 2) }),
        .done (stOk [])) }

/-- The frame of a CAN_TRANSMIT payload (R353). -/
def canTxFrame (p : Bytes) : CanFrame :=
  { id := le p 4 4, format := byteAt p 14, af := le p 8 4, sdt := byteAt p 15, vcid := byteAt p 16, data := p.drop 28 }

/-- CAN_ID in range: bit 31 is 0, and a standard identifier has 11 bits (R127). -/
def canIdOk (id : Nat) : Bool := decide (id < 2 ^ 31) && (bitOf id 29 || decide (id % 2 ^ 29 < 2 ^ 11))

/-- The parameters of a frame at offset `o` of its CAN_ID: identifier, AF, data length, format (R127, R333). -/
def canTxRanges (s : State) (p : Bytes) : Option Answer :=
  let f := canTxFrame p
  firstFail [between (byteAt p 1) 0 7 1, between (le p 2 2) 0 3 2,
    need (canIdOk f.id && !(f.kind == 2 && f.ide)) (stBadParam 4), need (f.kind == 2 || f.af == 0) (stBadParam 8),
    need (f.kind == 3 || f.lengthOk) (stBadParam 12),
    need (decide (f.format < 32) && formatOn (s.canCh (byteAt p 0)).record f.kind) (stBadParam 14)]

/-- CAN_TRANSMIT (R333, R334, R473). -/
def cmdCanTransmit : Cmd :=
  { op := 0x0A07, lengthOk := fun p => decide (28 ≤ p.length) && p.length == 28 + le p 12 2
    check := fun s n p =>
      let c := byteAt p 0
      firstFail [ownsCan s n p, need (s.canCh c).open_ (canWrong s c),
        need (s.canSegUp c) (stWrongState 0x1002 c 2), canTxRanges s p]
    run := fun s _ _ p =>
      let r := s.enqueueCan (byteAt p 0)
        { frame := canTxFrame p, queue := byteAt p 1, launch := if bitOf (byteAt p 2) 0 then some (le p 20 4) else none
          deadline := if bitOf (byteAt p 2) 1 then some (le p 24 4) else none
          mode := 0, max := 0, failed := 0, expired := false, flushed := false, ring := none, nm := false, loaded := 0 }
      (r.2, .done (if r.1 then stOk [] else stNoResource)) }

/-- Data padded to 4 bytes. -/
def pad4 (b : Bytes) : Bytes := b ++ zeros ((4 - b.length % 4) % 4)

/-- An entry as CAN_RX_READ returns it (R353). -/
def RxEntry.bytes (e : RxEntry) : Bytes :=
  w8 e.handle ++ zeros 3 ++ w64 e.stamp ++ w32 e.frame.id ++ w32 e.frame.af ++ w16 e.frame.data.length
    ++ w8 e.frame.format ++ w8 e.frame.sdt ++ w8 e.frame.vcid ++ zeros 3 ++ pad4 e.frame.data

/-- The payload a response may carry to this slot (R64, R82). -/
def SlotRec.room (x : SlotRec) : Nat := if x.isEth then 1452 else 8176

/-- The first entries that are not owned and whose records fit (R353). -/
def claimable (show_ : RxEntry → Bytes) : Nat → Nat → List RxEntry → List RxEntry
  | 0, _, _ => []
  | _, _, [] => []
  | k + 1, room, e :: es =>
    if e.owned then claimable show_ (k + 1) room es
    else if (show_ e).length ≤ room then e :: claimable show_ k (room - (show_ e).length) es
    else []

/-- Entries claimed by the owner slot (R343). -/
def Fifo.claim (q : Fifo) (l : List RxEntry) : Fifo :=
  { q with entries := q.entries.map (fun e => if l.any (fun x => x.handle == e.handle) then { e with owned := true } else e) }

/-- FIFO `f` of a channel is read by commands (R328). -/
def CanChan.hostFifo (x : CanChan) (f : Nat) : Bool := bitOf (byteAt x.record 6) f

/-- The FIFO of a CAN receive command: range, owner, consumer. -/
def canFifoOk (s : State) (n : Nat) (p : Bytes) : Option Answer :=
  let c := byteAt p 0
  firstFail [inRange c 16 0, inRange (byteAt p 1) 2 1, mustOwn s n 2 c,
    need ((s.canCh c).hostFifo (byteAt p 1)) (stWrongState 0x0A02 (c * 2 + byteAt p 1) 0)]

/-- CAN_RX_READ (R343, R353). -/
def cmdCanRxRead : Cmd :=
  { op := 0x0A08, lengthOk := lenIs 4
    check := fun s n p => firstFail [canFifoOk s n p, between (byteAt p 2) 1 16 2]
    run := fun s n _ p =>
      let q := vget (s.canCh (byteAt p 0)).fifos (byteAt p 1)
      let l := claimable RxEntry.bytes (byteAt p 2) (s.slot n).room q.entries
      (s.modCan (byteAt p 0) (fun x => { x with fifos := vmod x.fifos (byteAt p 1) (fun q => q.claim l) }),
        .done (stOk (l.flatMap RxEntry.bytes))) }

/-- The handles that a release names. -/
def handlesOf (p : Bytes) : List Nat := (p.drop 4).map (·.toNat)

/-- A handle is an entry's index (R353): one that no entry has is out of range. -/
def handlesIn (p : Bytes) (depth : Nat) : Option Answer :=
  firstFail ((List.range (p.length - 4)).map (fun k => need (decide (byteAt p (4 + k) < depth)) (stBadParam (4 + k))))

/-- CAN_RX_RELEASE (R343, R344). -/
def cmdCanRxRelease : Cmd :=
  { op := 0x0A09, lengthOk := fun p => decide (4 ≤ p.length) && p.length == 4 + byteAt p 2
    check := fun s n p => firstFail [canFifoOk s n p, between (byteAt p 2) 1 64 2, handlesIn p 64]
    run := fun s _ _ p =>
      (s.modCan (byteAt p 0) (fun x => { x with
        fifos := vmod x.fifos (byteAt p 1) (fun q => q.release 64 (handlesOf p)) }), .done (stOk [])) }

/-- Every handle names an entry that its consumer owns. -/
def Fifo.ownsAll (q : Fifo) (handles : List Nat) : Bool :=
  handles.all (fun h => q.entries.any (fun e => e.handle == h && e.owned))

/-- CAN_RX_RELEASE of an entry that the caller does not own is undefined (R343), and the machine stops. -/
def execCanRxRelease (slot : Slot) (tag : Half) (payload : Bytes) (s : State) : Res :=
  if runsNow cmdCanRxRelease slot.val tag payload s
      && !(vget (s.canCh (byteAt payload 0)).fifos (byteAt payload 1)).ownsAll (handlesOf payload) then
    .fault .entryNotOwned
  else .next (penyen cmdCanRxRelease slot.val tag payload s)

/-- CAN_RECOVER (R349). -/
def cmdCanRecover : Cmd :=
  { op := 0x0A0A, lengthOk := lenIs 4
    check := fun s n p => firstFail [ownsCan s n p, need ((s.canCh (byteAt p 0)).state == .busOff) (canWrong s (byteAt p 0))]
    run := fun s _ _ p => (s.canRecover (byteAt p 0) 0, .done (stOk (w8 5))) }

/-- CAN_FLUSH_QUEUE (R339, R353). -/
def cmdCanFlushQueue : Cmd :=
  { op := 0x0A0B, lengthOk := lenIs 4, check := ownsCan
    run := fun s _ _ p =>
      let r := s.canFlush (byteAt p 0) (byteAt p 1)
      (r.2, .done (stOk (w16 r.1))) }

/-- The candidates of CAN_DETECT_RATE. -/
def detectTriplets (p : Bytes) : List Bytes := (List.range (byteAt p 1)).map (fun k => slice p (4 + 8 * k) 6 ++ zeros 2)

/-- CAN_DETECT_RATE (R351). -/
def cmdCanDetectRate : Cmd :=
  { op := 0x0A0C, lengthOk := fun p => decide (4 ≤ p.length) && p.length == 4 + 8 * byteAt p 1
    check := fun s n p =>
      let c := byteAt p 0
      firstFail [ownsCan s n p, need ((s.canCh c).state == .off && (s.canCh c).wanted.isEmpty) (canWrong s c),
        between (byteAt p 1) 1 8 1, between (le p 2 2) 10 5000 2,
        firstFail ((List.range (byteAt p 1)).map (fun k => nominalOk p (4 + 8 * k)))]
    run := fun s n tag p =>
      let c := byteAt p 0
      let d : Detect := { candidates := detectTriplets p, current := 0, slot := n, tag := tag }
      let s := s.modCan c (fun x => { x with detect := some d })
      if s.canReady then (s.canTo c .detecting 0, .accepted)
      else (s.modCan c (fun x => { x with wanted := [{ code := 6, slot := n, tag := tag }] }), .accepted) }

/-- The counters of R355 in table order. -/
def canCtrs : List CanCtr :=
  [.rxFrames, .rxFiltered, .overrun, .xlPoolDrop, .pexEvents, .txFrames, .txQueueFull, .slotPreempt, .arbLost, .retx,
   .retxExhausted, .lifetimeAbort, .flushAbort, .errStuff, .errForm, .errAck, .errBit, .errCrc, .errorPassive, .busOffs,
   .recoveries, .dominantTimeout, .busDominant, .vcc5Holds]

/-- CAN_GET_COUNTERS (R355). -/
def cmdCanGetCounters : Cmd :=
  { op := 0x0A0D, lengthOk := lenIs 4, check := readsCan
    run := fun s _ _ p => (s, .done (stOk (counterBytes s (canCtrs.map (Ctr.can (byteAt p 0)))))) }

/-- CAN_CLEAR_COUNTERS (R157, R355). -/
def cmdCanClearCounters : Cmd :=
  { op := 0x0A0E, lengthOk := lenIs 4, check := ownsCan
    run := fun s _ _ p =>
      (s.clearCtrs (fun k => match k with | .can c _ => c == byteAt p 0 | _ => false), .done (stOk [])) }

/-! Events of the bus. -/

/-- CAN_FRAME_VALID. -/
def execCanFrameValid (c : CanCh) (id format af sdt vcid : Nat) (data : Bytes) (sof : Nat) (s : State) : Res :=
  .next (s.canValid c.val { id := id, format := format, af := af, sdt := sdt, vcid := vcid, data := data } sof)

/-- CAN_PROTOCOL_EXCEPTION (R325): the frame's format, FD or XL, is not enabled. -/
def execCanProtocolException (c : CanCh) (xl : Bool) (s : State) : Res :=
  let x := s.canCh c.val
  .next (if s.canHears c.val && !(if xl then canXl x.record else canFd x.record) then
    (if bitOf (byteAt x.record 0) 2 then
      (s.count (.can c.val .pexEvents)).modCan c.val (fun x => { x with receiving := false })
    else s.canError c.val 2 false) else s)

/-- CAN_BUS_ERROR: kind 0 to 5 for the codes 1 to 6 of R347. -/
def execCanBusError (c : CanCh) (kind : Fin 6) (primary : Bool) (s : State) : Res :=
  .next (if s.canHears c.val then s.canError c.val (kind.val + 1) primary else s)

/-- CAN_ATTEMPT_END: outcome 0 success, 1 lost arbitration, 2 error; the SOF stamp of the frame. -/
def execCanAttemptEnd (c : CanCh) (outcome : Fin 3) (stamp : Nat) (s : State) : Res :=
  .next (s.attemptEnd c.val outcome.val stamp)

/-- CAN_SLOT_LOAD (R337, R338), with the start of an arbitration after it if `arb`. -/
def execCanSlotLoad (c : CanCh) (arb : Bool) (s : State) : Res :=
  .next (if (s.canCh c.val).state = .normal then doIf arb (fun s => s.arbitrate c.val) (s.feedCan c.val) else s)

/-- CAN_LAUNCH_REACHED (R334): a launch instant that is reached binds no longer. -/
def execCanLaunchReached (c : CanCh) (s : State) : Res :=
  .next (s.modCan c.val (fun x => { x with
    queues := x.queues.map (fun q => q.map (fun t => if passed s.now t.launch then { t with launch := none } else t)) }))

/-- CAN_LIFETIME_EXPIRY. -/
def execCanLifetimeExpiry (c : CanCh) (s : State) : Res := .next (s.canExpire c.val)

/-- CAN_MODE_APPLY (R327): the frame in progress has ended. -/
def execCanModeApply (c : CanCh) (s : State) : Res :=
  .next ((s.modCan c.val (fun x => { x with receiving := false })).applyWanted c.val)

/-- CAN_RECOVERY_DONE (R349). -/
def execCanRecoveryDone (c : CanCh) (s : State) : Res :=
  .next (if (s.canCh c.val).state = .recovering ∧ s.vcc5 ∧ s.canSegUp c.val then s.canRecovered c.val else s)

/-- CAN_DETECT_DWELL_END (R351). -/
def execCanDetectDwellEnd (c : CanCh) (s : State) : Res :=
  .next (match (s.canCh c.val).state, (s.canCh c.val).detect with
    | .detecting, some d =>
      if d.current + 1 < d.candidates.length then
        s.modCan c.val (fun x => { x with detect := some { d with current := d.current + 1 } })
      else s.detectEnd c.val none
    | _, _ => s)

/-- DOMINANT_TIMEOUT (R330): of the channel's own transmit output, or of the bus. -/
def execDominantTimeout (c : CanCh) (own : Bool) (s : State) : Res :=
  .next (if (s.canCh c.val).state = .off then s
    else if own then (s.count (.can c.val .dominantTimeout)).canEvent c.val 4 else s.count (.can c.val .busDominant))

/-- VCC5_CHANGE (R330). -/
def execVcc5Change (good : Bool) (s : State) : Res := .next (s.vcc5To good)

/-- CAN_GET_CAPS. -/
def execCanGetCaps (slot : Slot) (tag : Half) (payload : Bytes) (s : State) : Res :=
  .next (penyen cmdCanGetCaps slot.val tag payload s)

/-- CAN_SET_CONFIG. -/
def execCanSetConfig (slot : Slot) (tag : Half) (payload : Bytes) (s : State) : Res :=
  .next (penyen cmdCanSetConfig slot.val tag payload s)

/-- CAN_GET_CONFIG. -/
def execCanGetConfig (slot : Slot) (tag : Half) (payload : Bytes) (s : State) : Res :=
  .next (penyen cmdCanGetConfig slot.val tag payload s)

/-- CAN_SET_MODE. -/
def execCanSetMode (slot : Slot) (tag : Half) (payload : Bytes) (s : State) : Res :=
  .next (penyen cmdCanSetMode slot.val tag payload s)

/-- CAN_GET_STATUS. -/
def execCanGetStatus (slot : Slot) (tag : Half) (payload : Bytes) (s : State) : Res :=
  .next (penyen cmdCanGetStatus slot.val tag payload s)

/-- CAN_SET_QUEUE. -/
def execCanSetQueue (slot : Slot) (tag : Half) (payload : Bytes) (s : State) : Res :=
  .next (penyen cmdCanSetQueue slot.val tag payload s)

/-- CAN_SET_FILTER. -/
def execCanSetFilter (slot : Slot) (tag : Half) (payload : Bytes) (s : State) : Res :=
  .next (penyen cmdCanSetFilter slot.val tag payload s)

/-- CAN_TRANSMIT. -/
def execCanTransmit (slot : Slot) (tag : Half) (payload : Bytes) (s : State) : Res :=
  .next (penyen cmdCanTransmit slot.val tag payload s)

/-- CAN_RX_READ. -/
def execCanRxRead (slot : Slot) (tag : Half) (payload : Bytes) (s : State) : Res :=
  .next (penyen cmdCanRxRead slot.val tag payload s)

/-- CAN_RECOVER. -/
def execCanRecover (slot : Slot) (tag : Half) (payload : Bytes) (s : State) : Res :=
  .next (penyen cmdCanRecover slot.val tag payload s)

/-- CAN_FLUSH_QUEUE. -/
def execCanFlushQueue (slot : Slot) (tag : Half) (payload : Bytes) (s : State) : Res :=
  .next (penyen cmdCanFlushQueue slot.val tag payload s)

/-- CAN_DETECT_RATE. -/
def execCanDetectRate (slot : Slot) (tag : Half) (payload : Bytes) (s : State) : Res :=
  .next (penyen cmdCanDetectRate slot.val tag payload s)

/-- CAN_GET_COUNTERS. -/
def execCanGetCounters (slot : Slot) (tag : Half) (payload : Bytes) (s : State) : Res :=
  .next (penyen cmdCanGetCounters slot.val tag payload s)

/-- CAN_CLEAR_COUNTERS. -/
def execCanClearCounters (slot : Slot) (tag : Half) (payload : Bytes) (s : State) : Res :=
  .next (penyen cmdCanClearCounters slot.val tag payload s)

end Sys2Proof.Machine
end

