-- ==== Sys2Proof/Machine/Lin.lean ====
section
/-! DEFINITION. LIN channels and UARTs (chapter 15 of the spec). -/

namespace Sys2Proof.Machine

/-- LIN channel `c`. -/
def State.linCh (s : State) (c : Nat) : LinChan := vget s.lin c

/-- LIN channel `c` changed. -/
def State.modLin (s : State) (c : Nat) (f : LinChan → LinChan) : State := { s with lin := vmod s.lin c f }

/-- UART `c`. -/
def State.uartCh (s : State) (c : Nat) : UartChan := vget s.uart c

/-- UART `c` changed. -/
def State.modUart (s : State) (c : Nat) (f : UartChan → UartChan) : State := { s with uart := vmod s.uart c f }

/-- The domain and the memory test let a LIN channel or a UART leave OFF (R457, R460). -/
def State.edgeReady (s : State) : Bool := s.memTest.result != 2 && s.pws.domains.getLsbD 11

/-! LIN. -/

/-- ROLE is MASTER (R359). -/
def LinChan.master (x : LinChan) : Bool := byteAt x.record 0 == 0

/-- A LIN channel changes its state (R356, R370, R472): 0 OFF, 1 ACTIVE, 2 ASLEEP, which is its segment's state too. Causes of
LIN_STATE: 0 command, 1 go-to-sleep, 2 idle, 3 wake. -/
def State.linTo (s : State) (c st cause segCause : Nat) : State :=
  let was := (s.linCh c).state
  if was = st then s
  else
    let before := s.segState (16 + c)
    let s := s.modLin c (fun x => { x with state := st, awaiting := none, sleepDue := false })
    let s := s.event (s.ownerOf 3 c) 0x0B01 (w8 c ++ w8 st ++ w8 cause)
    let s := if was = 2 ∨ st = 2 then s.segMark (16 + c) .awake else s
    let now := s.segState (16 + c)
    let s := if now = before then s else s.segEvent (16 + c) now segCause
    if st = 2 then s.segSettle else s

/-- The commanded LIN states that wait apply in order, and their commands are answered (R356). -/
def State.applyLinWaiting (s : State) (c : Nat) : Nat → State
  | 0 => s
  | k + 1 =>
    match (s.linCh c).wanted with
    | [] => s
    | w :: ws =>
      if (s.linCh c).awaiting.isNone ∧ (w.code = 0 ∨ s.edgeReady) then
        let s := (s.modLin c (fun x => { x with wanted := ws })).linTo c w.code 0 0
        (s.answerStarted w.slot w.tag 0x0B02 (stOk (w8 w.code))).applyLinWaiting c k
      else s

/-- Every LIN state that waits (R356). -/
def State.applyLin (s : State) (c : Nat) : State := s.applyLinWaiting c (s.linCh c).wanted.length

/-- The LIN frame in progress has ended (R356). -/
def State.linFrameEnds (s : State) (c : Nat) : State := (s.modLin c (fun x => { x with awaiting := none })).applyLin c

/-- The protected identifier. PRESUMED of ISO 17987, log 36: the identifier with its two parity bits. -/
def linPid (id : Nat) : Nat :=
  let b (k : Nat) : Nat := b2n (bitOf id k)
  id % 64 + 64 * ((b 0 + b 1 + b 2 + b 4) % 2) + 128 * ((b 1 + b 3 + b 4 + b 5 + 1) % 2)

/-- The response of identifier `id` from its publish buffer (R360). -/
def State.linRespond (s : State) (c id len : Nat) : State :=
  let s := (s.stir.emit (.linTx c id ((vget (s.linCh c).publish id).data.take len))).count (.lin c .txFrames)
  s.modLin c (fun x => { x with publish := vmod x.publish id (fun p => { p with fresh := false }) })

/-- A master sends a header (R361); its response comes from its own buffer or is awaited. -/
def State.linHeader (s : State) (c id ty : Nat) : State :=
  let f := vget (s.linCh c).frames id
  if f.direction = 1 then s.linRespond c id f.length
  else
    let s := s.emit (.linTx c id [])
    if f.direction = 2 ∨ ty = 1 then s.modLin c (fun x => { x with awaiting := some (id, ty) }) else s

/-- A schedule entry runs (R361). -/
def State.linEntry (s : State) (c : Nat) (e : Bytes) : State :=
  let id := byteAt e 1 % 64
  match byteAt e 0 with
  | 0 => s.linHeader c id 0
  | 1 => s.linHeader c id 1
  | 2 => if (vget (s.linCh c).publish id).fresh then s.linHeader c id 2 else s
  | 3 => s.linRespond c 60 8
  | _ => (s.emit (.linTx c 61 [])).modLin c (fun x => { x with awaiting := some (61, 4) })

/-- The present table's next entry: at the end of a table that a collision selected, the previous table goes on (R361). -/
def LinChan.advance (x : LinChan) : LinChan × Bool :=
  match x.selected with
  | some t => ({ x with table := t, entry := 0, resume := none, selected := none }, false)
  | none =>
    if x.entry < (vget x.tables x.table).length then (x, false)
    else match x.resume with
      | some r => ({ x with table := r.1, entry := if r.2 < (vget x.tables r.1).length then r.2 else 0, resume := none }, true)
      | none => ({ x with entry := 0 }, false)

/-- The go-to-sleep command (R363). -/
def linSleepData : Bytes := 0 :: List.replicate 7 0xFF

/-- LIN_SCHEDULE_ENTRY (R356, R361, R363): the entry in progress has ended. -/
def State.linSchedule (s : State) (c : Nat) : State :=
  let s := s.linFrameEnds c
  let x := s.linCh c
  if x.state ≠ 1 ∨ !x.master then s
  else if x.sleepDue then
    ((s.emit (.linTx c 60 linSleepData)).count (.lin c .txFrames)).linTo c 2 1 3
  else if x.resuming then s
  else
    let a := x.advance
    let s := s.modLin c (fun _ => a.1)
    let s := if a.2 then s.count (.lin c .collisionsResolved) else s
    let x := s.linCh c
    match (vget x.tables x.table)[x.entry]? with
    | none => s
    | some e => (s.modLin c (fun x => { x with entry := x.entry + 1, running := x.entry })).linEntry c e

/-- LIN_HEADER_RECEIVED (R356, R360, R362): whatever was awaited has ended; a slave answers, or awaits what it subscribes to;
identifier 60 may be go-to-sleep. -/
def State.linHeaderIn (s : State) (c id : Nat) (syncOk : Bool) : State :=
  if (s.linCh c).master then s
  else
    let s := s.linFrameEnds c
    let x := s.linCh c
    if x.state ≠ 1 then s
    else if !syncOk then s.count (.lin c .syncErr)
    else
      let f := vget x.frames id
      if f.direction = 1 then s.linRespond c id f.length
      else s.modLin c (fun x => { x with awaiting := if f.direction = 2 ∨ id = 60 then some (id, 0) else none })

/-- A LIN frame or serial message stored in a FIFO of 32 (R344, R357), and the number of overruns that an event reports: `none` where
nothing was lost, `some none` where the last event is less than a second old. -/
def Fifo.store32 (q : Fifo) (e : RxEntry) (tick : Nat) : Fifo × Option (Option Nat) :=
  let r := q.arrive 32 e
  if r.2 then let o := r.1.overrun tick; (o.1, some o.2) else (r.1, none)

/-- An overrun counted, with CAN_RX_OVERRUN to the channel's owner at most once a second (R344, R357). The event carries the channel's
own number and FIFO 0 (DEDUCED, log 76). -/
def State.overran (s : State) (k : Ctr) (ty c : Nat) : Option (Option Nat) → State
  | none => s
  | some none => s.count k
  | some (some n) => (s.count k).event (s.ownerOf ty c) 0x0A02 (w8 c ++ [0, 0, 0] ++ w32 n)

/-- A LIN response stored (R360). -/
def State.linStore (s : State) (c id : Nat) (data : Bytes) (stamp : Nat) : State :=
  let x := s.linCh c
  let f : CanFrame := { (default : CanFrame) with id := linPid id, format := 8, data := data }
  let r := x.fifo.store32 { handle := 0, stamp := stamp, frame := f, seq := x.nextSeq, owned := false } s.tick
  let s := (s.modLin c (fun x => { x with fifo := r.1, nextSeq := x.nextSeq + 1 })).count (.lin c .rxFrames)
  s.overran (.lin c .overrun) 3 c r.2

/-- A collision of an event-triggered entry: table ALT runs once (R361). -/
def State.linCollision (s : State) (c : Nat) : State :=
  s.modLin c (fun x =>
    let alt := byteAt ((vget x.tables x.table).getD x.running []) 3 % 4
    { x with resume := some (x.table, x.entry), table := alt, entry := 0 })

/-- LIN_FRAME_RECEIVED (R360, R362, R363): error 0 none, 1 checksum, 2 framing, 3 bit. -/
def State.linFrame (s : State) (c id : Nat) (data : Bytes) (stamp error : Nat) : State :=
  match (s.linCh c).awaiting with
  | none => s
  | some (want, ty) =>
    if want ≠ id then s
    else
      let s := s.stir.modLin c (fun x => { x with awaiting := none })
      let s :=
        if error = 0 then
          if !(s.linCh c).master && id == 60 && data == linSleepData then s.linTo c 2 1 3
          else if (vget (s.linCh c).frames id).direction = 2 ∨ ty = 1 ∨ ty = 4 then s.linStore c id data stamp
          else s
        else
          let s := s.count (.lin c (if error = 1 then .checksumErr else if error = 2 then .frameErr else .bitErr))
          if ty = 1 ∧ error ≤ 2 then s.linCollision c else s
      s.applyLin c

/-- LIN_RESPONSE_TIMEOUT (R356, R362): the frame in progress has ended; a master counts it. -/
def State.linTimeout (s : State) (c : Nat) (partly : Bool) : State :=
  let x := s.linCh c
  if x.awaiting.isNone then s
  else (if x.master then s.count (.lin c (if partly then .partialFrames else .noResponse)) else s).linFrameEnds c

/-- A LIN channel comes back to ACTIVE (R364): a master resumes its schedule at entry 0 after 100 ms. -/
def State.linWake (s : State) (c segCause : Nat) : State :=
  (s.linTo c 1 3 segCause).modLin c (fun x => { x with resuming := x.master, entry := 0, resume := none })

/-- LIN_SEND_WAKE and the wakes of R389 and R487 drive the bus dominant for 1 ms (R364). -/
def State.linDriveWake (s : State) (c : Nat) : State := s.emit (.signal 2 c)

/-! Serial channels. -/

/-- MODE is J1708. -/
def UartChan.j1708 (x : UartChan) : Bool := byteAt x.record 0 == 1

/-- MAX_LEN in force (R365, R367). -/
def UartChan.maxLen (x : UartChan) : Nat := if x.j1708 then 21 else le x.record 8 2

/-- The longest message to send: J1708 appends a checksum (R367). DEDUCED, log 37, that MAX_LEN bounds a sent message. -/
def UartChan.maxTx (x : UartChan) : Nat := if x.j1708 then 20 else x.maxLen

/-- ECHO_CHECK in force. -/
def UartChan.echo (x : UartChan) : Bool := x.j1708 || bitOf (byteAt x.record 3) 2

/-- The checksum that makes the sum 0 modulo 256 (R367). -/
def serSum (b : Bytes) : Nat := (b.map (·.toNat)).foldl (· + ·) 0 % 256

/-- A message as it goes out (R367). -/
def UartChan.wire (x : UartChan) (d : Bytes) : Bytes := if x.j1708 then d ++ w8 ((256 - serSum d) % 256) else d

/-- Without J1708 access rules the head starts at once (R366). -/
def UartChan.start (x : UartChan) : UartChan :=
  { x with sending := x.sending || (!x.j1708 && x.state == 1 && x.wanted.isEmpty && !x.queue.isEmpty) }

/-- A message enqueued (R366): false where the queue is full, which TX_QUEUE_FULL counts. -/
def State.enqueueUart (s : State) (c : Nat) (t : SerTx) : Bool × State :=
  let x := s.uartCh c
  let bytes := (x.queue.map (fun t => t.data.length)).foldl (· + ·) 0
  if 32 ≤ x.queue.length ∨ 8192 < bytes + t.data.length then (false, s.count (.uart c .txQueueFull))
  else (true, s.modUart c (fun x => { x with queue := x.queue ++ [t] }.start))

/-- The commanded UART states that wait apply in order (R356). -/
def State.applyUartWaiting (s : State) (c : Nat) : Nat → State
  | 0 => s
  | k + 1 =>
    match (s.uartCh c).wanted with
    | [] => s
    | w :: ws =>
      if !(s.uartCh c).sending ∧ !(s.uartCh c).receiving ∧ (w.code = 0 ∨ s.edgeReady) then
        let s := s.modUart c (fun x => { x with wanted := ws, state := w.code }.start)
        (s.answerStarted w.slot w.tag 0x0B11 (stOk (w8 w.code))).applyUartWaiting c k
      else s

/-- Every UART state that waits (R356). -/
def State.applyUart (s : State) (c : Nat) : State := s.applyUartWaiting c (s.uartCh c).wanted.length

/-- A received message of a UART stored or dropped (R365, R367): the checksum of a J1708 message is taken off (DEDUCED, log 38). -/
def State.uartStore (s : State) (c : Nat) (d : Bytes) (stamp : Nat) (bad : Bool) : State :=
  let x := s.uartCh c
  if bad then s.count (.uart c .frameErr)
  else if x.j1708 ∧ serSum d ≠ 0 then s.count (.uart c .checksumErr)
  else
    let body := if x.j1708 then d.dropLast else d
    let f : CanFrame := { (default : CanFrame) with id := byteAt body 0, format := 16, data := body }
    let r := x.fifo.store32 { handle := 0, stamp := stamp, frame := f, seq := x.nextSeq, owned := false } s.tick
    let s := (s.stir.modUart c (fun x => { x with fifo := r.1, nextSeq := x.nextSeq + 1 })).count (.uart c .rxMessages)
    s.overran (.uart c .overrun) 4 c r.2

/-- UART_MESSAGE_END (R356, R365 to R367). -/
def State.uartMessage (s : State) (c : Nat) (data : Bytes) (stamp : Nat) (bad : Bool) : State :=
  let x := s.uartCh c
  let d := data.take x.maxLen
  if !s.bank33 ∨ x.state ≠ 1 ∨ x.sending ∨ d.isEmpty then s
  else ((s.uartStore c d stamp bad).modUart c (fun x => { x with receiving := false })).applyUart c

/-- The head leaves the queue; the next one may start. -/
def UartChan.next (x : UartChan) : UartChan := { x with queue := x.queue.tail, sending := false }.start

/-- UART_TX_END (R366): SENT. -/
def State.uartSent (s : State) (c : Nat) : State :=
  let x := s.uartCh c
  match x.sending && s.bank33, x.queue with
  | true, t :: _ =>
    let s := (s.stir.emit (.uartTx c (x.wire t.data))).count (.uart c .txMessages)
    ((s.modUart c UartChan.next).applyUart c)
  | _, _ => s

/-- UART_ECHO_COLLISION (R366, R368): retries have an end in J1708 mode only. -/
def State.uartCollision (s : State) (c : Nat) : State :=
  let x := s.uartCh c
  match x.sending && x.echo && s.bank33, x.queue with
  | true, t :: ts =>
    let s := s.count (.uart c .collision)
    let t : SerTx := { t with failed := t.failed + 1 }
    let s :=
      if t.expired ∨ passed s.now t.deadline then (s.modUart c UartChan.next).count (.uart c .lifetimeAbort)
      else if x.j1708 ∧ byteAt x.record 12 < t.failed then (s.modUart c UartChan.next).count (.uart c .retxExhausted)
      else s.modUart c (fun x => { x with queue := t :: ts, sending := false }.start)
    s.applyUart c
  | _, _ => s

/-- UART_LIFETIME_EXPIRY (R339, R366). -/
def State.uartExpire (s : State) (c : Nat) : State :=
  let x := s.uartCh c
  let late (t : SerTx) : Bool := passed s.now t.deadline
  let rest := if x.sending then x.queue.tail else x.queue
  let head := if x.sending then (x.queue.take 1).map (fun t => { t with expired := t.expired || late t }) else []
  let s := s.modUart c (fun x => { x with queue := head ++ rest.filter (fun t => !late t) })
  s.count (.uart c .lifetimeAbort) (rest.filter late).length

end Sys2Proof.Machine
end

