-- ==== Sys2Proof/Machine/LinCmds.lean ====
section
/-! DEFINITION. The LIN and SER commands and the events of LIN channels and UARTs (chapter 15 of the spec). -/

namespace Sys2Proof.Machine

/-- The channel field and its owner. -/
def ownsLin (s : State) (n : Nat) (p : Bytes) : Option Answer :=
  firstFail [inRange (byteAt p 0) 4 0, mustOwn s n 3 (byteAt p 0)]

/-- ST_WRONG_STATE for a LIN channel (R356). -/
def linWrong (s : State) (c : Nat) : Answer := stWrongState 0x0B01 c (s.linCh c).state

/-- The channel field and its owner. -/
def ownsUart (s : State) (n : Nat) (p : Bytes) : Option Answer :=
  firstFail [inRange (byteAt p 0) 6 0, mustOwn s n 4 (byteAt p 0)]

/-- ST_WRONG_STATE for a UART (R356). -/
def uartWrong (s : State) (c : Nat) : Answer := stWrongState 0x0B02 c (s.uartCh c).state

/-- LIN_GET_CAPS (R369, R538): channel counts 4 and 6, table sizes 64 and 64, the rate limits of R359 and R365 as a list of two
ranges (DEDUCED, log 22). -/
def cmdLinGetCaps : Cmd :=
  { op := 0x0B00, lengthOk := lenIs 0, check := fun _ _ _ => none
    run := fun s _ _ _ => (s, .done (stOk ([4, 6, 64, 64, 2, 1000, 20000, 1200, 1000000].flatMap w32))) }

/-- LIN_SET_CONFIG (R356, R359). -/
def cmdLinSetConfig : Cmd :=
  { op := 0x0B01, lengthOk := lenIs 12
    check := fun s n p => firstFail [ownsLin s n p, need ((s.linCh (byteAt p 0)).state == 0) (linWrong s (byteAt p 0)),
      between (byteAt p 4) 0 1 4, between (byteAt p 5) 0 7 5, between (le p 6 2) 1000 20000 6, between (byteAt p 8) 1 50 8,
      between (byteAt p 9) 4 10 9]
    run := fun s _ _ p =>
      (s.modLin (byteAt p 0) (fun x => { x with record := slice p 4 6 ++ zeros 2 }), .done (stOk [])) }

/-- LIN_SET_MODE (R356): the change takes effect at the end of the frame in progress. -/
def cmdLinSetMode : Cmd :=
  { op := 0x0B02, lengthOk := lenIs 4
    check := fun s n p => firstFail [ownsLin s n p, between (byteAt p 1) 0 1 1]
    run := fun s n tag p =>
      let c := byteAt p 0
      let m := byteAt p 1
      if (s.linCh c).awaiting.isNone && (s.linCh c).wanted.isEmpty && (m == 0 || (s.linCh c).state != 0 || s.edgeReady) then
        (s.linTo c m 0 0, .done (stOk (w8 m)))
      else (s.modLin c (fun x => { x with wanted := x.wanted ++ [{ code := m, slot := n, tag := tag }] }), .later) }

/-- LIN_SET_FRAME (R360): identifiers 60 and 61 always use the classic checksum. -/
def cmdLinSetFrame : Cmd :=
  { op := 0x0B03, lengthOk := lenIs 8
    check := fun s n p => firstFail [ownsLin s n p, between (byteAt p 1) 0 63 1, between (byteAt p 2) 0 2 2,
      between (byteAt p 3) 1 8 3, between (byteAt p 4) 0 1 4]
    run := fun s _ _ p =>
      let id := byteAt p 1
      let f : LinFrame :=
        { direction := byteAt p 2, length := byteAt p 3, checksum := if id = 60 ∨ id = 61 then 0 else byteAt p 4 }
      (s.modLin (byteAt p 0) (fun x => { x with frames := vset x.frames id f }), .done (stOk [])) }

/-- The entries of LIN_SET_SCHEDULE. -/
def schedEntries (p : Bytes) : List Bytes := (List.range (byteAt p 2)).map (fun k => slice p (4 + 4 * k) 4)

/-- LIN_SET_SCHEDULE (R361). -/
def cmdLinSetSchedule : Cmd :=
  { op := 0x0B04, lengthOk := fun p => decide (4 ≤ p.length) && p.length == 4 + 4 * byteAt p 2
    check := fun s n p => firstFail [ownsLin s n p, between (byteAt p 1) 0 3 1, between (byteAt p 2) 0 64 2,
      firstFail ((List.range (byteAt p 2)).map (fun k =>
        let o := 4 + 4 * k
        firstFail [between (byteAt p o) 0 4 o, between (byteAt p (o + 1)) 0 63 (o + 1), between (byteAt p (o + 2)) 1 255 (o + 2),
          between (byteAt p (o + 3)) 0 3 (o + 3)]))]
    run := fun s _ _ p =>
      (s.modLin (byteAt p 0) (fun x => { x with tables := vset x.tables (byteAt p 1) (schedEntries p) }), .done (stOk [])) }

/-- LIN_SELECT_SCHEDULE (R361): of two selections within one entry the later one stands. -/
def cmdLinSelectSchedule : Cmd :=
  { op := 0x0B05, lengthOk := lenIs 4
    check := fun s n p => firstFail [ownsLin s n p, between (byteAt p 1) 0 3 1]
    run := fun s _ _ p => (s.modLin (byteAt p 0) (fun x => { x with selected := some (byteAt p 1) }), .done (stOk [])) }

/-- A publish buffer written (R360, R361). -/
def State.linPublish (s : State) (c id : Nat) (data : Bytes) : State :=
  s.modLin c (fun x => { x with publish := vset x.publish id { data := padTo 8 data, fresh := true } })

/-- LIN_SET_PUBLISH (R360). -/
def cmdLinSetPublish : Cmd :=
  { op := 0x0B06, lengthOk := lenIs 12
    check := fun s n p => firstFail [ownsLin s n p, between (byteAt p 1) 0 63 1, between (byteAt p 2) 1 8 2]
    run := fun s _ _ p => (s.linPublish (byteAt p 0) (byteAt p 1) (slice p 4 (byteAt p 2)), .done (stOk [])) }

/-- LIN_SEND_WAKE (R364): a channel in OFF does not take it (DEDUCED, log 39). -/
def cmdLinSendWake : Cmd :=
  { op := 0x0B07, lengthOk := lenIs 4
    check := fun s n p => firstFail [ownsLin s n p, need ((s.linCh (byteAt p 0)).state != 0) (linWrong s (byteAt p 0))]
    run := fun s _ _ p => (s.linDriveWake (byteAt p 0), .done (stOk [])) }

/-- LIN_GET_STATUS (R369): the spec gives the last error no code, so that byte is free (log 22). -/
def cmdLinGetStatus : Cmd :=
  { op := 0x0B08, lengthOk := lenIs 4
    check := fun s n p => firstFail [inRange (byteAt p 0) 4 0, mayRead s n 3 (byteAt p 0)]
    run := fun s _ _ p =>
      let x := s.linCh (byteAt p 0)
      let e := s.freeBytes 1
      (e.2, .done (stOk (w8 x.state ++ w8 x.table ++ w8 x.running ++ e.1))) }

/-- The ranges of a UART record at offset 4 of the payload (R365). -/
def uartRanges (p : Bytes) : Option Answer :=
  firstFail [between (byteAt p 4) 0 1 4, need (decide (byteAt p 5 < 16) && bitsOf (byteAt p 5) 1 2 != 3) (stBadParam 5),
    between (byteAt p 6) 2 255 6, between (byteAt p 7) 0 7 7, between (le p 8 4) 1200 1000000 8, between (le p 12 2) 1 256 12,
    between (byteAt p 14) 0 16 14, between (byteAt p 15) 0 16 15, between (byteAt p 16) 1 255 16]

/-- SER_SET_CONFIG (R356, R365, R388). -/
def cmdSerSetConfig : Cmd :=
  { op := 0x0B10, lengthOk := lenIs 20
    check := fun s n p => firstFail [ownsUart s n p,
      need ((s.uartCh (byteAt p 0)).state == 0) (uartWrong s (byteAt p 0)), uartRanges p,
      budgetsFit s (0x310 + byteAt p 0) (fun _ => some (uartBudget (slice p 4 16)))]
    run := fun s _ _ p =>
      (s.modUart (byteAt p 0) (fun x => { x with record := slice p 4 13 ++ zeros 3 }), .done (stOk [])) }

/-- Whether a message is being received on an ACTIVE UART that does not send shows in no row: it is free (R356, log 76). -/
def State.uartListen (s : State) (c : Nat) : State :=
  if (s.uartCh c).state == 1 && !(s.uartCh c).sending then
    let b := s.freeBits 1
    b.2.modUart c (fun x => { x with receiving := b.1 == 1 })
  else s

/-- SER_SET_MODE (R356). -/
def cmdSerSetMode : Cmd :=
  { op := 0x0B11, lengthOk := lenIs 4
    check := fun s n p => firstFail [ownsUart s n p, between (byteAt p 1) 0 1 1]
    run := fun s n tag p =>
      let c := byteAt p 0
      let m := byteAt p 1
      let s := s.uartListen c
      if !(s.uartCh c).sending && !(s.uartCh c).receiving && (s.uartCh c).wanted.isEmpty && (m == 0 || (s.uartCh c).state != 0 || s.edgeReady) then
        (s.modUart c (fun x => { x with state := m }.start), .done (stOk (w8 m)))
      else (s.modUart c (fun x => { x with wanted := x.wanted ++ [{ code := m, slot := n, tag := tag }] }), .later) }

/-- SER_TRANSMIT (R366, R367): P counts in J1708 mode; a channel in OFF does not take it (DEDUCED, log 39). -/
def cmdSerTransmit : Cmd :=
  { op := 0x0B12, lengthOk := fun p => decide (12 ≤ p.length) && p.length == 12 + le p 8 2
    check := fun s n p =>
      let x := s.uartCh (byteAt p 0)
      firstFail [ownsUart s n p, need (x.state == 1) (uartWrong s (byteAt p 0)),
        need (!x.j1708 || (decide (1 ≤ byteAt p 1) && decide (byteAt p 1 ≤ 8))) (stBadParam 1),
        need (le p 2 2 == 0 || le p 2 2 == 2) (stBadParam 2), between (le p 8 2) 1 x.maxTx 8]
    run := fun s _ _ p =>
      let r := s.enqueueUart (byteAt p 0)
        { data := p.drop 12, priority := byteAt p 1, deadline := if bitOf (byteAt p 2) 1 then some (le p 4 4) else none
          failed := 0, expired := false }
      (r.2, .done (if r.1 then stOk [] else stNoResource)) }

/-- SER_GET_STATUS (R369). -/
def cmdSerGetStatus : Cmd :=
  { op := 0x0B13, lengthOk := lenIs 4
    check := fun s n p => firstFail [inRange (byteAt p 0) 6 0, mayRead s n 4 (byteAt p 0)]
    run := fun s _ _ p =>
      let x := s.uartCh (byteAt p 0)
      (s, .done (stOk (w8 x.state ++ w8 x.queue.length ++ w8 (32 - x.fifo.entries.length) ++ w8 (b2n x.fifo.shadow.isSome)))) }

/-- A source code of R184 as LIN (type 3) or UART (type 4) and channel. -/
def serSource (v : Nat) : Option (Nat × Nat) :=
  if 0x300 ≤ v ∧ v < 0x304 then some (3, v - 0x300) else if 0x310 ≤ v ∧ v < 0x316 then some (4, v - 0x310) else none

/-- The source field and its owner. -/
def ownsSer (s : State) (n : Nat) (p : Bytes) : Option Answer :=
  match serSource (le p 0 2) with
  | none => some (stBadParam 0)
  | some (ty, c) => mustOwn s n ty c

/-- The source field, for a read. -/
def readsSer (s : State) (n : Nat) (p : Bytes) : Option Answer :=
  match serSource (le p 0 2) with
  | none => some (stBadParam 0)
  | some (ty, c) => mayRead s n ty c

/-- The FIFO of a source. -/
def State.serFifo (s : State) (v : Nat) : Fifo :=
  match serSource v with
  | some (3, c) => (s.linCh c).fifo
  | some (_, c) => (s.uartCh c).fifo
  | none => default

/-- The FIFO of a source changed. -/
def State.modSerFifo (s : State) (v : Nat) (f : Fifo → Fifo) : State :=
  match serSource v with
  | some (3, c) => s.modLin c (fun x => { x with fifo := f x.fifo })
  | some (_, c) => s.modUart c (fun x => { x with fifo := f x.fifo })
  | none => s

/-- The owner slot reads the FIFO (CONSUMER, R357); otherwise ST_WRONG_STATE with the object type of R356. -/
def serHostFifo (s : State) (v : Nat) : Option Answer :=
  match serSource v with
  | some (3, c) => need (bitOf (byteAt (s.linCh c).record 1) 0) (linWrong s c)
  | some (_, c) => need (bitOf (byteAt (s.uartCh c).record 3) 0) (uartWrong s c)
  | none => none

/-- An entry as SER_RX_READ returns it (R369). -/
def RxEntry.serBytes (e : RxEntry) : Bytes :=
  w8 e.handle ++ zeros 3 ++ w64 e.stamp ++ w16 e.frame.data.length ++ zeros 2 ++ pad4 e.frame.data

/-- SER_RX_READ (R357, R369). -/
def cmdSerRxRead : Cmd :=
  { op := 0x0B20, lengthOk := lenIs 4
    check := fun s n p => firstFail [ownsSer s n p, serHostFifo s (le p 0 2), between (byteAt p 2) 1 16 2]
    run := fun s n _ p =>
      let l := claimable RxEntry.serBytes (byteAt p 2) (s.slot n).room (s.serFifo (le p 0 2)).entries
      (s.modSerFifo (le p 0 2) (fun q => q.claim l), .done (stOk (l.flatMap RxEntry.serBytes))) }

/-- SER_RX_RELEASE (R357, R369). -/
def cmdSerRxRelease : Cmd :=
  { op := 0x0B21, lengthOk := fun p => decide (4 ≤ p.length) && p.length == 4 + byteAt p 2
    check := fun s n p => firstFail [ownsSer s n p, serHostFifo s (le p 0 2), between (byteAt p 2) 1 32 2, handlesIn p 32]
    run := fun s _ _ p => (s.modSerFifo (le p 0 2) (fun q => q.release 32 (handlesOf p)), .done (stOk [])) }

/-- SER_RX_RELEASE of an entry that the caller does not own is undefined (R357), and the machine stops. -/
def execSerRxRelease (slot : Slot) (tag : Half) (payload : Bytes) (s : State) : Res :=
  if runsNow cmdSerRxRelease slot.val tag payload s && !(s.serFifo (le payload 0 2)).ownsAll (handlesOf payload) then
    .fault .entryNotOwned
  else .next (penyen cmdSerRxRelease slot.val tag payload s)

/-- The counters of R370 in order. -/
def linCtrs : List LinCtr :=
  [.rxFrames, .txFrames, .overrun, .noResponse, .partialFrames, .checksumErr, .syncErr, .frameErr, .bitErr,
   .collisionsResolved, .wakes]

/-- The counters of R370 in order. -/
def uartCtrs : List UartCtr :=
  [.rxMessages, .txMessages, .overrun, .frameErr, .checksumErr, .collision, .retxExhausted, .lifetimeAbort, .txQueueFull]

/-- The counters of a source. -/
def serCtrs (v : Nat) : List Ctr :=
  match serSource v with
  | some (3, c) => linCtrs.map (Ctr.lin c)
  | some (_, c) => uartCtrs.map (Ctr.uart c)
  | none => []

/-- SER_GET_COUNTERS (R370). -/
def cmdSerGetCounters : Cmd :=
  { op := 0x0B22, lengthOk := lenIs 4, check := readsSer
    run := fun s _ _ p => (s, .done (stOk (counterBytes s (serCtrs (le p 0 2))))) }

/-- SER_CLEAR_COUNTERS (R157, R370). -/
def cmdSerClearCounters : Cmd :=
  { op := 0x0B23, lengthOk := lenIs 4, check := ownsSer
    run := fun s _ _ p => (s.clearCtrs (fun k => (serCtrs (le p 0 2)).contains k), .done (stOk [])) }

/-! Events of the buses. -/

/-- LIN_SCHEDULE_ENTRY. -/
def execLinScheduleEntry (c : LinCh) (s : State) : Res :=
  .next (if (s.linCh c.val).master then s.linSchedule c.val else s)

/-- LIN_HEADER_RECEIVED: the identifier, and whether the sync field was within ±14 % of BITRATE. -/
def execLinHeaderReceived (c : LinCh) (id : Fin 64) (syncOk : Bool) (s : State) : Res :=
  .next (s.linHeaderIn c.val id.val syncOk)

/-- LIN_FRAME_RECEIVED: the response to a header; error 0 none, 1 checksum, 2 framing, 3 bit. -/
def execLinFrameReceived (c : LinCh) (id : Fin 64) (data : Bytes) (stamp : Nat) (error : Fin 4) (s : State) : Res :=
  .next (s.linFrame c.val id.val data stamp error.val)

/-- LIN_RESPONSE_TIMEOUT: whether some bytes came. -/
def execLinResponseTimeout (c : LinCh) (partly : Bool) (s : State) : Res := .next (s.linTimeout c.val partly)

/-- LIN_IDLE_SLEEP (R363). -/
def execLinIdleSleep (c : LinCh) (s : State) : Res :=
  let x := s.linCh c.val
  .next (if x.state = 1 ∧ !x.master ∧ bitOf (byteAt x.record 1) 2 then
      let s := s.linFrameEnds c.val
      if (s.linCh c.val).state = 1 then s.linTo c.val 2 2 3 else s
    else s)

/-- LIN_WAKE_RESUME (R364). -/
def execLinWakeResume (c : LinCh) (s : State) : Res :=
  .next (s.modLin c.val (fun x => if x.resuming then { x with resuming := false, entry := 0 } else x))

/-- UART_MESSAGE_END: the bytes, the stamp of the first start bit, and whether a byte had a framing or parity error. -/
def execUartMessageEnd (c : UartCh) (data : Bytes) (stamp : Nat) (bad : Bool) (s : State) : Res :=
  .next (s.uartMessage c.val data stamp bad)

/-- UART_ACCESS_WAIT_END (R367). -/
def execUartAccessWaitEnd (c : UartCh) (s : State) : Res :=
  .next (s.modUart c.val (fun x =>
    if s.bank33 && x.j1708 && x.state == 1 && x.wanted.isEmpty && !x.queue.isEmpty then { x with sending := true } else x))

/-- UART_TX_END. -/
def execUartTxEnd (c : UartCh) (s : State) : Res := .next (s.uartSent c.val)

/-- UART_ECHO_COLLISION. -/
def execUartEchoCollision (c : UartCh) (s : State) : Res := .next (s.uartCollision c.val)

/-- UART_LIFETIME_EXPIRY. -/
def execUartLifetimeExpiry (c : UartCh) (s : State) : Res := .next (s.uartExpire c.val)

/-- LIN_GET_CAPS. -/
def execLinGetCaps (slot : Slot) (tag : Half) (payload : Bytes) (s : State) : Res :=
  .next (penyen cmdLinGetCaps slot.val tag payload s)

/-- LIN_SET_CONFIG. -/
def execLinSetConfig (slot : Slot) (tag : Half) (payload : Bytes) (s : State) : Res :=
  .next (penyen cmdLinSetConfig slot.val tag payload s)

/-- LIN_SET_MODE. -/
def execLinSetMode (slot : Slot) (tag : Half) (payload : Bytes) (s : State) : Res :=
  .next (penyen cmdLinSetMode slot.val tag payload s)

/-- LIN_SET_FRAME. -/
def execLinSetFrame (slot : Slot) (tag : Half) (payload : Bytes) (s : State) : Res :=
  .next (penyen cmdLinSetFrame slot.val tag payload s)

/-- LIN_SET_SCHEDULE. -/
def execLinSetSchedule (slot : Slot) (tag : Half) (payload : Bytes) (s : State) : Res :=
  .next (penyen cmdLinSetSchedule slot.val tag payload s)

/-- LIN_SELECT_SCHEDULE. -/
def execLinSelectSchedule (slot : Slot) (tag : Half) (payload : Bytes) (s : State) : Res :=
  .next (penyen cmdLinSelectSchedule slot.val tag payload s)

/-- LIN_SET_PUBLISH. -/
def execLinSetPublish (slot : Slot) (tag : Half) (payload : Bytes) (s : State) : Res :=
  .next (penyen cmdLinSetPublish slot.val tag payload s)

/-- LIN_SEND_WAKE. -/
def execLinSendWake (slot : Slot) (tag : Half) (payload : Bytes) (s : State) : Res :=
  .next (penyen cmdLinSendWake slot.val tag payload s)

/-- LIN_GET_STATUS. -/
def execLinGetStatus (slot : Slot) (tag : Half) (payload : Bytes) (s : State) : Res :=
  .next (penyen cmdLinGetStatus slot.val tag payload s)

/-- SER_SET_CONFIG. -/
def execSerSetConfig (slot : Slot) (tag : Half) (payload : Bytes) (s : State) : Res :=
  .next (penyen cmdSerSetConfig slot.val tag payload s)

/-- SER_SET_MODE. -/
def execSerSetMode (slot : Slot) (tag : Half) (payload : Bytes) (s : State) : Res :=
  .next (penyen cmdSerSetMode slot.val tag payload s)

/-- SER_TRANSMIT. -/
def execSerTransmit (slot : Slot) (tag : Half) (payload : Bytes) (s : State) : Res :=
  .next (penyen cmdSerTransmit slot.val tag payload s)

/-- SER_GET_STATUS. -/
def execSerGetStatus (slot : Slot) (tag : Half) (payload : Bytes) (s : State) : Res :=
  .next (penyen cmdSerGetStatus slot.val tag payload s)

/-- SER_RX_READ. -/
def execSerRxRead (slot : Slot) (tag : Half) (payload : Bytes) (s : State) : Res :=
  .next (penyen cmdSerRxRead slot.val tag payload s)

/-- SER_GET_COUNTERS. -/
def execSerGetCounters (slot : Slot) (tag : Half) (payload : Bytes) (s : State) : Res :=
  .next (penyen cmdSerGetCounters slot.val tag payload s)

/-- SER_CLEAR_COUNTERS. -/
def execSerClearCounters (slot : Slot) (tag : Half) (payload : Bytes) (s : State) : Res :=
  .next (penyen cmdSerClearCounters slot.val tag payload s)

end Sys2Proof.Machine
end

