-- ==== Sys2Proof/Machine/Ledger.lean ====
section
/-! DEFINITION. The Drover's ledger (R507). -/

namespace Sys2Proof.Machine

/-- The Drover changed. -/
def State.modDrov (s : State) (f : Drover → Drover) : State := { s with drover := f s.drover }

/-- A mandate. -/
def State.mandate (s : State) (i : Nat) : Mandate := tgetD s.drover.mandates i default

/-- A mandate changed. -/
def State.modMandate (s : State) (i : Nat) (f : Mandate → Mandate) : State :=
  s.modDrov (fun d => { d with mandates := tmod d.mandates i default f })

/-- KIND and RESOURCE of a mandate (R501). -/
def Mandate.kind (m : Mandate) : Nat := byteAt m.record 0
def Mandate.resource (m : Mandate) : Nat := le m.record 2 2
/-- Parameter `k`, from 0 (R501). -/
def Mandate.param (m : Mandate) (k : Nat) : Nat := le m.record (4 + 4 * k) 4

/-- The owner wrote a resource: the mandates on it learn of it (R504). -/
def State.touch (s : State) (kind res : Nat) : State :=
  s.modDrov (fun d => { d with mandates := d.mandates.map (fun e =>
    (e.1, if e.2.kind = kind ∧ e.2.resource = res then { e.2 with touched := true } else e.2)) })

/-- A host commanded camera power of a port (R503, R504): a mandate that has given up watches again after an ON, and a shed no
longer concerns the port. -/
def State.touchPodl (s : State) (p : Nat) (on : Bool) : State :=
  s.modDrov (fun d => { d with mandates := d.mandates.map (fun e =>
    let m := e.2
    (e.1,
      if m.kind = 3 ∧ m.resource = p ∧ on ∧ m.state = .givenUp then { m with state := .watching }
      else if m.kind = 5 ∧ m.state = .acting ∧ bitOf m.before p then { m with before := setBit m.before p false, touched := true }
      else m)) })

/-- The crossing of each kind's actions (R20, R507). -/
def drovCrossing (kind : Nat) : Nat := if kind = 1 then 0 else if kind = 2 then 4 else if kind = 4 then 3 else 6

/-- The 32 bytes of a ledger entry (R507): `effect` is EFFECT_TIME. -/
def ledgerEntry (seq i effect : Nat) (m : Mandate) (d : Decision) : Bytes :=
  w32 seq ++ w16 i ++ w8 m.kind ++ w8 d.action ++ w8 (drovCrossing m.kind) ++ w8 d.outcome ++ w16 m.resource ++ w32 d.measured
    ++ w64 effect ++ w32 d.before ++ w32 d.after

/-- A decision of a mandate written to the ledger with its effect time, counted, and reported to S0 and to the granting slot (R507,
R509). -/
def State.ledgerAt (s : State) (i : Nat) (m : Mandate) (d : Decision) (effect : Nat) : State :=
  let e := ledgerEntry s.drover.seq i effect m d
  let s := if 1024 ≤ s.drover.ledger.length then s.count (.drov .ledgerOverwritten) else s
  let s := s.modDrov (fun x => { x with seq := x.seq + 1, ledger := x.ledger.drop (x.ledger.length + 1 - 1024) ++ [e] })
  let s := match d.outcome with
    | 0 => s.count (.drov .actions)
    | 1 => s.count (.drov .deferred)
    | 2 => s.count (.drov .refused)
    | 3 => s.count (.drov .endedByHost)
    | _ => s
  s.eventTwo 0 m.slot 0x1201 e

/-- A decision written to the ledger: one that is DONE takes effect now. -/
def State.ledger (s : State) (i : Nat) (d : Decision) : State :=
  s.ledgerAt i (s.mandate i) d (if d.outcome = 0 then s.now else 0)

/-- Port `p` no longer waits for the board budget: a decision that switched it on takes effect if it is powered now; one whose
ports have all been switched off again never does, and a host's OFF has ended it (R504, R507; DEDUCED, log 51). -/
def State.duePort (s : State) (p : Nat) (powered hostOff : Bool) : State :=
  forAll (s.drover.due.filter (fun e => bitOf e.ports p)) (fun e s =>
    let left := setBit e.ports p false
    let rest := s.drover.due.erase e
    if powered then (s.modDrov (fun d => { d with due := rest })).ledgerAt e.index e.mandate e.decision s.now
    else if left = 0 then
      (s.modDrov (fun d => { d with due := rest })).ledgerAt e.index e.mandate
        { e.decision with outcome := if hostOff then 3 else e.decision.outcome } 0
    else s.modDrov (fun d => { d with due := rest ++ [{ e with ports := left }] })) s

/-- A decision that switches camera ports on enters the ledger when the first of them leaves INRUSH_WAIT, at once if none waits. -/
def State.ledgerPorts (s : State) (i : Nat) (d : Decision) (ports : Nat) : State :=
  if ports = 0 then s.ledger i d
  else s.modDrov (fun x => { x with due := x.due ++ [{ index := i, mandate := s.mandate i, decision := d, ports := ports }] })

end Sys2Proof.Machine
end

