-- ==== Sys2Proof/Machine/Parse.lean ====
section
/-! DEFINITION. Stage 1 of the classification pipelines: parsing a frame (R129, R135, R152, R178, R539). -/

namespace Sys2Proof.Machine

/-- A SecTAG (R4, IEEE 802.1AE): AN, packet number, SCI if present. The layout of the tag is PRESUMED (log 12). -/
structure SecTag where
  an : Nat
  pn : Nat
  sci : Option Nat
  /-- It uses an option that R4 does not list: a version, ES, SCB, or E and C that differ. -/
  odd : Bool
deriving DecidableEq, Repr, Inhabited

/-- What stage 1 finds in a frame (R539). -/
structure Hdr where
  dst : Nat
  src : Nat
  /-- Tags parsed, 0 to 2. -/
  tags : Nat
  /-- TCI of the outer tag. -/
  tci : Nat
  sec : Option SecTag
  /-- EtherType after tags and SecTAG. -/
  etype : Nat
  /-- Offset of the first byte after the EtherType. -/
  l3off : Nat
  /-- 0 other, 1 IPv4, 2 IPv6, 3 IEEE 1722. -/
  l3kind : Nat
  srcAddr : Bytes
  dstAddr : Bytes
  /-- IP protocol, or AVTP subtype. -/
  proto : Nat
  dscp : Nat
  /-- A non-first fragment. -/
  frag : Bool
  /-- The L4 header is present. -/
  l4 : Bool
  l4off : Nat
  sport : Nat
  dport : Nat
  tcpFlags : Nat
  /-- Offset of the L4 payload. -/
  payOff : Nat
  /-- Sequence number of an R-TAG after the tags (R289). -/
  rtag : Option Nat
deriving DecidableEq, Repr, Inhabited

/-- A SecTAG at an offset, and the offset after it. Its layout is PRESUMED of IEEE 802.1AE (log 12). -/
def secTagAt (b : Bytes) (p : Nat) : Option SecTag × Nat :=
  if be b p 2 = 0x88E5 then
    let tci := byteAt b (p + 2)
    let odd := tci.testBit 7 || tci.testBit 6 || tci.testBit 4 || tci.testBit 3 != tci.testBit 2
    if tci.testBit 5 then (some { an := tci % 4, pn := be b (p + 4) 4, sci := some (be b (p + 8) 8), odd := odd }, p + 16)
    else (some { an := tci % 4, pn := be b (p + 4) 4, sci := none, odd := odd }, p + 8)
  else (none, p)

/-- VLAN tags at an offset: how many, the outer TCI, and the offset after them (R539). -/
def vlanTagsAt (b : Bytes) (p : Nat) : Nat × Nat × Nat :=
  if be b p 2 = 0x8100 ∨ be b p 2 = 0x88A8 then
    if be b (p + 4) 2 = 0x8100 then (2, be b (p + 2) 2, p + 8) else (1, be b (p + 2) 2, p + 4)
  else (0, 0, p)

/-- The IPv6 extension-header chain (R539): the protocol reached, the offset of its header, whether the chain ended
within byte 128, and whether a non-first fragment was met. -/
def ipv6Chain (b : Bytes) (lim : Nat) : Nat → Nat → Nat → Bool → Nat × Nat × Bool × Bool
  | 0, nh, p, frag => (nh, p, false, frag)
  | fuel + 1, nh, p, frag =>
    if nh = 0 ∨ nh = 43 ∨ nh = 60 then
      let e := p + (byteAt b (p + 1) + 1) * 8
      if e ≤ 128 ∧ e ≤ lim then ipv6Chain b lim fuel (byteAt b p) e frag else (nh, p, false, frag)
    else if nh = 44 then
      if p + 8 ≤ 128 ∧ p + 8 ≤ lim then
        ipv6Chain b lim fuel (byteAt b p) (p + 8) (frag || be b (p + 2) 2 / 8 != 0)
      else (nh, p, false, frag)
    else (nh, p, true, frag)

/-- The L4 header of an IP frame, if present (R539): ports, flags and payload offset. -/
def l4Fields (b : Bytes) (lim : Nat) (h : Hdr) (ok : Bool) (p : Nat) : Hdr :=
  if !ok || h.frag then h
  else if h.proto = 6 ∧ p + 20 ≤ lim then
    { h with l4 := true, l4off := p, sport := be b p 2, dport := be b (p + 2) 2, tcpFlags := byteAt b (p + 13)
             payOff := p + byteAt b (p + 12) / 16 * 4 }
  else if h.proto = 17 ∧ p + 8 ≤ lim then
    { h with l4 := true, l4off := p, sport := be b p 2, dport := be b (p + 2) 2, payOff := p + 8 }
  else if (h.proto = 1 ∨ h.proto = 58) ∧ p + 8 ≤ lim then
    { h with l4 := true, l4off := p, sport := be b p 2, dport := be b (p + 4) 2, payOff := p + 8 }
  else h

/-- Stage 1 (R539): `lim` is the number of bytes known to lie before the FCS; with `skip`, an R-TAG is read over (R292). -/
def parse (skip : Bool) (lim : Nat) (b : Bytes) : Hdr :=
  let s0 := secTagAt b 12
  let v := vlanTagsAt b s0.2
  let s1 := match s0.1 with
    | some t => (some t, v.2.2)
    | none => secTagAt b v.2.2
  let rt := if be b s1.2 2 = 0xF1C1 then some (be b (s1.2 + 4) 2) else none
  let p := if skip && rt.isSome then s1.2 + 6 else s1.2
  let o := p + 2
  let h : Hdr := { (default : Hdr) with
    dst := be b 0 6, src := be b 6 6, tags := v.1, tci := v.2.1, sec := s1.1, etype := be b p 2, l3off := o, rtag := rt }
  let ihl := byteAt b o % 16
  if h.etype = 0x0800 ∧ byteAt b o / 16 = 4 ∧ 5 ≤ ihl ∧ o + 4 * ihl ≤ lim then
    let h := { h with
      l3kind := 1, srcAddr := padTo 16 (slice b (o + 12) 4), dstAddr := padTo 16 (slice b (o + 16) 4)
      proto := byteAt b (o + 9), dscp := byteAt b (o + 1) / 4, frag := be b (o + 6) 2 % 0x2000 != 0 }
    l4Fields b lim h true (o + 4 * ihl)
  else if h.etype = 0x86DD ∧ byteAt b o / 16 = 6 ∧ o + 40 ≤ lim then
    let c := ipv6Chain b lim 16 (byteAt b (o + 6)) (o + 40) false
    let h := { h with
      l3kind := 2, srcAddr := slice b (o + 8) 16, dstAddr := slice b (o + 24) 16
      proto := c.1, dscp := be b o 2 / 64 % 64, frag := c.2.2.2 }
    l4Fields b lim h c.2.2.1 c.2.1
  else if h.etype = 0x22F0 then
    { h with l3kind := 3, proto := byteAt b o, dstAddr := padTo 16 (slice b (o + 4) 8) }
  else h

/-- The AVTP subtypes with a 24-byte header that carries stream_data_length. PRESUMED of IEEE 1722-2016 (log 12). -/
def avtpStream (subtype : Nat) : Bool :=
  subtype == 0 || subtype == 2 || subtype == 3 || subtype == 5 || subtype == 6 || subtype == 7

/-- The length estimate that the header itself gives (R152): the L2 header, the SecTAG with it, before the L3 length, and after it the
FCS and the ICV of a protected frame. -/
def headerEstimate (b : Bytes) (h : Hdr) : Option Nat :=
  let around := h.l3off + (if h.sec.isSome then 16 else 0) + 4
  if h.l3kind = 1 then some (be b (h.l3off + 2) 2 + around)
  else if h.l3kind = 2 then some (be b (h.l3off + 4) 2 + 40 + around)
  else if h.l3kind = 3 ∧ avtpStream h.proto then some (be b (h.l3off + 20) 2 + 24 + around)
  else if h.l3kind = 3 ∧ h.proto = 0x82 then some (be b (h.l3off + 1) 2 % 2048 + 12 + around)
  else none

/-- The reserved group addresses 01-80-C2-00-00-00 to 01-80-C2-00-00-0F (R135). -/
def isReservedGroup (dst : Nat) : Bool := dst / 16 == 0x0180C200000

/-- The group bit of an address (R139). -/
def isGroup (mac : Nat) : Bool := mac.testBit 40

/-- Broadcast. -/
def isBroadcast (mac : Nat) : Bool := mac == 0xFFFFFFFFFFFF

end Sys2Proof.Machine
end

