-- ==== Sys2Proof/Machine/Police.lean ====
section
/-! DEFINITION. Stage 4 of the pipelines: stream identification, stream filters, stream gates and meters (chapter 09 of the
spec). -/

namespace Sys2Proof.Machine

/-- The Ethernet side changed. -/
def State.modNet (s : State) (f : Net → Net) : State := { s with net := f s.net }

/-- A frame of an agent of the management port leaves on a port (R4): its body, 46 bytes long, is free (log 12). -/
def State.sendAgent (s : State) (p dst etype : Nat) : State :=
  let b := s.freeBytes 46
  b.2.modNet (fun n => { n with outbox := n.outbox ++
    [{ ingress := 27, bytes := beBytes 6 dst ++ beBytes 6 Config.managementMac.toNat ++ beBytes 2 etype ++ b.1
       direct := some p, launch := none, tc := none, oneStep := false }] })

/-- LLDP is sent on a port (R4, R135): when its link comes up, and to a neighbour that is new (log 12). -/
def State.sendLldp (s : State) (p : Nat) : State := if s.running then s.sendAgent p 0x0180C200000E 0x88CC else s

/-- MKA is sent on a port under MKA_EN (R4, R135, R424): when it is enabled, when its link comes up, in answer to a frame, and at the
threshold of its transmit association (log 12). -/
def State.sendMka (s : State) (p : Nat) : State :=
  if s.running && (vget s.crypt.ports p).mkaEn then s.sendAgent p 0x0180C2000003 0x888E else s

/-- Meter `i`. -/
def State.meter (s : State) (i : Nat) : Meter := tgetD s.net.meters i default

/-- Meter `i` changed. -/
def State.modMeter (s : State) (i : Nat) (f : Meter → Meter) : State :=
  s.modNet (fun n => { n with meters := tmod n.meters i default f })

/-- One byte in the units of the buckets: 1 kbit/s for one 1.25 ns tick is 1/6,400,000 byte. -/
def meterUnit : Nat := 6400000

/-- Both buckets of a meter at a fabric tick (R225): C fills up to CBS, and with COUPLING its overflow flows into E. -/
def Meter.accrue (m : Meter) (tick : Nat) : Meter :=
  if !m.cfg.enable then { m with last := tick }
  else
    let dt := tick - m.last
    let cMax : Int := m.cfg.cbs * meterUnit
    let eMax : Int := m.cfg.ebs * meterUnit
    let c1 : Int := m.c + m.cfg.cir * dt
    let excess : Int := if c1 > cMax then c1 - cMax else 0
    { m with
      c := if c1 > cMax then cMax else c1
      e := min eMax (m.e + m.cfg.eir * dt + (if m.cfg.coupling then excess else 0)), last := tick }

/-- The meter algorithm of R225: colour (0 green, 1 yellow, 2 red) and the meter after it, for a frame of `l` bytes. -/
def Meter.decide (m : Meter) (tick : Nat) (inYellow : Bool) (l : Nat) : Nat × Meter :=
  if !m.cfg.enable then (0, m)
  else
    let m := m.accrue tick
    let need : Int := l * meterUnit
    if !(m.cfg.aware && inYellow) ∧ need ≤ m.c then (0, { m with c := m.c - need })
    else if need ≤ m.e then (1, { m with e := m.e - need })
    else (2, m)

/-- A frame charged on a meter (R225): its colour, and the charge it carries. -/
def State.chargeMeter (s : State) (i : Nat) (inYellow : Bool) (l : Nat) : Nat × Option Charge × State :=
  let m := s.meter i
  let r := m.decide s.tick inYellow l
  let s := s.modMeter i (fun _ => r.2)
  if !m.cfg.enable ∨ r.1 = 2 then (r.1, none, s)
  else (r.1, some { meter := i, green := r.1 == 0, amount := l, cbs := m.cfg.cbs, ebs := m.cfg.ebs }, s)

/-- `n` bytes given back to the bucket a charge was made on, up to the bucket's size; a negative `n` is a further charge
(R153). -/
def State.creditMeter (s : State) (c : Charge) (n : Int) : State :=
  s.modMeter c.meter (fun m =>
    if c.green then { m with c := if n ≥ 0 then max m.c (min ((c.cbs * meterUnit : Nat) : Int) (m.c + n * meterUnit))
                                  else m.c + n * meterUnit }
    else { m with e := if n ≥ 0 then max m.e (min ((c.ebs * meterUnit : Nat) : Int) (m.e + n * meterUnit))
                       else m.e + n * meterUnit })

/-- Every charge of a frame refunded in full (R151, R227). -/
def State.refundAll (s : State) (cs : List Charge) : State := forAll cs (fun c s => s.creditMeter c c.amount) s

/-- Charges corrected to the true length at confirmation (R153, R227). -/
def State.correctAll (s : State) (cs : List Charge) (len : Nat) : State :=
  forAll cs (fun c s => s.creditMeter c ((c.amount : Int) - len)) s

/-- A meter's new fields applied by a commit: levels kept and clipped, filled when first enabled (R225). -/
def Meter.commit (m : Meter) (tick : Nat) : Meter :=
  let m := m.accrue tick
  let cMax : Int := m.shadow.cbs * meterUnit
  let eMax : Int := m.shadow.ebs * meterUnit
  let fill := m.shadow.enable && !m.primed
  { m with
    cfg := m.shadow
    c := if fill then cMax else min m.c cMax
    e := if fill then eMax else min m.e eMax
    primed := m.primed || m.shadow.enable }

/-- A stream identification entry matches a frame (R228): its function, its ports and its fields. -/
def streamIdMatches (r : Bytes) (f ingress vid : Nat) (h : Hdr) : Bool :=
  byteAt r 0 == f && bitOf (le r 4 4) ingress && le r 14 2 == vid &&
    (if f = 1 then be r 8 6 == h.dst
     else if f = 2 then be r 8 6 == h.src
     else
       let w := byteAt r 1
       be r 8 6 == h.dst && (h.l3kind == 1 || h.l3kind == 2)
         && (bitOf w 0 || slice r 16 16 == h.srcAddr) && slice r 32 16 == h.dstAddr
         && (bitOf w 1 || byteAt r 48 == h.dscp) && (bitOf w 2 || byteAt r 49 == h.proto)
         && (bitOf w 3 || (h.l4 && be r 50 2 == h.sport)) && (bitOf w 4 || (h.l4 && be r 52 2 == h.dport)))

/-- The entry that gives a frame its handle: IP before source before null, the lowest-numbered of each (R229). -/
def streamEntry (t : Tbl Bytes) (ingress vid : Nat) (h : Hdr) : Option (Nat × Nat) :=
  match t.find? (fun e => streamIdMatches e.2 3 ingress vid h) with
  | some e => some (e.1, le e.2 2 2)
  | none =>
    match t.find? (fun e => streamIdMatches e.2 2 ingress vid h) with
    | some e => some (e.1, le e.2 2 2)
    | none => (t.find? (fun e => streamIdMatches e.2 1 ingress vid h)).map (fun e => (e.1, le e.2 2 2))

/-- A valid filter governs frames of a handle and priority (R231). -/
def filterGoverns (r : Bytes) (handle : Option Nat) (prio : Nat) : Bool :=
  let w := le r 2 2
  bitOf (byteAt r 0) 0
    && (w == 0xFFFF || (match handle with | some x => w == x | none => w == 0xFFFE))
    && (byteAt r 4 == 0xFF || byteAt r 4 == prio)

/-- The entry of a stream-gate list at a position of its cycle (R234): index, open, IPV. -/
def sgateEntryAt (l : List (Bool × Nat × Nat)) (pos : Nat) (k : Nat) : Nat × Bool × Nat :=
  match l with
  | [] => (0, true, 0xFF)
  | [e] => (k, e.1, e.2.1)
  | e :: es => if pos < e.2.2 then (k, e.1, e.2.1) else sgateEntryAt es (pos - e.2.2) (k + 1)

/-- The position of a started gate in its cycle (R234): the cycle's end cuts off what lies beyond it, and a step of the clock moves it. -/
def SGate.position (g : SGate) (l : SGateList) (t : Nat) : Nat := (((t : Int) - g.start) % (max 1 l.cycle : Nat)).toNat

/-- The state of a stream gate at a local instant (R232, R234): open, IPV. -/
def SGate.stateAt (g : SGate) (t : Nat) : Bool × Nat :=
  if g.shut then (false, 0xFF)
  else
    match g.active with
    | none => (g.isOpen, g.ipv)
    | some l =>
      if !g.started && decide (t < g.start) then (l.initOpen, l.initIpv)
      else
        let e := sgateEntryAt l.entries (g.position l t) 0
        (e.2.1, e.2.2)

/-- The gate where local time puts it (R234, R274): INIT_STATE until its list starts, then the entry at its position. -/
def SGate.reposition (g : SGate) (now : Nat) : SGate :=
  match g.active with
  | none => g
  | some l =>
    if !g.started && decide (now < g.start) then g
    else
      let e := sgateEntryAt l.entries (g.position l now) 0
      { g with entry := e.1, isOpen := e.2.1, ipv := e.2.2, started := true }

end Sys2Proof.Machine
end

