-- ==== Sys2Proof/Machine/Buffer.lean ====
section
/-! DEFINITION. The shared buffer: admission, cell accounting, and the life of frames and waybills (chapters 06 and 08 of
the spec). -/

namespace Sys2Proof.Machine

/-- The egress queue of a port and class. -/
def State.queue (s : State) (p tc : Nat) : Queue := vget s.net.queues (p * 8 + tc)

/-- An egress queue changed. -/
def State.modQueue (s : State) (p tc : Nat) (f : Queue → Queue) : State :=
  s.modNet (fun n => { n with queues := vmod n.queues (p * 8 + tc) f })

/-- The egress side of an external port. -/
def State.egr (s : State) (p : Nat) : Egress := vget s.net.egress p

/-- The egress side of an external port changed. -/
def State.modEgr (s : State) (p : Nat) (f : Egress → Egress) : State :=
  s.modNet (fun n => { n with egress := vmod n.egress p f })

/-- A frame record. -/
def State.frame? (s : State) (id : Nat) : Option Frame := s.net.frames.find? (fun f => f.id == id)

/-- A frame record changed. -/
def State.modFrame (s : State) (id : Nat) (f : Frame → Frame) : State :=
  s.modNet (fun n => { n with frames := n.frames.map (fun x => if x.id == id then f x else x) })

/-- A waybill. -/
def State.waybill? (s : State) (id : Nat) : Option Waybill := s.net.waybills.find? (fun w => w.id == id)

/-- A waybill changed. -/
def State.modWaybill (s : State) (id : Nat) (f : Waybill → Waybill) : State :=
  s.modNet (fun n => { n with waybills := n.waybills.map (fun x => if x.id == id then f x else x) })

/-- The frame's length from destination address to FCS (R193): frames from F25 to F27 are kept without FCS. -/
def Frame.trueLen (f : Frame) : Nat := f.bytes.length + (if 25 ≤ f.ingress then 4 else 0)

/-- The bytes before the FCS. -/
def Frame.lim (f : Frame) : Nat := if 25 ≤ f.ingress then f.bytes.length else f.bytes.length - 4

/-- A frame cut at a receive error, at the loss of its link or after byte MAX_FRAME: its copies carry every byte received
(R155). -/
def Frame.cut (f : Frame) : Bool := f.endCause == some .truncated || f.endCause == some .oversize

/-- Cells of a length (R193). -/
def cellsOf (len : Nat) : Nat := (len + 63) / 64

/-- Headroom cells in use (R212). -/
def Buffer.headroom (b : Buffer) : Nat :=
  (List.range 28).foldl (fun a i => a + (vget b.usedRes i - vget b.reserve i)) (Int.toNat (-b.free))

/-- High- and low-water marks of the buffer (R212). -/
def Buffer.mark (b : Buffer) : Buffer :=
  { b with
    sharedMin := min b.sharedMin b.free
    headroomMax := max b.headroomMax b.headroom
    resMax := vtab 28 (fun i => max (vget b.resMax i) (vget b.usedRes i)) }

/-- Cells charged to a frame's source, or given back to it when negative (R203, R204). -/
def State.chargeCells (s : State) (ingress : Nat) (reserve : Bool) (n : Int) : State :=
  s.modNet (fun x =>
    let b := x.buffer
    let b := if reserve then
        { b with usedRes := vmod b.usedRes ingress (fun u => Int.toNat ((u : Int) + n)) }
      else { b with free := b.free - n }
    { x with buffer := b.mark })

/-- q of an egress queue changed (R203, R204), with its high-water mark. -/
def State.addDepth (s : State) (p tc : Nat) (n : Int) : State :=
  s.modQueue p tc (fun q =>
    let d := Int.toNat ((q.depth : Int) + n)
    { q with depth := d, depthHigh := max q.depthHigh d })

/-- alpha of a code, as numerator over 64: 2^(code − 6) (R206). -/
def alpha64 (code : Nat) : Nat := 2 ^ code

/-- The counter of an admission outcome of a copy (R212). -/
inductive Admission where
  | admitted | linkDrop | capDrop | yellowDrop | dtDrop
deriving DecidableEq, Repr

/-- An EtherType that CLEAR_MASK lets pass in the clear (R420). -/
def inClearMask (mask etype : Nat) : Bool :=
  etype == 0x888E || (bitOf mask 1 && etype == 0x88F7) || (bitOf mask 2 && etype == 0x88CC)
    || (bitOf mask 3 && etype == 0x88B7)

/-- The EtherType that decides whether a frame's copies leave in the clear (R300, R420): a path probe always does, as an
MKA frame does. -/
def Frame.cipherType (f : Frame) : Nat := if f.probe then 0x888E else f.etype

/-- Under this policy a frame of this EtherType leaves in the clear: the port does not protect, or CLEAR_MASK lets it (R420, R422). -/
def leavesClear (policy : Bytes) (etype : Nat) : Bool := byteAt policy 0 != 1 || inClearMask (byteAt policy 3) etype

/-- A frame of this EtherType classified now leaves a port in the clear. -/
def State.sentClear (s : State) (p etype : Nat) : Bool := !decide (p < 25) || leavesClear (vget s.crypt.ports p).policy etype

/-- The port has an active transmit association that has not run out (R422, R425). -/
def State.txSaGood (s : State) (p : Nat) : Bool :=
  match (vget s.crypt.ports p).txSa with
  | none => false
  | some i =>
    match tget? s.crypt.sas i with
    | some a => a.state == .installed || a.state == .inUse
    | none => false

/-- Admission of one copy of `n` cells to queue (j, t) (R203). -/
def State.admitOne (s : State) (shared yellow clear : Bool) (j t n : Nat) : Admission :=
  let q := s.queue j t
  let f := s.net.buffer.free
  if j < 25 && ((s.egr j).dropping || (!clear && (s.egr j).secDropping)) then .linkDrop
  else if q.depth + n > q.caps.cap then .capDrop
  else if yellow && q.depth + n > q.caps.ycap then .yellowDrop
  else if shared && (decide ((n : Int) > f)
      || decide (((q.depth + n) * 64 : Nat) > alpha64 (vget s.net.buffer.alpha t) * f)) then .dtDrop
  else .admitted

/-- The counter of an admission outcome. -/
def Admission.ctr : Admission → QCtr
  | .admitted => .admitted
  | .linkDrop => .linkDrop
  | .capDrop => .capDrop
  | .yellowDrop => .yellowDrop
  | .dtDrop => .dtDrop

/-- The waybills of a frame. -/
def State.copiesOf (s : State) (fid : Nat) : List Waybill := s.net.waybills.filter (fun w => w.frame == fid)

/-- PROVISIONAL waybills in use (R144): those in the state, and those departing whose frame is not confirmed. -/
def State.provisional (s : State) : Nat :=
  (s.net.waybills.filter (fun w => w.state == .provisional ||
    (w.state == .departing && match s.frame? w.frame with | some f => !f.ruled | none => false))).length

/-- The low-water mark of free waybills and the high-water mark of provisional ones (R159). -/
def State.markWaybills (s : State) : State :=
  s.modNet (fun n => { n with stats := { n.stats with
    provHigh := max n.stats.provHigh s.provisional
    waybillsLow := min n.stats.waybillsLow (65536 - n.waybills.length) } })

/-- A frame whose last copy is FREE gives its cells back to their source; its record goes, unless a transmit descriptor
still waits for it (R124, R204). -/
def State.settleFrame (s : State) (fid : Nat) : State :=
  match s.frame? fid with
  | none => s
  | some f =>
    if (s.copiesOf fid).isEmpty then
      let s := s.chargeCells f.ingress f.fromReserve (-(f.cells : Int))
      if f.ring.isSome then s.modFrame fid (fun f => { f with cells := 0 })
      else if f.ruled then s.modNet (fun n => { n with frames := n.frames.filter (fun x => x.id != fid) })
      else s.modFrame fid (fun f => { f with cells := 0 })
    else s

/-- The time for which the head of a queue was held only by its shaper ends, and is counted (R237). -/
def State.endShaperHold (s : State) (p tc : Nat) : State :=
  match (s.queue p tc).shaperHeld with
  | none => s
  | some t =>
    (s.count (.queue (p * 8 + tc) .shaperHoldNs) ((s.tick - t) * 5 / 4)).modQueue p tc (fun q => { q with shaperHeld := none })

/-- A waybill becomes FREE (R142): its cells leave q of its queue, and its frame settles. The tag of a head goes with it, and the next
head takes its own (R218, R219). -/
def State.freeWaybill (s : State) (w : Waybill) : State :=
  let s := if (s.queue w.egress w.tc).waiting.head? = some w.id then
      (s.endShaperHold w.egress w.tc).modQueue w.egress w.tc (fun q => { q with tag := none })
    else s
  let s := s.modNet (fun n => { n with waybills := n.waybills.filter (fun x => x.id != w.id) })
  let s := s.modQueue w.egress w.tc (fun q => { q with waiting := q.waiting.filter (fun i => i != w.id) })
  let s := s.addDepth w.egress w.tc (-(w.cells : Int))
  s.settleFrame w.frame

/-- A copy is dropped at or before egress: the reason is kept for a transmit descriptor (R124). -/
def State.dropCopy (s : State) (w : Waybill) (ds : Nat) : State :=
  let s := s.modFrame w.frame (fun f => { f with firstDrop := if f.firstDrop.isNone then some ds else f.firstDrop })
  s.freeWaybill w

/-- At confirmation a frame's charges are corrected to its true cell count: its source once, and q of each copy (R204). -/
def State.correctCells (s : State) (fid : Nat) : State :=
  match s.frame? fid with
  | none => s
  | some f =>
    let cs := s.copiesOf fid
    if cs.isEmpty then s
    else
      let m := cellsOf f.trueLen
      let s := s.chargeCells f.ingress f.fromReserve ((m : Int) - f.cells)
      let s := s.modFrame fid (fun f => { f with cells := m })
      forAll cs (fun w s =>
        (s.addDepth w.egress w.tc ((m : Int) - w.cells)).modWaybill w.id (fun w => { w with cells := m })) s

/-- A waybill delivered: one more copy that left (R124, COPIES). -/
def State.deliverCopy (s : State) (w : Waybill) : State :=
  let s := s.modFrame w.frame (fun f => { f with copies := f.copies + 1 })
  s.freeWaybill w

/-- The state of a port's link. -/
def State.phy (s : State) (p : Nat) : Phy := vget s.net.phys p

/-- A PHY changed. -/
def State.modPhy (s : State) (p : Nat) (f : Phy → Phy) : State :=
  s.modNet (fun n => { n with phys := vmod n.phys p f })

/-- The port is up for the fabric (R307). -/
def State.linkUp (s : State) (p : Nat) : Bool := (s.phy p).link == .up

/-- What happens to a copy is counted, but not for a probe, which the counters of chapter 12 alone count (R300). -/
def State.countCopy (s : State) (w : Waybill) (c : Ctr) : State :=
  if (s.frame? w.frame).any (fun f => f.probe) then s else s.count c

/-- Waybills flushed: each becomes FREE and counts FLUSHED (R211). -/
def State.flushCopies (s : State) (p : Nat) (l : List Waybill) : State :=
  forAll l (fun w s => (s.countCopy w (.queue (p * 8 + w.tc) .flushed)).dropCopy w 5) s

/-- The flush of a port (R211): every waybill for it, whatever its state. -/
def State.flushPort (s : State) (p : Nat) : State :=
  let s := s.modEgr p (fun e => { e with holding := false, dropping := true, paused := none })
  s.flushCopies p (s.net.waybills.filter (fun w => w.egress == p))

/-- A copy of a frame leaves its port in the clear, by the policy under which its frame was classified (R420). -/
def State.copyClear (s : State) (w : Waybill) : Bool :=
  match s.frame? w.frame with
  | some f => leavesClear w.policy f.cipherType
  | none => true

/-- The waybills of a port that its cipher holds back (R425). -/
def State.protectedCopies (s : State) (p : Nat) : List Waybill :=
  s.net.waybills.filter (fun w => w.egress == p && !s.copyClear w && !w.begun)

/-- The port's active transmit association has run out: for protected copies the egress is down for LINK_HOLD (R425). -/
def State.secDown (s : State) (p : Nat) : State :=
  if (s.egr p).linkHold = 0 then
    (s.modEgr p (fun e => { e with secDropping := true })).flushCopies p (s.protectedCopies p)
  else s.modEgr p (fun e => { e with secHolding := true })

/-- Another association is active (R425). -/
def State.secUp (s : State) (p : Nat) : State := s.modEgr p (fun e => { e with secHolding := false, secDropping := false })

/-- The frame on the line and a preempted one are lost when the link goes down (R209). -/
def State.abortLine (s : State) (p : Nat) : State :=
  let e := s.egr p
  let s := s.modEgr p (fun e => { e with line := none, paused := none })
  let lose (o : Option OnLine) (s : State) : State :=
    match o with
    | none => s
    | some l =>
      match s.waybill? l.waybill with
      | none => s
      | some w => (s.countCopy w (.queue (p * 8 + w.tc) .linkAbort)).dropCopy w 5
  lose e.paused (lose e.line s)

/-- Link down at a port for the buffer (R209, R211): the frame on the line is lost; a hold of `ms` starts, and a hold of 0
flushes at once. -/
def State.egressDown (s : State) (p ms : Nat) : State :=
  let s := s.abortLine p
  if ms = 0 then s.flushPort p else s.modEgr p (fun e => { e with holding := true })

/-- Link up at a port for the buffer (R210). -/
def State.egressUp (s : State) (p : Nat) : State := s.modEgr p (fun e => { e with holding := false, dropping := false })

end Sys2Proof.Machine
end

