-- ==== Sys2Proof/Machine/Verdict.lean ====
section
/-! DEFINITION. The firewall's rulings: zones, border rules, conversations, quarantine, CAN rules and buckets, and the
generation (chapter 07 of the spec). -/

namespace Sys2Proof.Machine

/-- The Customs state changed. -/
def State.modCustoms (s : State) (f : Customs → Customs) : State :=
  { s with net := { s.net with customs := f s.net.customs } }

/-- The zone a member has without quarantine, for one VID (R166). -/
def Customs.zoneOf (c : Customs) (m vid : Nat) : Option Nat :=
  match c.matrix.zoneMap.find? (fun e => e.2.1 == m && e.2.2.1 == vid) with
  | some e => some e.2.2.2
  | none => tget? c.matrix.zones m

/-- The zone a member is ruled with: Z29 in quarantine (R182). -/
def Customs.ruledZone (c : Customs) (m vid : Nat) : Option Nat :=
  if c.quarantined.contains m then some 29 else c.zoneOf m vid

/-- A zone-pair entry (R167). -/
def Customs.pair (c : Customs) (s d : Nat) : Nat := tgetD c.matrix.pairs (s * 32 + d) 0

/-- A ternary field held least significant byte first: value at `off`, mask after it (R169). -/
def ternLe (r : Bytes) (off n : Nat) (v : Option Nat) : Bool :=
  let mask := le r (off + n) n
  match v with
  | some x => (x &&& mask) == (le r off n &&& mask)
  | none => mask == 0

/-- A ternary field held in wire order (R169). -/
def ternBe (r : Bytes) (off n : Nat) (v : Option Nat) : Bool :=
  let mask := be r (off + n) n
  match v with
  | some x => (x &&& mask) == (be r off n &&& mask)
  | none => mask == 0

/-- A value of an IP or IEEE 1722 frame; absent otherwise. -/
def ifKind (c : Bool) (v : Nat) : Option Nat := if c then some v else none

/-- A border rule is valid. -/
def ruleValid (r : Bytes) : Bool := bitOf (byteAt r 0) 0
/-- A border rule is deep. -/
def ruleDeep (r : Bytes) : Bool := bitOf (byteAt r 0) 1
/-- The rule's DST_ZONES holds a zone. -/
def ruleHasZone (r : Bytes) (d : Nat) : Bool := bitOf (le r 12 4) d

/-- The header fields of a border rule match a frame (R169); the window and DST_ZONES are judged elsewhere. -/
def ruleMatches (r : Bytes) (member srcZone vid pcp : Nat) (h : Hdr) : Bool :=
  let ip := h.l3kind == 1 || h.l3kind == 2
  ternLe r 16 1 (some member) && ternLe r 18 1 (some srcZone) && ternLe r 20 1 (some pcp)
    && ternLe r 22 1 (some h.l3kind) && ternBe r 24 2 (some vid) && ternBe r 28 2 (some h.etype)
    && ternBe r 32 6 (some h.dst) && ternBe r 44 6 (some h.src)
    && ternLe r 56 1 (ifKind (h.l3kind != 0) h.proto) && ternLe r 58 1 (ifKind ip h.dscp)
    && ternLe r 60 1 (ifKind (h.l4 && h.proto == 6) h.tcpFlags)
    && ternLe r 62 1 (some (b2n (ip && h.frag) + 2 * b2n h.sec.isSome + 4 * b2n (decide (0 < h.tags))))
    && ternBe r 64 2 (ifKind h.l4 h.sport) && ternBe r 68 2 (ifKind h.l4 h.dport)
    && ternBe r 72 16 (ifKind ip (beNat h.srcAddr)) && ternBe r 104 16 (ifKind (h.l3kind != 0) (beNat h.dstAddr))

/-- The window of a deep rule starts here (R169, R175); none where the frame has no such header. -/
def windowStart (r : Bytes) (h : Hdr) : Option Nat :=
  let off := le r 138 2
  if byteAt r 136 = 0 then some off
  else if byteAt r 136 = 1 then (if h.l3kind = 0 then none else some (h.l3off + off))
  else if h.l4 then some (h.payOff + off) else none

/-- The window of a deep rule matches (R175): its last byte within byte 272 and before the FCS, and the bytes under the
mask equal. `lim` is the number of bytes before the FCS. -/
def windowMatches (r : Bytes) (h : Hdr) (lim : Nat) (b : Bytes) : Bool :=
  match windowStart r h with
  | none => false
  | some p =>
    decide (p + 16 ≤ 272) && decide (p + 16 ≤ lim) &&
      (let mask := be r 156 16
       (be b p 16 &&& mask) == (be r 140 16 &&& mask))

/-- The conversation key of a frame (R178); none for a non-first fragment. An ICMP echo identifier stands in both port
fields, above 65,535. -/
def convKey (h : Hdr) (vid : Nat) : Option ConvKey :=
  if h.l3kind = 1 ∨ h.l3kind = 2 then
    if h.frag then none
    else
      let v6 := h.l3kind == 2
      let a := beNat h.srcAddr
      let b := beNat h.dstAddr
      if h.l4 ∧ (h.proto = 6 ∨ h.proto = 17) then some (.ip v6 a b h.proto h.sport h.dport)
      else
        let ty := h.sport / 256
        let echo := h.l4 && ((h.proto == 1 && (ty == 0 || ty == 8)) || (h.proto == 58 && (ty == 128 || ty == 129)))
        if echo then some (.ip v6 a b h.proto (65536 + h.dport) (65536 + h.dport)) else some (.ip v6 a b h.proto 0 0)
  else some (.l2 h.src h.dst h.etype vid)

/-- The key with its ends exchanged. -/
def ConvKey.reverse : ConvKey → ConvKey
  | .ip v6 a b p x y => .ip v6 b a p y x
  | .l2 a b e v => .l2 b a e v

/-- The timeout kind of a key (R180): 0 TCP, 1 UDP and other IP, 2 ICMP echo, 3 layer 2. -/
def ConvKey.kind : ConvKey → Nat
  | .ip _ _ _ p x _ => if p = 6 then 0 else if 65536 ≤ x then 2 else 1
  | .l2 .. => 3

/-- A conversation is the one that a frame from zone `s` to zone `d` with this key belongs to (R171). -/
def Conv.serves (c : Conv) (k : ConvKey) (s d : Nat) : Bool :=
  (c.key == k && c.orig == s && c.resp == d) || (c.key == k.reverse && c.orig == d && c.resp == s)

/-- conv_hit of R171. -/
def Customs.convHit (c : Customs) (k : Option ConvKey) (s d : Nat) : Bool :=
  match k with
  | none => false
  | some k => c.convs.any (fun e => e.serves k s d)

/-- The verdict for one destination zone (R171), given the matching rules of the frame in rising index. -/
def zoneVerdict (c : Customs) (matching : List (Nat × Bytes)) (k : Option ConvKey) (s d : Nat) : ZoneVerdict :=
  let e := c.pair s d
  let v : ZoneVerdict := { (default : ZoneVerdict) with zone := d }
  if e % 4 = 0 then v
  else if c.convHit k s d then { v with permit := true, convHit := true }
  else if e % 4 = 2 then v
  else if e % 4 = 3 then { v with permit := true, create := bitOf e 3 }
  else
    let here := matching.filter (fun r => ruleHasZone r.2 d)
    match here.find? (fun r => !ruleDeep r.2) with
    | some w =>
      { v with
        permit := byteAt w.2 2 == 1, winner := some w.1, quarantine := byteAt w.2 2 == 2
        create := bitOf e 3
        pending := here.filter (fun r => ruleDeep r.2 && decide (r.1 < w.1)) }
    | none =>
      { v with
        permit := bitOf e 2, create := bitOf e 3
        pending := here.filter (fun r => ruleDeep r.2) }

/-- The active border rules that match a frame's header fields, in rising index. -/
def Customs.matching (c : Customs) (member srcZone vid pcp : Nat) (h : Hdr) : List (Nat × Bytes) :=
  c.border.filter (fun r => ruleValid r.2 && ruleMatches r.2 member srcZone vid pcp h)

/-- A member enters quarantine: F26 and F27 cannot (R182, R183). Entering twice leaves one quarantine; a
host command on a quarantine of the Drover takes it over (R504). -/
def State.quarantine (s : State) (m cause rule : Nat) : State :=
  if m = 26 ∨ m = 27 then s
  else if s.net.customs.quarantined.contains m then
    (if cause = 1 then s.modCustoms (fun c => { c with byDrover := c.byDrover.filter (fun x => x != m) }) else s)
  else
    let s := s.modCustoms (fun c => { c with
      quarantined := c.quarantined ++ [m], byDrover := if cause = 2 then c.byDrover ++ [m] else c.byDrover })
    let s := s.count (.cust 0 .quarantines)
    let owner := if m < 25 then s.ownerOf 1 m else m - 32
    s.eventTwo 0 owner 0x0501 (w8 m ++ w8 cause ++ w16 rule ++ [1])

/-- A member leaves quarantine (R183). -/
def State.releaseQuarantine (s : State) (m cause : Nat) : State :=
  if s.net.customs.quarantined.contains m then
    let s := s.modCustoms (fun c => { c with
      quarantined := c.quarantined.filter (fun x => x != m), byDrover := c.byDrover.filter (fun x => x != m) })
    let owner := if m < 25 then s.ownerOf 1 m else m - 32
    s.eventTwo 0 owner 0x0501 (w8 m ++ w8 cause ++ w16 0xFFFF ++ [0])
  else s

/-- A conversation would be created and the table is full (R181). -/
def State.convLacks (s : State) (k : ConvKey) (src dst : Nat) (create : Bool) : Bool :=
  let c := s.net.customs
  create && !c.convs.any (fun e => e.serves k src dst) && decide (8192 ≤ c.convs.length)

/-- A conversation created or refreshed at confirmation (R179 to R181): `fin` is FIN or RST of a TCP frame. -/
def State.converse (s : State) (k : ConvKey) (src dst : Nat) (fin : Bool) (create : Bool) : State :=
  let c := s.net.customs
  if c.convs.any (fun e => e.serves k src dst) then
    s.modCustoms (fun c => { c with convs := c.convs.map (fun e =>
      if e.serves k src dst then { e with refreshed := s.tick, closing := e.closing || (fin && e.kind == 0) } else e) })
  else if !create || decide (8192 ≤ c.convs.length) then s
  else
    s.modCustoms (fun c => { c with convs := c.convs ++
      [{ key := k, orig := src, resp := dst, kind := k.kind, closing := fin && k.kind == 0, refreshed := s.tick }] })

/-- A frame that found the conversation table full (R181): CONV_FULL counts it, and its event comes at most once a second. -/
def State.convFullFrame (s : State) : State :=
  let s := (s.count (.cust 0 .convFull)).modCustoms (fun c => { c with convFull := c.convFull + 1 })
  let recent := match s.net.customs.convFullAt with
    | some t => decide (s.tick < t + 800000000)
    | none => false
  if recent then s
  else
    let n := s.net.customs.convFull
    (s.modCustoms (fun c => { c with convFull := 0, convFullAt := some s.tick })).event 0 0x0502 (w32 n)

/-- A CAN rule matches (R184): source, identifier under its mask, format, VCID and SDT. -/
def canRuleMatches (r : Bytes) (source id fmtBit vcid sdt : Nat) : Bool :=
  let mask := le r 8 4 % 2 ^ 30
  bitOf (byteAt r 0) 0 && (le r 2 2 == 0xFFFF || le r 2 2 == source)
    && (id % 2 ^ 30 &&& mask) == (le r 4 4 % 2 ^ 30 &&& mask)
    && bitOf (byteAt r 12) fmtBit && ternLe r 13 1 (some vcid) && ternLe r 15 1 (some sdt)

/-- A bucket after its refill up to now (R186); levels are kept in 10⁻¹² frame. A bucket that was never charged is full. -/
def bucketNow (r : Bytes) (b : Option CanBucket) (now : Nat) : Nat :=
  let full := le r 18 2 * 10 ^ 12
  match b with
  | none => full
  | some b => min full (b.level + le r 20 4 * (now - b.last))

/-- The Customs check of a frame on its way through a relay engine (R185, R186): whether it passes, with its rule's
bucket charged and the counters. -/
def State.canCheck (s : State) (source id fmtBit vcid sdt : Nat) : Bool × State :=
  let c := s.net.customs
  match c.canRules.find? (fun r => canRuleMatches r.2 source id fmtBit vcid sdt) with
  | none => (tgetD c.matrix.canDefault source 1 == 1, s)
  | some (i, r) =>
    let s := s.count (.cust i .canHits)
    if byteAt r 1 ≠ 1 then (false, s)
    else if byteAt r 17 = 0 then (true, s)
    else
      let l := bucketNow r (tget? c.buckets i) s.now
      let ok := decide (10 ^ 12 ≤ l)
      let s := s.modCustoms (fun c => { c with
        buckets := tset c.buckets i { level := if ok then l - 10 ^ 12 else l, last := s.now } })
      let s := if ok then s else s.count (.cust i .canExcess)
      (ok || byteAt r 17 == 2, s)

/-- The generation in force (R188); CUST_SWAP, ROUTE_SWAP and SCHED_SWAP_STREAM_ID increment it (R230). -/
def State.generation (s : State) : Nat := s.net.customs.gen

end Sys2Proof.Machine
end

