-- ==== Sys2Proof/Machine/Pipeline.lean ====
section
/-! DEFINITION. The classification pipelines: stages 1 to 6 from a header to waybills or a refusal (chapter 06 of the spec,
with the stages of chapters 07 to 09, 12 and 18). -/

namespace Sys2Proof.Machine

/-- A header as it is handed to its pipeline (R129). -/
structure Intake where
  /-- Ingress fabric port. -/
  port : Nat
  /-- For F25, the sending slot; otherwise 0xFF. -/
  slot : Nat
  bytes : Bytes
  /-- The frame has ended. -/
  ended : Bool
  /-- MAX_FRAME as latched (R131). -/
  maxFrame : Nat
  stamp : Nat
  stampFrac : Nat
  /-- A frame whose first mPacket is preemptable (R258). -/
  preempt : Bool
  /-- The one external port it is for (R124), where named. -/
  direct : Option Nat
  /-- The class its descriptor or its maker gives it. -/
  tc : Option Nat
  launch : Option Nat
  /-- The transmit ring it came from. -/
  ring : Option (Nat × Nat)
  /-- A one-step Sync (R283). -/
  oneStep : Bool := false
deriving DecidableEq, Repr, Inhabited

/-- The result of stages 1 to 6: a refusal, or a frame with waybills; and what the frame's end has to do. -/
structure Ruling where
  refused : Option Cause
  frame : Option Nat
  ends : EndFacts
  secCause : Nat
  mac : MacView
deriving DecidableEq, Repr, Inhabited

/-- The active forwarding record of a fabric port (R160). -/
def State.fwd (s : State) (p : Nat) : Bytes := (vget s.net.fwd p).active

/-- The member code of an ingress (R165). -/
def memberCode (port slot : Nat) : Nat := if port = 25 then 32 + slot else port

/-- The bytes known to lie before the FCS. -/
def Intake.lim (x : Intake) : Nat :=
  if 25 ≤ x.port then x.bytes.length else if x.ended then x.bytes.length - 4 else x.bytes.length

/-- The length from destination address to FCS of an ended frame. -/
def Intake.len (x : Intake) : Nat := if 25 ≤ x.port then x.bytes.length + 4 else x.bytes.length

/-- The receive association of a SecTAG (R423): by port, SCI and AN, or the single one of that AN without an SCI. A SecTAG with an
unsupported option is malformed and names none (R4, log 12). -/
def State.rxSa (s : State) (p : Nat) (t : SecTag) (states : List SaState) : Option Nat :=
  if t.odd then none
  else
  let mine := s.crypt.sas.filter (fun e =>
    byteAt e.2.record 0 == p && byteAt e.2.record 1 == 0 && byteAt e.2.record 2 == t.an && states.contains e.2.state)
  match t.sci with
  | some sci => (mine.find? (fun e => be e.2.record 8 8 == sci)).map (·.1)
  | none => match mine with
    | [e] => some e.1
    | _ => none

/-- The full packet number of a received SecTAG: for XPN suites the high half is recovered from the lowest acceptable PN.
PRESUMED of IEEE 802.1AEbw (log 12). -/
def fullPn (xpn : Bool) (lowest pn32 : Nat) : Nat :=
  if !xpn then pn32
  else
    let hi := lowest / 2 ^ 32
    let lo := lowest % 2 ^ 32
    if 2 ^ 31 ≤ lo ∧ pn32 < 2 ^ 31 then (hi + 1) * 2 ^ 32 + pn32 else hi * 2 ^ 32 + pn32

/-- What a header finds of MACsec on its port (R20, R420, R423). -/
def State.macView (s : State) (p : Nat) (h : Hdr) : MacView :=
  let named (l : List SaState) := match h.sec with
    | some t => s.rxSa p t l
    | none => none
  let i := named [.installed, .inUse]
  let pn := match h.sec with
    | some t => t.pn
    | none => 0
  let a := tgetD s.crypt.sas (i.getD 0) default
  { policy := (vget s.crypt.ports p).policy, sa := i.map (fun i => (i, fullPn (decide (2 ≤ byteAt a.record 3)) a.pn pn)), run := a.run
    stale := i.isNone && (named [.stale]).isSome }

/-- A port of this policy takes protected frames only (R420). -/
def MacView.strict (v : MacView) : Bool := byteAt v.policy 1 == 2

/-- The forwarding entry of an address and FID (R136). -/
def fdbFind (t : Tbl FdbEntry) (mac fid : Nat) : Option (Nat × FdbEntry) :=
  t.find? (fun e => e.2.mac.toNat == mac && e.2.fid == fid)

/-- Ports and slots of a port mask: bit 25 stands for the slots of the slot mask (R137). -/
def expandMask (mask slots : Nat) : List (Nat × Nat) :=
  (maskList 28 mask).flatMap (fun p => if p = 25 then (maskList 16 slots).map (fun n => (25, n)) else [(p, 0xFF)])

/-- A frame is trapped to F27, or reserved and not listed (R135): `some true` trapped, `some false` reserved. The rule traps by the
destination address or by the EtherType. EtherType 0x88F7 alone does not trap, since R282 has messages of it that are not trapped
(DEDUCED, log 74). -/
def trapOf (h : Hdr) : Option Bool :=
  if h.dst = 0x0180C200000E ∨ h.dst = 0x0180C2000003 ∨ h.dst = Config.managementMac.toNat then some true
  else if h.etype = 0x88CC ∨ h.etype = 0x888E ∨ h.etype = 0x88B7 then some true
  else if isReservedGroup h.dst then some false
  else none

/-- The destination set of stage 5 before redundancy (R135, R137), or the refusal. -/
def State.destSet (s : State) (x : Intake) (h : Hdr) (v : Vlan) : Except Cause (List (Nat × Nat)) :=
  let guard := byteAt (s.fwd x.port) 6 == 1
  let guarded := match fdbFind s.net.fdb h.src v.fid with
    | some e => !e.2.dynamic && !e.2.multicast && e.2.port != x.port
    | none => false
  if guard && guarded then .error .saGuard
  else
    match x.direct with
    | some p => .ok [(p, 0xFF)]
    | none =>
      match trapOf h with
      | some false => .error .rsvd
      | some true => .ok (if x.port = 27 then [] else [(27, 0xFF)])
      | none =>
        let all :=
          if isBroadcast h.dst then expandMask v.member v.slots
          else
            match fdbFind s.net.fdb h.dst v.fid with
            | some e =>
              if e.2.multicast then expandMask (e.2.portMask &&& v.member) e.2.slotMask
              else if bitOf v.member e.2.port then [(e.2.port, e.2.slot)] else []
            | none => expandMask (v.member &&& v.flood) v.slots
        .ok (all.filter (fun d => if x.port = 25 then !(d.1 == 25 && d.2 == x.slot) else d.1 != x.port))

/-- The active backbone member as an egress port (R296, R298). -/
def Red.activePort (r : Red) : Nat := if r.onB then 1 else 0

/-- The enabled generator that serves a frame (R290). -/
def State.generatorOf (s : State) (port : Nat) (handle : Option Nat) : Option (Nat × Generator) :=
  if port ≤ 1 then none
  else match handle with
    | none => none
    | some w => s.net.red.gens.find? (fun g => g.2.enabled && le g.2.record 0 2 == w)

/-- The enabled recovery instance that takes a frame, with its run (R288, R292). -/
def State.recoveryOf (s : State) (port : Nat) (handle : Option Nat) : Option (Nat × Nat) :=
  if 1 < port then none
  else match handle with
    | none => none
    | some w => (s.net.red.recs.find? (fun g => g.2.enabled && le g.2.record 0 2 == w)).map (fun g => (g.1, g.2.run))

/-- A run of a recovery instance: the present one, or one that has ended while its frames are on their way (R288). -/
def State.recoveryRun (s : State) (x : Nat × Nat) : Recovery :=
  let r := tgetD s.net.red.recs x.1 default
  if r.run = x.2 then r
  else ((s.net.red.retired.find? (fun e => e.1 == x.1 && e.2.run == x.2)).map (·.2)).getD r

/-- Backbone protection acts on a frame: it is enabled, and no generator has tagged the frame (R296). -/
def State.protects (s : State) (gen : Option (Nat × Generator)) : Bool := gen.isNone && s.net.red.state != .disabled

/-- The destination set after replication or protection (R290, R296). -/
def State.redundant (s : State) (gen : Option (Nat × Generator)) (l : List (Nat × Nat)) : List (Nat × Nat) :=
  let has := l.any (fun d => decide (d.1 ≤ 1))
  if !has then l
  else
    let rest := l.filter (fun d => !decide (d.1 ≤ 1))
    match gen with
    | some g =>
      if byteAt g.2.record 2 = 1 then (0, 0xFF) :: (1, 0xFF) :: rest else l
    | none => if s.protects gen then (s.net.red.activePort, 0xFF) :: rest else l

/-- One copy of a frame on its way to a waybill. -/
structure Copy where
  code : Nat
  port : Nat
  slot : Nat
  zone : Option Nat
  tc : Nat
  mirror : Option Nat
deriving DecidableEq, Repr, Inhabited

/-- Copies in order of member code (R207): ports, then F26 and F27, then slots. -/
def orderCopies (l : List Copy) : List Copy :=
  (List.range 48).flatMap (fun c => (l.filter (fun x => x.code == c)).take 1)

/-- A waybill of one admitted copy (R142 to R148, R203). -/
def State.newWaybill (s : State) (fr : Frame) (c : Copy) (st : WbState) (untagged : Nat) (cut : Bool) (n : Nat)
    (seq : Option Nat) : State :=
  let q := s.queue c.port c.tc
  let w : Waybill :=
    { id := s.net.nextWaybill, frame := fr.id, ingress := fr.ingress, egress := c.port, slot := c.slot, tc := c.tc
      state := st, tagged := !bitOf untagged c.port, cut := cut, mirror := c.mirror, crossed := 0, begun := false
      stomp := false, cells := n
      launch := if c.port < 25 && q.timing.launchEn then fr.launch else none
      since := s.now, addRtag := if c.port ≤ 1 then seq else none, missed := none, heldNoSa := false, left := false
      policy := (vget s.crypt.ports c.port).policy }
  let s := s.modNet (fun x => { x with waybills := x.waybills ++ [w], nextWaybill := x.nextWaybill + 1 })
  let s := s.addDepth c.port c.tc n
  if w.launch.isSome then s.modFrame fr.id (fun f => { f with launchUsed := true }) else s

/-- Cut-through conditions that hold at stage 6 for one copy (R148, R258, R292). -/
def State.cutThrough (s : State) (x : Intake) (recovery : Option (Nat × Nat)) (c : Copy) : Bool :=
  decide (x.port < 25) && decide (c.port < 25) && !x.preempt && recovery.isNone
    && bitOf (byteAt (s.fwd c.port) 7) c.tc && decide ((s.phy c.port).rate ≤ (s.phy x.port).rate)
    && !(s.queue c.port c.tc).timing.launchEn

/-- Stage 6: convoy limit, admission per copy, waybills (R143, R144, R203, R207). `fr` is the frame record to be. -/
def State.intake (s : State) (x : Intake) (fr : Frame) (copies mirrors : List Copy) (untagged : Nat)
    (seq : Option Nat) : Option Cause × State :=
  let made := copies.take 28
  let s := s.count (.pol x.port .convoyLimit) (copies.length - made.length)
  let mm := mirrors.take (28 - made.length)
  let s := s.count (.cust 0 .mirrorLost) (mirrors.length - mm.length)
  let all := made ++ mm
  let n := cellsOf fr.est
  let reserve := decide (vget s.net.buffer.usedRes x.port + n ≤ vget s.net.buffer.reserve x.port)
  let step := fun (a : List Copy × State × List (Nat × Nat)) (c : Copy) =>
    let extra : Nat := ((a.2.2.filter (fun e => e.1 == c.port * 8 + c.tc)).map (·.2)).foldl (fun (x y : Nat) => x + y) 0
    let s1 := a.2.1.addDepth c.port c.tc extra
    let r := s1.admitOne (!reserve) fr.yellow (s.sentClear c.port fr.etype) c.port c.tc n
    let s2 := a.2.1.count (.queue (c.port * 8 + c.tc) r.ctr)
    match r with
    | .admitted => (a.1 ++ [c], s2, a.2.2 ++ [(c.port * 8 + c.tc, n)])
    | _ => (a.1, s2, a.2.2)
  let r := all.foldl step (([] : List Copy), s, ([] : List (Nat × Nat)))
  let kept := r.1
  let s := r.2.1
  if kept.isEmpty then (some .admission, s)
  else if 65536 - s.net.waybills.length < kept.length then (some .noWaybill, s)
  else
    let whole := 25 ≤ x.port
    let heldAhead := s.net.waybills.any (fun w => w.ingress == x.port && w.state == .held)
    let prov := !heldAhead && decide (s.provisional + kept.length ≤ 512)
    let st : WbState := if whole then .confirmed else if prov then .provisional else .held
    let s := if !whole && !prov then
        let s := s.count (.port x.port .held)
        s.modNet (fun y => { y with stats := { y.stats with heldFrames := y.stats.heldFrames + 1 } })
      else s
    let s := s.chargeCells x.port reserve n
    let s := s.modNet (fun y => { y with
      frames := y.frames ++ [{ fr with
        cells := n, fromReserve := reserve
        firstDrop := if fr.firstDrop.isNone && decide (kept.length < all.length) then some 2 else fr.firstDrop }], nextFrame := y.nextFrame + 1 })
    let s := forAll kept (fun c s =>
      s.newWaybill fr c st untagged (st == .provisional && s.cutThrough x fr.recovery c) n seq) s
    (none, s.markWaybills)

/-- Distinct elements in order of first occurrence. -/
def distinct (l : List Nat) : List Nat := l.foldl (fun a x => if a.contains x then a else a ++ [x]) []

/-- The mirror copies that the winners ask for, one for each distinct MIRROR_MEMBER, and how many of those members are slots without a
zone, to which none is made (R115, R173). Under protection both backbones are the active one (R296, log 75). -/
def mirrorCopies (c : Customs) (vid : Nat) (active : Option Nat) (winners : List (Nat × Bytes)) : List Copy × Nat :=
  let member (w : Nat × Bytes) : Nat := if byteAt w.2 6 ≤ 1 then active.getD (byteAt w.2 6) else byteAt w.2 6
  let asking := winners.filter (fun w => bitOf (byteAt w.2 3) 1)
  let members := distinct (asking.map member)
  let lost := members.filter (fun m => decide (32 ≤ m) && (c.zoneOf m vid).isNone)
  ((members.filter (fun m => !lost.contains m)).filterMap (fun m =>
    (asking.find? (fun w => member w == m)).map (fun w =>
      { code := m, port := if 32 ≤ m then 25 else m, slot := if 32 ≤ m then m - 32 else 0xFF
        zone := none, tc := byteAt w.2 5 % 8, mirror := some w.1 })), lost.length)

/-- The final verdict of a zone from its pending deep rules (R176): the lowest-indexed rule whose window matched. -/
def ZoneVerdict.resolve (v : ZoneVerdict) (hits : List Nat) : Bool × Option Nat × Bool :=
  match v.pending.find? (fun r => hits.contains r.1) with
  | some r => (byteAt r.2 2 == 1, some r.1, byteAt r.2 2 == 2)
  | none => (v.permit, v.winner, v.quarantine)

/-- The deep rules of a frame whose window matches (R175, R176). -/
def deepHitsOf (zs : List ZoneVerdict) (h : Hdr) (lim : Nat) (b : Bytes) : List Nat :=
  distinct (zs.flatMap (fun z => (z.pending.filter (fun r => windowMatches r.2 h lim b)).map (·.1)))

/-- A copy to this zone is kept at stage 6 (R172, R176). -/
def ZoneVerdict.kept (z : ZoneVerdict) : Bool := z.permit || !z.pending.isEmpty

/-- The zones of kept copies that the final verdict denies (R176). -/
def deniedZones (zs : List ZoneVerdict) (hits : List Nat) : List ZoneVerdict :=
  zs.filter (fun z => z.kept && !(z.resolve hits).1)

/-- The rule with verdict QUARANTINE among those that deny a frame in the end (R182). -/
def deepQuarantine (zs : List ZoneVerdict) (hits : List Nat) : Option Nat :=
  ((deniedZones zs hits).filter (fun z => (z.resolve hits).2.2)).head?.bind (fun z => (z.resolve hits).2.1)

/-- The zone-pair counters of a frame once its deep rules are known: a copy kept for them and then denied counts as DENIED (R191). -/
def settleCust (src : Nat) (zs : List ZoneVerdict) (hits : List Nat) (l : List (Nat × CustCtr)) : List (Nat × CustCtr) :=
  l.map (fun k =>
    if k.2 == .permitted && (deniedZones zs hits).any (fun z => src * 32 + z.zone == k.1) then (k.1, .denied) else k)

/-- Stages 1 to 6 for a header (R129). A refused frame leaves no charge; an accepted one has its waybills. -/
def State.classify (s : State) (x : Intake) : Ruling × State :=
  let e0 : EndFacts := default
  let h := parse false x.lim x.bytes
  -- stage 1: MACsec (R423)
  let mac := s.macView x.port h
  let strict := decide (x.port < 25) && mac.strict
  let no (c : Cause) (e : EndFacts) (sec : Nat) : Ruling :=
    { refused := some c, frame := none, ends := e, secCause := sec, mac := mac }
  if decide (x.port < 25) && !strict && h.sec.isSome then (no .macsec e0 4, s)
  else if strict && h.sec.isNone && !inClearMask (byteAt mac.policy 3) h.etype then (no .macsec e0 3, s)
  else
  -- stage 2: VLAN (R132, R134)
  let cfg := s.fwd x.port
  let tagged := decide (0 < h.tags)
  let tvid := h.tci % 4096
  let prio := tagged && tvid == 0
  let vid := if tagged && !prio then tvid else le cfg 0 2
  let acc := byteAt cfg 2
  let admitted := acc == 0 || (acc == 1 && tagged && !prio) || (acc == 2 && (!tagged || prio))
  let v := tgetD s.net.vlans vid default
  -- a trapped frame goes to F27 whatever the VLAN says (R135)
  if trapOf h != some true && (!admitted || vid == 4095 || (byteAt cfg 3 == 1 && !bitOf v.member x.port) || !v.valid) then
    (no .vlan e0 0, s)
  else
  let pcp := if tagged then h.tci / 8192 else 0
  let dei := tagged && h.tci.testBit 12
  let tc0 := match x.tc with
    | some t => t
    | none => if tagged then bitsOf (le cfg 8 4) (3 * pcp) 3 else byteAt cfg 4
  -- stage 3: source zone and matching rules (R171)
  let cu := s.net.customs
  let member := memberCode x.port x.slot
  let src := (cu.ruledZone member vid).getD 32
  let matching := cu.matching member src vid pcp h
  let key := convKey h vid
  -- stage 4: stream identification, filter, gate (R229 to R233)
  let hs := if x.port ≤ 1 then parse true x.lim x.bytes else h
  let se := streamEntry s.net.streamIds.active x.port vid hs
  let handle := se.map (·.2)
  let fi := s.net.filters.find? (fun f => filterGoverns f.2.active handle (if tagged then pcp else byteAt cfg 4))
  let fMax := match fi with | some f => le f.2.active 6 2 | none => 0
  let est := if x.ended then x.len
    else (headerEstimate x.bytes h).getD (if fMax ≠ 0 then fMax else x.maxFrame)
  let e1 : EndFacts := match fi with
    | some f => { e0 with pol := [(f.1, .matched)] }
    | none => e0
  let gi := match fi with | some f => byteAt f.2.active 5 | none => 0xFF
  let gate := if gi < 64 then (vget s.net.sgates gi).stateAt x.stamp else (true, 0xFF)
  let blocked := match fi with | some f => f.2.blocked | none => false
  if blocked then
    (no .stream { e1 with pol := e1.pol ++ (match fi with | some f => [(f.1, .blockedDrop)] | none => []) } 0, s)
  else if !gate.1 then
    let s := s.modNet (fun n => { n with sgates := vmod n.sgates gi (fun g =>
      { g with shut := g.shut || (match g.active with | some l => l.closeOnInvalid | none => false) }) })
    (no .stream { e1 with pol := e1.pol ++ (match fi with
      | some f => [(f.1, .gateDrop), (gi, .closedDrop)]
      | none => []) } 0, s)
  else if fMax ≠ 0 ∧ fMax < est then
    (no .stream { e1 with
      pol := e1.pol ++ (match fi with | some f => [(f.1, .sduDrop)] | none => [])
      block := match fi with
        | some f => if bitOf (byteAt f.2.active 0) 1 then some f.1 else none
        | none => none } 0, s)
  else
  let tc1 := match fi with
    | some f => if bitOf (byteAt f.2.active 0) 2 then byteAt f.2.active 1 % 8 else tc0
    | none => tc0
  let tc2 := if gate.2 < 8 then gate.2 else tc1
  -- stage 5: destination set (R135, R137, R142), replication and protection (R290, R296)
  let ds := s.destSet x h v
  let gen := s.generatorOf x.port handle
  let set := match ds with
    | .ok l => s.redundant gen l
    | .error _ => []
  let raw : List Copy := orderCopies (set.map (fun d =>
    { code := memberCode d.1 d.2, port := d.1, slot := d.2, zone := cu.ruledZone (memberCode d.1 d.2) vid
      tc := tc2, mirror := none }))
  let zonesOf := distinct (raw.filterMap (·.zone))
  let verdicts := zonesOf.map (fun d => zoneVerdict cu matching key src d)
  -- a whole frame of the device itself is ruled in full at once (R18)
  let whole := decide (25 ≤ x.port)
  let hits := if whole then deepHitsOf verdicts h x.lim x.bytes else []
  let zv (c : Copy) : Option ZoneVerdict := match c.zone with
    | some d => verdicts.find? (fun z => z.zone == d)
    | none => none
  let keep (c : Copy) : Bool := match zv c with
    | some z => z.kept
    | none => false
  let kept0 := raw.filter keep
  let ruleOf (i : Nat) : Bytes := tgetD cu.border i []
  let winners := (distinct ((kept0.filterMap zv).filterMap (·.winner))).map (fun i => (i, ruleOf i))
  let winners := (matching.filter (fun r => winners.any (fun w => w.1 == r.1)))
  let low := winners.head?
  let kept := kept0.map (fun c => match (zv c).bind (·.winner) with
    | some i => if bitOf (byteAt (ruleOf i) 3) 2 then { c with tc := byteAt (ruleOf i) 4 % 8 } else c
    | none => c)
  let counts : List (Nat × CustCtr) := raw.flatMap (fun c => match c.zone, zv c with
    | some d, some z => (src * 32 + d, if keep c then .permitted else .denied) ::
        (if z.convHit then [(src * 32 + d, .convHits)] else [])
    | _, _ => [])
  let lowZone := (List.range 32).find? (fun d => zonesOf.contains d)
  let lowV := lowZone.bind (fun d => verdicts.find? (fun z => z.zone == d))
  let quar := ((raw.filterMap zv).filter (fun z => z.quarantine && z.pending.isEmpty)).head?.bind (·.winner)
  let denied := whole && !(deniedZones verdicts hits).isEmpty
  let e2 : EndFacts := { e1 with
    hit := match lowV with
      | some z => if z.pending.isEmpty then z.winner else if whole then (z.resolve hits).2.1 else none
      | none => none
    quarantine := if denied then (deepQuarantine verdicts hits).orElse (fun _ => quar) else quar
    cust := if whole then settleCust src verdicts hits counts else counts }
  -- stage 4: meters, with the rule meter of the lowest-indexed winner (R173, R225)
  let m1 := match fi with
    | some f => if le f.2.active 8 2 < 1024 then some (le f.2.active 8 2) else none
    | none => none
  let m2 := match low with
    | some w => if bitOf (byteAt w.2 3) 0 then some (le w.2 8 2 % 1024) else none
    | none => none
  let c1 := match m1 with
    | some m => let r := s.chargeMeter m dei est; (r.1, r.2.1.toList, r.2.2)
    | none => (0, ([] : List Charge), s)
  let s := c1.2.2
  let c2 := match m2 with
    | some m => let r := s.chargeMeter m dei est; (r.1, r.2.1.toList, r.2.2)
    | none => (0, ([] : List Charge), s)
  let s := c2.2.2
  let charges := c1.2.1 ++ c2.2.1
  let colour := max c1.1 c2.1
  if colour = 2 then
    let red := (if c1.1 = 2 then m1 else m2).getD 0
    (no .meter { e2 with cust := [], pol := e2.pol ++ [(red, .redFrames)] } 0, s.refundAll charges)
  else
  match ds with
  | .error c => (no c { e2 with cust := [], hit := none } 0, s.refundAll charges)
  | .ok _ =>
    if raw.isEmpty then (no .noDest { e2 with hit := none } 0, s.refundAll charges)
    else
    -- stage 6 (R172, R173, R203)
    let mir := mirrorCopies cu vid (if s.protects gen then some s.net.red.activePort else none) winners
    let s := s.count (.cust 0 .mirrorLost) mir.2
    -- a whole frame that a deep rule denies in any zone is refused for every member (R176)
    if kept.isEmpty || denied then (no .customs e2 0, s.refundAll charges)
    else
    let s := match gen with
      | some g =>
        let s := s.count (.red g.1 .generated)
        s.modNet (fun n => { n with red := { n.red with
          gens := tmod n.red.gens g.1 default (fun y => { y with next := (y.next + 1) % 65536 }) } })
      | none => s
    let seq := gen.map (fun g => g.2.next)
    let recov := s.recoveryOf x.port handle
    let fr : Frame := { (default : Frame) with
      id := s.net.nextFrame, ingress := x.port, slot := x.slot, bytes := x.bytes, stamp := x.stamp
      stampFrac := x.stampFrac, ended := x.ended, gen := s.generation, est := est, vid := vid, fid := v.fid, pcp := pcp
      tagged := tagged, dei := dei, srcZone := src, yellow := colour == 1, charges := charges, handle := handle
      etype := h.etype, key := key, fin := h.l4 && h.proto == 6 && (h.tcpFlags.testBit 0 || h.tcpFlags.testBit 2)
      learnLimit := le cfg 12 2
      blockOver := match fi with | some f => bitOf (byteAt f.2.active 0) 1 | none => false
      streamEntry := se.map (·.1), filter := fi.map (·.1), maxSdu := fMax, zones := verdicts, deepHits := hits
      deepDone := whole
      learn := byteAt cfg 5 == 1 && v.learn && decide (x.port ≤ 25) && !isGroup h.src
      firstDrop := if kept.length < raw.length then some 1 else none
      genSeq := seq, recovery := recov, rtag := hs.rtag.orElse (fun _ => h.rtag), launch := x.launch, ring := x.ring, oneStep := x.oneStep
      wantStamp := match low with | some w => bitOf (byteAt w.2 3) 3 | none => false
      mac := mac, secCause := if strict && h.sec.isSome && mac.sa.isNone then 2 else 0, ends := e2 }
    let a := s.intake x fr kept mir.1 v.untagged seq
    match a.1 with
    | some c => (no c e2 0, a.2.refundAll charges)
    | none => ({ refused := none, frame := some fr.id, ends := e2, secCause := 0, mac := mac }, a.2)

end Sys2Proof.Machine
end

