-- ==== Sys2Proof/Machine/Confirm.lean ====
section
/-! DEFINITION. Confirmation and revocation of frames (chapter 06 of the spec): outcome counters, learning, conversations,
elimination, replay windows, meter corrections, and the frames that the device hands to its pipelines whole. -/

namespace Sys2Proof.Machine

/-- The outcome counter of a cause (R157, R158). -/
def Cause.ctr : Cause → PortCtr
  | .runt => .runt
  | .truncated => .truncated
  | .fcs => .fcsErr
  | .oversize => .oversize
  | .macsec => .macsecFail
  | .vlan => .vlanDrop
  | .customs => .customsDrop
  | .stream => .streamDrop
  | .meter => .meterDrop
  | .rsvd => .rsvdDrop
  | .saGuard => .saGuard
  | .noDest => .noDest
  | .admission => .admission
  | .noWaybill => .noWaybill

/-- Causes 1 to 4 of R150, and RUNT: the frame was noise, and no ruling on it counts (R158, R177). -/
def Cause.noise : Cause → Bool
  | .runt | .truncated | .fcs | .oversize | .macsec => true
  | _ => false

/-- The counter of a MACSEC_FAIL (R423): 0 bad ICV, 1 replay, 2 no SA, 3 untagged, 4 tagged while DISABLED. -/
def macsecCtr (k : Nat) : CryptCtr :=
  if k = 0 then .rxBadIcv else if k = 1 then .rxReplay else if k = 2 then .rxNoSa else if k = 3 then .rxUntagged
  else .rxTaggedDisabled

/-- A frame that ends under a cause is counted in its outcome counter, and a MACSEC_FAIL in its cause counter (R158,
R423). -/
def State.countOutcome (s : State) (p : Nat) (c : Cause) (sec : Nat) : State :=
  let s := s.count (.port p c.ctr)
  if c = .macsec ∧ p < 25 then s.count (.crypt p (macsecCtr sec)) else s

/-- A frame refused because its association is stale counts STALE_USE (R425, R456). -/
def State.countStale (s : State) (v : MacView) (c : Cause) (sec : Nat) : State :=
  if c = .macsec ∧ sec = 2 ∧ v.stale then s.count (.key .staleUse) else s

/-- What a ruling does at the end of a frame without causes 1 to 4 (R158, R177, R182, R232, R237). -/
def State.applyEnds (s : State) (ingress slot : Nat) (e : EndFacts) : State :=
  let s := match e.hit with | some r => s.count (.cust r .ruleHits) | none => s
  let s := forAll e.cust (fun k s => s.count (.cust k.1 k.2)) s
  let s := forAll e.pol (fun k s => s.count (.pol k.1 k.2)) s
  let s := match e.block with
    | some i => s.modNet (fun n => { n with filters := tmod n.filters i default (fun f => { f with blocked := true }) })
    | none => s
  match e.quarantine with
  | some r => s.quarantine (memberCode ingress slot) 0 r
  | none => s

/-- A refused frame's end: its outcome, and its ruling unless it was noise. -/
def State.countRefused (s : State) (p slot : Nat) (c : Cause) (sec : Nat) (e : EndFacts) : State :=
  let s := s.countOutcome p c sec
  if c.noise then s else s.applyEnds p slot e

/-! Learning (R139, R140, R296). -/

/-- Dynamic entries of a port. -/
def dynamicOn (t : Tbl FdbEntry) (p : Nat) : Nat := (t.filter (fun e => e.2.dynamic && e.2.port == p)).length

/-- The bucket of an address and FID (R136). -/
def fdbBucket (mac fid : Nat) : Nat := Config.fdbHash (BitVec.ofNat 48 mac) (BitVec.ofNat 12 fid) % 2048

/-- The lowest free way of a bucket. DESIGN CHOICE (log 13): the spec does not say which free way is taken. -/
def freeWay (t : Tbl FdbEntry) (bucket : Nat) : Option Nat :=
  ((List.range 8).map (fun w => bucket * 8 + w)).find? (fun i => (tget? t i).isNone)

/-- The FDB changed. -/
def State.modFdb (s : State) (f : Tbl FdbEntry → Tbl FdbEntry) : State := s.modNet (fun n => { n with fdb := f n.fdb })

/-- The source of a confirmed frame is learned or refreshed (R139). -/
def State.learnSource (s : State) (f : Frame) : State :=
  let p := if f.ingress ≤ 1 ∧ s.net.red.state ≠ .disabled then 0 else f.ingress
  let mac := be f.bytes 6 6
  let entry : FdbEntry :=
    { mac := BitVec.ofNat 48 mac, fid := f.fid, dynamic := true, multicast := false, port := p, slot := f.slot
      portMask := 0, slotMask := 0, refreshed := s.tick }
  match fdbFind s.net.fdb mac f.fid with
  | some (i, e) =>
    if !e.dynamic then s
    else if e.port ≠ p ∧ f.learnLimit ≤ dynamicOn s.net.fdb p then s.count (.port f.ingress .learnRefused)
    else s.modFdb (fun t => tset t i entry)
  | none =>
    match freeWay s.net.fdb (fdbBucket mac f.fid) with
    | none => s.count (.port f.ingress .learnFull)
    | some i =>
      if f.learnLimit ≤ dynamicOn s.net.fdb p then s.count (.port f.ingress .learnRefused)
      else s.modFdb (fun t => tset t i entry)

/-! Sequence recovery (R292 to R294). -/

/-- The outcome of a recovery decision. -/
inductive Recovered where
  | pass | eliminate | rogue | outOfOrder
deriving DecidableEq, Repr

/-- The 0 bits of a history that a shift by `d` carries beyond bit `len - 1` (R294). -/
def lostBits (hist len d : Nat) : Nat := ((List.range len).filter (fun k => decide (len ≤ k + d) && !hist.testBit k)).length

/-- The recovery algorithms of R294 for a sequence number: the instance after it, the outcome, and LOST counted. -/
def Recovery.decide (r : Recovery) (seq : Nat) : Recovery × Recovered × Nat :=
  let len := byteAt r.record 3
  if r.takeAny then ({ r with r := seq, history := 1, takeAny := false }, .pass, 0)
  else if byteAt r.record 2 = 1 then
    if seq = r.r then (r, .eliminate, 0) else ({ r with r := seq }, .pass, 0)
  else
    let d := signedOf 16 (toTwos 16 ((seq : Int) - r.r))
    if (len : Int) ≤ d ∨ d ≤ -(len : Int) then (r, .rogue, 0)
    else if 0 < d then
      let n := d.toNat
      ({ r with r := seq, history := (r.history * 2 ^ n + 1) % 2 ^ len }, .pass, lostBits r.history len n)
    else
      let k := (-d).toNat
      if r.history.testBit k then (r, .eliminate, 0)
      else ({ r with history := r.history + 2 ^ k }, .outOfOrder, 0)

/-- A run of a recovery instance changed. -/
def State.modRec (s : State) (x : Nat × Nat) (f : Recovery → Recovery) : State :=
  s.modNet (fun n => { n with red :=
    if (tgetD n.red.recs x.1 default).run = x.2 then { n.red with recs := tmod n.red.recs x.1 default f }
    else { n.red with retired := n.red.retired.map (fun e => if e.1 == x.1 && e.2.run == x.2 then (e.1, f e.2) else e) } })

/-- The recovery decision on a frame at its confirmation (R292, R293): whether it is eliminated. -/
def State.recover (s : State) (f : Frame) : Bool × State :=
  match f.recovery with
  | none => (false, s)
  | some i =>
    let x := 256 + i.1
    let r := s.recoveryRun i
    match f.rtag with
    | none =>
      if bitOf (byteAt r.record 6) 0 then (false, s) else (true, s.count (.red x .tagless))
    | some q =>
      let d := r.decide q
      let s := s.modRec i (fun _ => d.1)
      let s := s.count (.red x .lost) d.2.2
      match d.2.1 with
      | .pass => (false, s.count (.red x .passed))
      | .outOfOrder => (false, (s.count (.red x .passed)).count (.red x .outOfOrder))
      | .rogue => (true, (s.count (.red x .eliminated)).count (.red x .rogue))
      | .eliminate => (true, s.count (.red x .eliminated))

/-! Confirmation. -/

/-- The data of the events CRYPT_PN_THRESHOLD and CRYPT_EXHAUSTED (R437). -/
def cryptEventData (a port remaining : Nat) : Bytes := w16 a ++ w8 port ++ zeros 5 ++ w64 remaining

/-- The last PN of an association (R425). -/
def Sa.lastPn (a : Sa) : Nat := if 2 ≤ byteAt a.record 3 then 2 ^ 64 - 1 else 2 ^ 32 - 1

/-- A secure association changed. -/
def State.modSa (s : State) (i : Nat) (f : Sa → Sa) : State :=
  { s with crypt := { s.crypt with sas := tmod s.crypt.sas i default f } }

/-- An installation of an association: the present one, or one that frames on their way still name (R20). -/
def State.saRun (s : State) (i run : Nat) : Sa :=
  let a := tgetD s.crypt.sas i default
  if a.run = run then a
  else ((s.crypt.retired.find? (fun e => e.1 == i && e.2.run == run)).map (·.2)).getD a

/-- An installation of an association changed. -/
def State.modSaRun (s : State) (i run : Nat) (f : Sa → Sa) : State :=
  if (tgetD s.crypt.sas i default).run = run then s.modSa i f
  else { s with crypt := { s.crypt with
    retired := s.crypt.retired.map (fun e => if e.1 == i && e.2.run == run then (e.1, f e.2) else e) } }

/-- A frame on its way names this installation (R20). -/
def State.saNamed (s : State) (i run : Nat) : Bool :=
  let names (v : MacView) : Bool := v.run == run && v.sa.any (fun x => x.1 == i)
  s.net.frames.any (fun f => names f.mac) || s.net.rx.toList.any (fun x => names x.mac)

/-- An association is deleted or written anew: its installation stays while frames on their way name it (R20). -/
def State.retireSa (s : State) (i : Nat) : State :=
  { s with crypt := { s.crypt with
    retired := (s.crypt.retired ++ [(i, tgetD s.crypt.sas i default)]).filter (fun e => s.saNamed e.1 e.2.run) } }

/-- A frame that passes STRICT moves the lowest acceptable PN of its association; the last PN exhausts it (R423, R425). -/
def State.moveReplay (s : State) (p : Nat) (v : MacView) (i pn : Nat) : State :=
  let last := decide (pn = (s.saRun i v.run).lastPn)
  let s := s.modSaRun i v.run (fun a => { a with
    pn := max a.pn (pn + 1 - le v.policy 4 4)
    state := if last then .exhausted else if a.state = .installed then .inUse else a.state })
  if last then s.eventTwo (s.ownerOf 1 p) 0 0x0D02 (cryptEventData i p 0) else s

/-- A transmit association gives its next PN (R422, R425): the first of it makes it IN_USE and the last one EXHAUSTED; at its
threshold CRYPT_PN_THRESHOLD is given once. The PN, and whether it was the last. Events go to `owner` and to S0. -/
def State.usePn (s : State) (i p owner : Nat) : (Nat × Bool) × State :=
  let a := tgetD s.crypt.sas i default
  let n := a.pn
  let last := a.lastPn
  let left := last - n
  let th0 := le a.record 40 8
  let th := if th0 = 0 then (if 2 ≤ byteAt a.record 3 then 2 ^ 30 else 2 ^ 16) else th0
  let warn := !a.warned && decide (left ≤ th)
  let s := s.modSa i (fun a => { a with
    pn := n + 1, warned := a.warned || warn, state := if n = last then .exhausted else .inUse })
  let s := if warn then s.eventTwo owner 0 0x0D01 (cryptEventData i p left) else s
  let s := if warn && decide (p < 25) then s.sendMka p else s
  ((n, n == last), if n = last then s.eventTwo owner 0 0x0D02 (cryptEventData i p 0) else s)

/-- Receive counters of a confirmed frame (R157): its frames, bytes and address kind. -/
def State.countRx (s : State) (f : Frame) : State :=
  let dst := be f.bytes 0 6
  let s := s.count (.port f.ingress .rxFrames)
  let s := s.count (.port f.ingress .rxBytes) f.trueLen
  s.count (.port f.ingress (if isBroadcast dst then .rxBcast else if isGroup dst then .rxMcast else .rxUcast))

/-- The zones of the copies a frame still has at stage 6. -/
def Frame.keptZones (f : Frame) : List ZoneVerdict := f.zones.filter (·.kept)

/-- A final verdict denies a zone of the frame, which takes it from every member (R176). -/
def Frame.deepDenied (f : Frame) : Bool := !(deniedZones f.zones f.deepHits).isEmpty

/-- The rule whose hit is counted (R177): that of the final verdict of the lowest destination zone. -/
def Frame.finalHit (f : Frame) : Option Nat :=
  match (List.range 32).find? (fun d => f.zones.any (fun z => z.zone == d)) with
  | none => none
  | some d =>
    match f.zones.find? (fun z => z.zone == d) with
    | some z => if z.pending.isEmpty then f.ends.hit else (z.resolve f.deepHits).2.1
    | none => none

/-- The waybills of a confirmed frame become CONFIRMED together (R142). -/
def State.confirmWaybills (s : State) (fid : Nat) : State :=
  s.modNet (fun n => { n with waybills := n.waybills.map (fun w =>
    if w.frame == fid && (w.state == .provisional || w.state == .held) then { w with state := .confirmed } else w) })

/-- The copies of a frame that leave without having begun egress become FREE; those on the line are stomped (R151,
R155). -/
def State.revokeCopies (s : State) (fid : Nat) : State :=
  forAll (s.copiesOf fid) (fun w s =>
    if w.begun then s.modWaybill w.id (fun w => { w with stomp := true }) else s.freeWaybill w) s

/-- The conversations of a confirmed frame (R179): one per kept copy's zone. A frame for which one is missing in a full table counts
once (R181). -/
def State.converseAll (s : State) (f : Frame) : State :=
  match f.key with
  | none => s
  | some k =>
    let full := f.keptZones.any (fun z => s.convLacks k f.srcZone z.zone z.create)
    let s := forAll f.keptZones (fun z s => s.converse k f.srcZone z.zone f.fin z.create) s
    if full then s.convFullFrame else s

/-- The counters of a frame's meters when it is confirmed (R237). -/
def State.countMeters (s : State) (f : Frame) : State :=
  forAll f.charges (fun c s =>
    if c.green then (s.count (.pol c.meter .greenFrames)).count (.pol c.meter .greenBytes) f.trueLen
    else (s.count (.pol c.meter .yellowFrames)).count (.pol c.meter .yellowBytes) f.trueLen) s

/-- The frame is trapped to F27 (R135). -/
def Frame.trapped (f : Frame) : Bool :=
  trapOf { (default : Hdr) with dst := be f.bytes 0 6, etype := f.etype } == some true

/-- A frame is confirmed (R150, R151, R293): waybills, learning, conversations, meter correction, replay window,
statistics; a frame that its recovery instance eliminates is counted as received and otherwise leaves as if revoked. -/
def State.confirmFrame (s : State) (fid : Nat) : State :=
  match s.frame? fid with
  | none => s
  | some f =>
    let s := s.countRx f
    let s := if f.ingress < 25 ∧ !f.trapped then s.stir else s
    let s := s.applyEnds f.ingress f.slot { f.ends with hit := f.finalHit }
    let e := s.recover f
    let s := e.2.modFrame fid (fun f => { f with ruled := true, confirmed := !e.1, eliminated := e.1 })
    let s := s.correctCells fid
    if e.1 then ((s.refundAll f.charges).revokeCopies fid).settleFrame fid
    else
      let s := s.confirmWaybills fid
      let s := if f.learn then s.learnSource f else s
      let s := s.converseAll f
      let s := s.correctAll f.charges f.trueLen
      let s := s.countMeters f
      let s := match f.filter with | some i => s.count (.pol i .passed) | none => s
      let s := match f.streamEntry with | some i => s.count (.pol i .idHits) | none => s
      let s := match f.mac.sa with
        | some (i, pn) => (s.count (.crypt f.ingress .rxOk)).moveReplay f.ingress f.mac i pn
        | none => if decide (f.ingress < 25) && f.mac.strict then s.count (.crypt f.ingress .rxClear) else s
      s.settleFrame fid

/-- A frame with waybills is revoked under a cause (R150, R151, R154, R155): `bytes` is what its copies carry. -/
def State.revokeFrame (s : State) (fid : Nat) (bytes : Bytes) : State :=
  match s.frame? fid with
  | none => s
  | some f =>
    let s := s.count (.port f.ingress .revoked)
    let s := s.modFrame fid (fun f => { f with ruled := true, ended := true, bytes := bytes })
    ((s.refundAll f.charges).revokeCopies fid).settleFrame fid

/-- The cause under which an ended frame is revoked (R150), with the MACsec cause; none confirms it. -/
def State.revocation (s : State) (f : Frame) : Option (Cause × Nat) :=
  match f.endCause with
  | some c => some (c, f.secCause)
  | none =>
    if f.secCause = 2 then some (.macsec, 2)
    else
      let replay := match f.mac.sa with
        | some (i, pn) => decide (pn < (s.saRun i f.mac.run).pn)
        | none => false
      if replay then some (.macsec, 1)
      else if f.maxSdu ≠ 0 ∧ f.maxSdu < f.trueLen then some (.stream, 0)
      else if f.deepDenied then some (.customs, 0)
      else none

/-- An ended frame is confirmed or revoked on one clock (R150, R158). -/
def State.ruleFrame (s : State) (fid : Nat) : State :=
  match s.frame? fid with
  | none => s
  | some f =>
    -- the whole frame tells which bytes are its FCS (R175)
    let f := { f with deepDone := true, deepHits := deepHitsOf f.zones (parse false f.lim f.bytes) f.lim f.bytes }
    let s := s.modFrame fid (fun _ => f)
    match s.revocation f with
    | none => s.confirmFrame fid
    | some (c, k) =>
      let quar := if c == .customs then (deepQuarantine f.zones f.deepHits).orElse (fun _ => f.ends.quarantine)
        else f.ends.quarantine
      let sdu := c == .stream
      let pol := match f.filter with
        | some i => if sdu then [(i, PolCtr.sduDrop)] else []
        | none => []
      let e : EndFacts := { f.ends with
        hit := f.finalHit, quarantine := quar, cust := settleCust f.srcZone f.zones f.deepHits f.ends.cust, pol := f.ends.pol ++ pol
        block := if sdu && f.blockOver then f.filter else f.ends.block }
      let s := (s.countRefused f.ingress f.slot c k e).countStale f.mac c k
      s.revokeFrame fid f.bytes

/-- A frame of F25, F26 or F27 is classified whole and, once it has waybills, confirmed at once (R18, R116). -/
def State.wholeFrame (s : State) (x : Intake) : Ruling × State :=
  let r := s.classify x
  match r.1.frame with
  | some fid => (r.1, (r.2.modFrame fid (fun f => { f with ended := true })).confirmFrame fid)
  | none =>
    match r.1.refused with
    | some c => (r.1, r.2.countRefused x.port x.slot c r.1.secCause r.1.ends)
    | none => r

end Sys2Proof.Machine
end

