-- ==== Sys2Proof/Machine/Keys.lean ====
section
/-! DEFINITION. The key store: slots, derivation, use and staleness (chapter 19 of the spec). -/

namespace Sys2Proof.Machine

/-- An EMPTY slot that has been written `n` times. -/
def KeySlot.blank (n : Nat) : KeySlot := { (default : KeySlot) with value := zeros 32, writes := n }

/-- Key slot `i` (R439). -/
def State.keyOf (s : State) (i : Nat) : KeySlot := tgetD s.keys.slots i (KeySlot.blank 0)

/-- The key store changed. -/
def State.modKeys (s : State) (f : KeyStore → KeyStore) : State := { s with keys := f s.keys }

/-- Key slot `i` replaced. -/
def State.setKey (s : State) (i : Nat) (k : KeySlot) : State := s.modKeys (fun x => { x with slots := tset x.slots i k })

/-- State codes of R439. -/
def KeyState.code : KeyState → Nat
  | .empty => 0 | .defined => 1 | .valid => 2 | .stale => 3

/-- Bytes of a key of an algorithm binding (R440, R443): even codes have 128 bits, odd ones 256. -/
def keyLen (alg : Nat) : Nat := if alg % 2 = 0 then 16 else 32

/-- The key itself, without the zero bytes of a 128-bit one (R440). -/
def KeySlot.key (k : KeySlot) : Bytes := k.value.take (keyLen k.alg)

/-- Use class and algorithm binding form a pair of R440. -/
def keyPair (use alg : Nat) : Bool :=
  ((use == 1 || use == 2) && decide (alg ≤ 3)) || (use == 3 && (alg == 4 || alg == 5)) ||
    (use == 4 && (alg == 6 || alg == 7))

/-- HOST_WRAP (R439). -/
def KeySlot.hostWrap (k : KeySlot) : Bool := bitOf k.flags 2

/-- The attribute record of R439. -/
def KeySlot.record (k : KeySlot) : Bytes :=
  w8 k.state.code ++ w8 k.use ++ w8 k.alg ++ w8 k.flags ++ w16 k.mask ++ w16 k.parent ++ w8 k.depth ++ zeros 3
    ++ w32 k.writes

/-- The hardware root of the present life-cycle state (R442). -/
def State.rootKey (s : State) : Bytes :=
  let l := s.boot.lcs.toNat
  if h : 1 ≤ l ∧ l ≤ 4 then beBytes 32 (Config.hardwareRoot ⟨l - 1, by omega⟩).toNat else zeros 32

/-- One block of the KDF (R443). -/
def kdfBlock (parent label context : Bytes) (bits i : Nat) : Bytes :=
  beBytes 16 (cmac parent (w8 i ++ label ++ [0] ++ context ++ beBytes 2 bits)).toNat

/-- The KDF of R443: a value of `len` bytes, 16 or 32. -/
def kdf (parent label context : Bytes) (len : Nat) : Bytes :=
  if len = 16 then kdfBlock parent label context 128 1
  else kdfBlock parent label context 256 1 ++ kdfBlock parent label context 256 2

/-- ASCII bytes of a firmware label. -/
def ascii (t : String) : Bytes := t.toList.map (fun c => BitVec.ofNat 8 c.toNat)

/-- The value derived for slot `k` from its parent's key (R443, R445): the slot becomes VALID; its write counts (R448). -/
def State.putDerived (s : State) (i : Nat) (parent : Bytes) : Option Answer × State :=
  let k := s.keyOf i
  if 2 ^ 32 - 1 ≤ k.writes then (some stExhausted, s)
  else
    let v := padTo 32 (kdf parent k.label k.context (keyLen k.alg))
    (none, (s.setKey i { k with state := .valid, value := v, writes := k.writes + 1 }).count (.key .derivations))

/-- A DEFINED slot is computed, its DEFINED ancestors first (R445); a failure leaves it DEFINED. -/
def State.computeKey (s : State) (i : Nat) : Nat → Option Answer × State
  | 0 => (none, s)
  | fuel + 1 =>
    let k := s.keyOf i
    if k.state ≠ .defined then (none, s)
    else if 512 ≤ k.parent then s.putDerived i s.rootKey
    else
      let q := s.keyOf k.parent
      if q.state = .stale then (some stKeyStale, s)
      else if q.use ≠ 4 then (some stKeyAttr, s)
      else
        match s.computeKey k.parent fuel with
        | (some a, s) => (some a, s)
        | (none, s) => s.putDerived i (s.keyOf k.parent).key

/-- A refusal for a stale key counts STALE_USE (R456). -/
def State.staleUse (s : State) (a : Answer) : State :=
  if a = stKeyStale then s.count (.key .staleUse) else s

/-- A key slot named for a use (R419, R441, R445, R450): the owner mask holds the naming host slot, if one names it; use class
and algorithm suit; it is not stale; and it is computed if DEFINED. -/
def State.useKey (s : State) (host : Option Nat) (i use : Nat) (algs : List Nat) : Option Answer × State :=
  let k := s.keyOf i
  let masked := match host with | some n => bitOf k.mask n | none => true
  if !masked || k.state = .empty || k.use ≠ use || !algs.contains k.alg then (some stKeyAttr, s)
  else if k.state = .stale then (some stKeyStale, s.staleUse stKeyStale)
  else
    match s.computeKey i 9 with
    | (some a, s) => (some a, s.staleUse a)
    | (none, s) => (none, s)

/-- A firmware key of 128 bits (R444). -/
def firmwareKey (parent : Bytes) (label : String) (context : Bytes) : Bytes := kdf parent (ascii label) context 16

/-- Slot `i` descends from slot `root` (R449). -/
def isUnder (t : Tbl KeySlot) (root : Nat) : Nat → Nat → Bool
  | 0, _ => false
  | fuel + 1, i =>
    let k := tgetD t i (KeySlot.blank 0)
    k.state != .empty && (k.parent == root || (decide (k.parent < 512) && isUnder t root fuel k.parent))

/-- Users of slots that have gone stale (R425, R450): associations become STALE, and a port whose active transmit association
is among them has its egress down for protected copies; profiles and host contexts stay stale. -/
def State.staleUsers (s : State) (l : List Nat) : State :=
  let hit (a : Sa) : Bool := l.contains (le a.record 4 2) && a.state != .exhausted && a.state != .stale
  let sas := (s.crypt.sas.filter (fun e => hit e.2)).map (·.1)
  let s := { s with crypt := { s.crypt with
    sas := s.crypt.sas.map (fun e => if hit e.2 then (e.1, { e.2 with state := .stale }) else e)
    profiles := s.crypt.profiles.map (fun e =>
      if l.contains (le e.2.record 12 2) && (byteAt e.2.record 0 == 1 || byteAt e.2.record 0 == 2) then
        (e.1, { e.2 with stale := true })
      else e)
    ctxs := s.crypt.ctxs.map (fun e =>
      if l.contains e.2.keySlot && (s.keyOf e.2.keySlot).state == .stale then (e.1, { e.2 with stale := true }) else e) } }
  forAll (List.range 25)
    (fun p s =>
      match (vget s.crypt.ports p).txSa with
      | some a => if sas.contains a then s.secDown p else s
      | none => s) s

/-- Slots marked STALE, all on one key-store clock (R449): the descendants of `root`, and with `self` the slot itself. -/
def State.markStale (s : State) (root : Nat) (self : Bool) : Nat × State :=
  let hit (e : Nat × KeySlot) : Bool :=
    e.2.state != .empty && e.2.state != .stale
      && (if e.1 = root then self else isUnder s.keys.slots root 9 e.1)
  let l := (s.keys.slots.filter hit).map (·.1)
  let s := s.modKeys (fun x => { x with
    slots := x.slots.map (fun e => if hit e then (e.1, { e.2 with state := .stale }) else e) })
  (l.length, ((s.staleUsers l).count (.key .staleMarked) l.length).count (.key .invalidations))

/-- KEY_STALE to S0 and to the owner of the named slot (R449, R455): causes 0 invalidate, 1 rewrite, 2 erase. -/
def State.keyEvent (s : State) (i cause marked : Nat) : State :=
  s.eventTwo 0 (s.ownerOf 9 i) 0x0E01 (w16 i ++ w8 cause ++ [0] ++ w16 marked)

/-- A slot invalidated (R449). -/
def State.invalidateKey (s : State) (i cause : Nat) : Nat × State :=
  let r := s.markStale i (cause == 0)
  (r.1, r.2.keyEvent i cause r.1)

/-- A slot written wholly (R448, R449): a slot that was not EMPTY is a rewrite, which invalidates its descendants. -/
def State.rewriteKey (s : State) (i : Nat) (k : KeySlot) : State :=
  let was := (s.keyOf i).state
  let s := s.setKey i k
  if was = .empty then s else (s.invalidateKey i 1).2

/-- A slot erased (R448, R449): zeroed and EMPTY, its descendants STALE; its own users find no key and are stale too. The number
marked. -/
def State.eraseKey (s : State) (i : Nat) : Nat × State :=
  let k := s.keyOf i
  let gone (s : State) : State := s.setKey i (KeySlot.blank (k.writes + 1))
  if k.state = .empty then (0, gone s)
  else
    let r := s.invalidateKey i 2
    (r.1, (gone r.2).staleUsers [i])

end Sys2Proof.Machine
end

