-- ==== Sys2Proof/Machine/CanAuth.lean ====
section
/-! DEFINITION. CAN payload authentication and CANsec (R426 to R429). -/

namespace Sys2Proof.Machine

/-- A code of R184 that names one source or destination. -/
def relayCode (c : Nat) : Bool :=
  decide (c < 16) || (decide (0x100 ≤ c) && decide (c < 0x304)) || (decide (0x310 ≤ c) && decide (c < 0x316))

/-- A profile of one of these kinds covers a point and an identifier (R426, R428); a check at POINT 0xFFFF covers every source. -/
def Profile.covers (x : Profile) (kinds : List Nat) (point id : Nat) : Bool :=
  let m := le x.record 8 4 % 2 ^ 30
  kinds.contains (byteAt x.record 0) && (le x.record 2 2 == point || (byteAt x.record 0 % 2 == 1 && le x.record 2 2 == 0xFFFF))
    && (id % 2 ^ 30 &&& m) == (le x.record 4 4 % 2 ^ 30 &&& m)

/-- The lowest-indexed profile that covers a frame (R428). -/
def State.profileFor (s : State) (kinds : List Nat) (point id : Nat) : Option (Nat × Profile) :=
  s.crypt.profiles.find? (fun e => e.2.covers kinds point id)

/-- A profile changed. -/
def State.modProfile (s : State) (i : Nat) (f : Profile → Profile) : State :=
  { s with crypt := { s.crypt with profiles := tmod s.crypt.profiles i default f } }

/-- AUTH_LEN, and the bytes of freshness value and MAC (R426). -/
def Profile.authLen (x : Profile) : Nat := byteAt x.record 16
def Profile.fvLen (x : Profile) : Nat := byteAt x.record 17 / 8
def Profile.macLen (x : Profile) : Nat := byteAt x.record 18 / 8

/-- The CMAC of a secured payload (R427), cut to MAC_BITS. -/
def Profile.mac (x : Profile) (key : Bytes) (id fv : Nat) (data : Bytes) : Bytes :=
  (beBytes 16 (cmac key (beBytes 2 (le x.record 14 2) ++ beBytes 4 (id % 2 ^ 30) ++ data ++ beBytes 8 fv)).toNat).take
    x.macLen

/-- The candidate freshness value rebuilt from the received low bits (R427). -/
def freshCandidate (last bits low : Nat) : Nat :=
  let f := last / 2 ^ bits * 2 ^ bits + low
  if f ≤ last then f + 2 ^ bits else f

/-- The verdict of a verification (R427): passed, failed, or a replay. -/
inductive AuthVerdict where
  | pass (fv : Nat) | fail | replay
deriving DecidableEq, Repr

/-- VERIFY on a payload (R427): a freshness value beyond the window, or beyond 64 bits, is a replay; a payload too short for
the layout fails. -/
def Profile.verify (x : Profile) (key : Bytes) (f : CanFrame) : AuthVerdict :=
  let n := x.authLen
  let k := x.fvLen
  if f.data.length < n + k + x.macLen then .fail
  else
    let c := freshCandidate x.fv (8 * k) (be f.data n k)
    if x.fv + le x.record 20 4 < c ∨ 2 ^ 64 ≤ c then .replay
    else if slice f.data (n + k) x.macLen = x.mac key f.id c (slice f.data 0 n) then .pass c
    else .fail

/-- The key of a CMAC profile: for a profile that has gone stale there is none (R450). -/
def State.profileKey (s : State) (x : Profile) (use : Nat) : Option Bytes × State :=
  if x.stale then (none, s.staleUse stKeyStale)
  else
    let i := le x.record 12 2
    match s.useKey none i use [2, 3] with
    | (some _, s) => (none, s)
    | (none, s) => (some (s.keyOf i).key, s)

/-- The association of a CANsec profile, ready for use, and its key (R421, R429). -/
def State.cansecKey (s : State) (x : Profile) (use : Nat) : Option Bytes × State :=
  match tget? s.crypt.sas (le x.record 24 2) with
  | none => (none, s)
  | some a =>
    if byteAt a.record 0 ≠ 0xFF ∨ byteAt a.record 1 ≠ use % 2 then (none, s)
    else if a.state = .stale then (none, s.staleUse stKeyStale)
    else if a.state = .exhausted then (none, s)
    else
      let i := le a.record 4 2
      match s.useKey none i use [byteAt a.record 3 % 2] with
      | (some _, s) => (none, s)
      | (none, s) => (some (s.keyOf i).key, s)

/-- A frame verified at step 1 of its job (R428, R429): the frame as it is routed, or none where the check fails. A frame that
no profile covers passes as it is. -/
def State.authCheck (s : State) (source : Nat) (f : CanFrame) : Option CanFrame × State :=
  match s.profileFor [1, 3] source f.id with
  | none => (some f, s)
  | some (i, x) =>
    let failed (s : State) : Option CanFrame × State := (none, s.count (.crypt i .authFail))
    if byteAt x.record 0 = 1 then
      match s.profileKey x 2 with
      | (none, s) => failed s
      | (some key, s) =>
        match x.verify key f with
        | .fail => failed s
        | .replay => (none, s.count (.crypt i .replay))
        | .pass fv =>
          let s := (s.modProfile i (fun x => { x with fv := fv })).count (.crypt i .verified)
          (some (if bitOf (byteAt x.record 1) 0 then { f with data := slice f.data 0 x.authLen } else f), s)
    else if f.kind ≠ 2 ∨ !bitOf f.format 4 then failed s
    else
      match s.cansecKey x 2 with
      | (none, s) => failed s
      | (some key, s) =>
        match Config.cansecOpen key f.data with
        | (_, none) => failed s
        | (pn, some plain) =>
          let k := le x.record 24 2
          let a := tgetD s.crypt.sas k default
          if pn < a.pn then (none, s.count (.crypt i .replay))
          else
            let last := pn == a.lastPn
            let s := s.modSa k (fun a => { a with
              pn := max a.pn (pn + 1 - le x.record 20 4), state := if last then .exhausted else .inUse })
            let s := if last then s.event 0 0x0D02 (cryptEventData k 0xFF 0) else s
            (some { f with format := setBit f.format 4 false, data := plain }, s.count (.crypt i .verified))

/-- The next data length that a format allows (R127, R380); none where the data are too long. -/
def nextLength (kind n : Nat) : Option Nat :=
  if kind = 0 then (if n ≤ 8 then some n else none)
  else if kind = 1 then (if n ≤ 8 then some n else [12, 16, 20, 24, 32, 48, 64].find? (fun m => n ≤ m))
  else if n ≤ 2048 then some (max n 1) else none

/-- Data filled up with a byte to `n` bytes. -/
def fillTo (n : Nat) (pad : BitVec 8) (d : Bytes) : Bytes := d ++ List.replicate (n - d.length) pad

/-- A CAN frame padded to a valid length; LIN and serial payloads keep their length (R380). -/
def CanFrame.padded (f : CanFrame) (pad : BitVec 8) : Option CanFrame :=
  if f.format = 8 ∨ f.format = 16 then some f
  else (nextLength f.kind f.data.length).map (fun n => { f with data := fillTo n pad f.data })

/-- What protection makes of an output (R428, R429). -/
inductive Guarded where
  | made (f : CanFrame) | format | none_
deriving DecidableEq, Repr

/-- A result of padding. -/
def Guarded.of : Option CanFrame → Guarded
  | some f => .made f
  | none => .format

/-- A freshness value used (R429, R437): CRYPT_EXHAUSTED goes to S0 with the last one. -/
def State.useFresh (s : State) (i fv : Nat) : State :=
  let s := (s.modProfile i (fun x => { x with fv := fv })).count (.crypt i .generated)
  if 2 ^ 64 - 1 ≤ fv then s.event 0 0x0D02 (cryptEventData (i + 0x8000) 0xFF 0) else s

/-- An output protected on the way to its destination (R427 to R429). Data other than AUTH_LEN bytes are cut, or filled with
PAD_BYTE, to AUTH_LEN (DESIGN CHOICE, log 41). -/
def State.authProtect (s : State) (dest : Nat) (pad : BitVec 8) (f : CanFrame) : Guarded × State :=
  match s.profileFor [2, 4] dest f.id with
  | none => (.made f, s)
  | some (i, x) =>
    if byteAt x.record 0 = 2 then
      if 2 ^ 64 - 1 ≤ x.fv then (.none_, s.count (.crypt i .exhausted))
      else
        match s.profileKey x 1 with
        | (none, s) => (.none_, s)
        | (some key, s) =>
          let fv := x.fv + 1
          let data := fillTo x.authLen pad (f.data.take x.authLen)
          let d := data ++ beBytes x.fvLen (fv % 2 ^ (8 * x.fvLen)) ++ x.mac key f.id fv data
          let g := Guarded.of ({ f with data := d }.padded pad)
          if g = .format then (g, s)
          else (g, s.useFresh i fv)
    else if f.kind ≠ 2 then (.format, s)
    else
      let k := le x.record 24 2
      let a := tgetD s.crypt.sas k default
      if a.state = .exhausted then (.none_, s.count (.crypt i .exhausted))
      else
        match s.cansecKey x 1 with
        | (none, s) => (.none_, s)
        | (some key, s) =>
          let d := Config.cansecSeal key (bitOf (byteAt x.record 1) 1) a.pn f.data
          if 2048 < d.length then (.format, s)
          else
            let r := s.usePn k 0xFF 0
            (.made { f with format := setBit f.format 4 true, data := d }, r.2.count (.crypt i .generated))

end Sys2Proof.Machine
end

