-- ==== Sys2Proof/Machine/KeyCmds.lean ====
section
/-! DEFINITION. The KEY commands and the re-mask pass (chapter 19 of the spec). -/

namespace Sys2Proof.Machine

/-- The slot field at an offset, and its owner. -/
def ownsKey (s : State) (n : Nat) (p : Bytes) : Option Answer :=
  firstFail [inRange (le p 0 2) 512 0, mustOwn s n 9 (le p 0 2)]

/-- KEY_GET_CAPS (R454, R538). -/
def cmdKeyGetCaps : Cmd :=
  { op := 0x0E00, lengthOk := lenIs 0, check := fun _ _ _ => none
    run := fun s _ _ _ => (s, .done (stOk ([512, 8, 1, 12, 0, 32, s.boot.lcs.toNat].flatMap w32))) }

/-- The caller's bit in the owner mask of a parent or wrap key (R454). -/
def inMask (s : State) (n i : Nat) : Option Answer := need (bitOf (s.keyOf i).mask n) stNotOwner

/-- Checks 1 to 5 of R447 on an unwrapped blob. -/
def blobCheck (target wrapDepth : Nat) (blob : Option Bytes) : Option Answer :=
  match blob with
  | none => some stAuthFail
  | some b =>
    let use := byteAt b 1
    let alg := byteAt b 2
    firstFail [need (le b 8 8 == 0 || le b 8 8 == Config.serial.toNat) stAuthFail,
      need (byteAt b 0 == 1 && keyPair use alg && (byteAt b 3 == 0 || byteAt b 3 == 1 || byteAt b 3 == 4 || byteAt b 3 == 5)
        && (keyLen alg == 32 || slice b 32 16 == zeros 16)) (stBadParam 4),
      need (le b 6 2 == 0xFFFF || le b 6 2 == target) (stBadParam 4), need (wrapDepth < 8) (stBadParam 2)]

/-- The slot that an accepted blob gives (R441, R447). -/
def importedKey (b : Bytes) (wrap writes : Nat) (w : KeySlot) : KeySlot :=
  { state := .valid, use := byteAt b 1, alg := byteAt b 2, flags := byteAt b 3 + 2, mask := le b 4 2 &&& w.mask
    parent := wrap, depth := w.depth + 1, writes := writes, label := [], context := [], value := padTo 32 (slice b 16 32) }

/-- KEY_IMPORT (R446, R447). -/
def cmdKeyImport : Cmd :=
  { op := 0x0E01, lengthOk := lenIs 60
    check := fun s n p => firstFail [inRange (le p 0 2) 512 0, inRange (le p 2 2) 512 2, mustOwn s n 9 (le p 0 2),
      inMask s n (le p 2 2), need (!(s.keyOf (le p 2 2)).hostWrap) stKeyAttr]
    run := fun s n _ p =>
      let t := le p 0 2
      let wrap := le p 2 2
      match s.useKey (some n) wrap 3 [4, 5] with
      | (some a, s) => (s, .done a)
      | (none, s) =>
        let w := s.keyOf wrap
        let blob := (Config.kwUnwrap w.key (slice p 4 56)).map (padTo 48)
        match blobCheck t w.depth blob with
        | some a => (s.count (.key .importFail), .done a)
        | none =>
          let k := s.keyOf t
          if 2 ^ 32 - 1 ≤ k.writes then (s, .done stExhausted)
          else
            let s := (s.rewriteKey t (importedKey (blob.getD []) wrap (k.writes + 1) w)).count (.key .imports)
            (s, .done (stOk (w32 (k.writes + 1)))) }

/-- The label of a KEY_DERIVE payload. -/
def deriveLabel (p : Bytes) : Bytes := slice p 12 (byteAt p 10)
/-- Its context. -/
def deriveContext (p : Bytes) : Bytes := slice p 24 (byteAt p 11)

/-- The label is the host's to use (R444): no firmware prefix, but for the provisioning key. -/
def labelOk (p : Bytes) : Bool :=
  let l := deriveLabel p
  let mine := [ascii "PNY-", ascii "DBG-", ascii "MRC-", ascii "MKA-", ascii "SRK-"].any (fun x => l.take 4 == x)
  !mine || (l == ascii "SRK-PROV" && le p 2 2 == 0x8000 && byteAt p 4 == 3 && byteAt p 5 == 5 && !bitOf (byteAt p 6) 2
    && deriveContext p == beBytes 8 Config.serial.toNat)

/-- KEY_DERIVE's ranges (R440, R441, R443, R444, R445), in field order. -/
def deriveRanges (s : State) (p : Bytes) : Option Answer :=
  let t := le p 0 2
  let parent := le p 2 2
  let q := s.keyOf parent
  let root := parent == 0x8000
  firstFail [need (root || !(parent == t || isUnder s.keys.slots t 9 parent)) (stBadParam 0),
    need (root || decide (q.depth < 8)) (stBadParam 2), need (keyPair (byteAt p 4) (byteAt p 5)) (stBadParam 4),
    need ([0, 1, 4, 5].contains (byteAt p 6)) (stBadParam 6),
    need (root || le p 8 2 &&& q.mask == le p 8 2) (stBadParam 8), between (byteAt p 10) 1 12 10,
    between (byteAt p 11) 0 32 11,
    need ((deriveLabel p).all (fun b => decide (0x21 ≤ b.toNat) && decide (b.toNat ≤ 0x7E))) (stBadParam 12),
    need (labelOk p) (stBadParam 12)]

/-- KEY_DERIVE (R445): it only defines the slot. -/
def cmdKeyDerive : Cmd :=
  { op := 0x0E02, lengthOk := lenIs 56
    check := fun s n p =>
      let parent := le p 2 2
      firstFail [inRange (le p 0 2) 512 0, need (decide (parent < 512) || parent == 0x8000) (stBadParam 2),
        mustOwn s n 9 (le p 0 2), if parent = 0x8000 then mustBeS0 n else inMask s n parent, deriveRanges s p]
    run := fun s _ _ p =>
      let t := le p 0 2
      let parent := le p 2 2
      let depth := if parent = 0x8000 then 1 else (s.keyOf parent).depth + 1
      let k : KeySlot :=
        { state := .defined, use := byteAt p 4, alg := byteAt p 5, flags := byteAt p 6, mask := le p 8 2, parent := parent
          depth := depth, writes := (s.keyOf t).writes, label := deriveLabel p, context := deriveContext p
          value := zeros 32 }
      (s.rewriteKey t k, .done (stOk [])) }

/-- KEY_PREFETCH (R445). -/
def cmdKeyPrefetch : Cmd :=
  { op := 0x0E03, lengthOk := lenIs 4, check := ownsKey
    run := fun s _ _ p =>
      match s.computeKey (le p 0 2) 9 with
      | (some a, s) => (s.staleUse a, .done a)
      | (none, s) => (s, .done (stOk (w8 (s.keyOf (le p 0 2)).state.code))) }

/-- KEY_REFRESH (R451): the slot is derived and STALE. -/
def cmdKeyRefresh : Cmd :=
  { op := 0x0E04, lengthOk := lenIs 4
    check := fun s n p =>
      let k := s.keyOf (le p 0 2)
      firstFail [ownsKey s n p,
        need (k.state == .stale && !bitOf k.flags 1) (stWrongState 0x0E01 (le p 0 2) k.state.code)]
    run := fun s _ _ p =>
      let i := le p 0 2
      let k := s.keyOf i
      match (s.setKey i { k with state := .defined }).computeKey i 9 with
      | (some a, s) => ((s.setKey i k).staleUse a, .done a)
      | (none, s) => (s, .done (stOk (w32 (s.keyOf i).writes))) }

/-- KEY_INVALIDATE (R449). -/
def cmdKeyInvalidate : Cmd :=
  { op := 0x0E05, lengthOk := lenIs 4, check := ownsKey
    run := fun s _ _ p =>
      let i := le p 0 2
      if (s.keyOf i).state = .empty then (s, .done (stOk (w16 0)))
      else
        let r := s.invalidateKey i 0
        (r.2, .done (stOk (w16 r.1))) }

/-- Slots erased one after another, with the number marked. -/
def State.eraseKeys (s : State) : List Nat → Nat × State
  | [] => (0, s)
  | i :: is =>
    let a := s.eraseKey i
    let b := a.2.eraseKeys is
    (a.1 + b.1, b.2)

/-- The slots of a KEY_ERASE payload. -/
def eraseRange (p : Bytes) : List Nat := (List.range (le p 2 2)).map (fun k => le p 0 2 + k)

/-- KEY_ERASE (R449, R454). -/
def cmdKeyErase : Cmd :=
  { op := 0x0E06, lengthOk := lenIs 4
    check := fun s n p => firstFail [inRange (le p 0 2) 512 0,
      firstFail ((objectsIn (le p 0 2) (le p 2 2) 512).map (fun i => mustOwn s n 9 i)),
      countIn (le p 0 2) (le p 2 2) 512 512 0 2,
      need ((eraseRange p).all (fun i => decide ((s.keyOf i).writes < 2 ^ 32 - 1))) stExhausted]
    run := fun s _ _ p =>
      let r := s.eraseKeys (eraseRange p)
      (r.2, .done (stOk (w16 r.1))) }

/-- KEY_NARROW_MASK (R441). -/
def cmdKeyNarrowMask : Cmd :=
  { op := 0x0E07, lengthOk := lenIs 4, check := ownsKey
    run := fun s _ _ p =>
      let k := s.keyOf (le p 0 2)
      let m := k.mask &&& le p 2 2
      (s.setKey (le p 0 2) { k with mask := m }, .done (stOk (w16 m))) }

/-- KEY_GET_ATTR (R454): never the value (R439). -/
def cmdKeyGetAttr : Cmd :=
  { op := 0x0E08, lengthOk := lenIs 4
    check := fun s n p => firstFail [inRange (le p 0 2) 512 0, mayRead s n 9 (le p 0 2)]
    run := fun s _ _ p =>
      let k := s.keyOf (le p 0 2)
      (s, .done (stOk (k.record ++ w8 k.label.length ++ padTo 12 k.label))) }

/-- KEY_SET_SERVICE (R453): the start-up phase ends. -/
def cmdKeySetService : Cmd :=
  { op := 0x0E09, lengthOk := lenIs 0, check := fun _ n _ => mustBeS0 n
    run := fun s _ _ _ => (s.modKeys (fun x => { x with startup := false }), .done (stOk [])) }

/-- The key store counters in table order (R456). -/
def keyCtrs : List Ctr :=
  [.imports, .importFail, .derivations, .invalidations, .staleMarked, .staleUse, .remaskPasses].map Ctr.key

/-- KEY_GET_COUNTERS. -/
def cmdKeyGetCounters : Cmd :=
  { op := 0x0E0A, lengthOk := lenIs 0, check := fun s n _ => mayReadDevice s n
    run := fun s _ _ _ => (s, .done (stOk (counterBytes s keyCtrs))) }

/-- KEY_CLEAR_COUNTERS. -/
def cmdKeyClearCounters : Cmd :=
  { op := 0x0E0B, lengthOk := lenIs 0, check := fun _ n _ => mustBeS0 n
    run := fun s _ _ _ => (s.clearCtrs (fun k => keyCtrs.contains k), .done (stOk [])) }

/-- A rolling re-mask phase is on (R453). -/
def State.rolling (s : State) : Bool :=
  s.keys.startup || s.boot.lcs == 1 || s.boot.lcs == 4 || s.jtag.unlocked

/-- Fresh masks for every cell (R452). -/
def State.drawMasks (s : State) : State :=
  { (s.modKeys (fun x => { x with maskAt := s.fresh })) with fresh := s.fresh + 512 }

/-- REMASK_PASS (R453): values stay. -/
def execRemaskPass (s : State) : Res :=
  .next (if s.running && s.rolling then s.drawMasks.count (.key .remaskPasses) else s)

/-- KEY_GET_CAPS. -/
def execKeyGetCaps (slot : Slot) (tag : Half) (payload : Bytes) (s : State) : Res :=
  .next (penyen cmdKeyGetCaps slot.val tag payload s)

/-- KEY_IMPORT. -/
def execKeyImport (slot : Slot) (tag : Half) (payload : Bytes) (s : State) : Res :=
  .next (penyen cmdKeyImport slot.val tag payload s)

/-- KEY_DERIVE. -/
def execKeyDerive (slot : Slot) (tag : Half) (payload : Bytes) (s : State) : Res :=
  .next (penyen cmdKeyDerive slot.val tag payload s)

/-- KEY_PREFETCH. -/
def execKeyPrefetch (slot : Slot) (tag : Half) (payload : Bytes) (s : State) : Res :=
  .next (penyen cmdKeyPrefetch slot.val tag payload s)

/-- KEY_REFRESH. -/
def execKeyRefresh (slot : Slot) (tag : Half) (payload : Bytes) (s : State) : Res :=
  .next (penyen cmdKeyRefresh slot.val tag payload s)

/-- KEY_INVALIDATE. -/
def execKeyInvalidate (slot : Slot) (tag : Half) (payload : Bytes) (s : State) : Res :=
  .next (penyen cmdKeyInvalidate slot.val tag payload s)

/-- KEY_ERASE. -/
def execKeyErase (slot : Slot) (tag : Half) (payload : Bytes) (s : State) : Res :=
  .next (penyen cmdKeyErase slot.val tag payload s)

/-- KEY_NARROW_MASK. -/
def execKeyNarrowMask (slot : Slot) (tag : Half) (payload : Bytes) (s : State) : Res :=
  .next (penyen cmdKeyNarrowMask slot.val tag payload s)

/-- KEY_GET_ATTR. -/
def execKeyGetAttr (slot : Slot) (tag : Half) (payload : Bytes) (s : State) : Res :=
  .next (penyen cmdKeyGetAttr slot.val tag payload s)

/-- KEY_SET_SERVICE. -/
def execKeySetService (slot : Slot) (tag : Half) (payload : Bytes) (s : State) : Res :=
  .next (penyen cmdKeySetService slot.val tag payload s)

/-- KEY_GET_COUNTERS. -/
def execKeyGetCounters (slot : Slot) (tag : Half) (payload : Bytes) (s : State) : Res :=
  .next (penyen cmdKeyGetCounters slot.val tag payload s)

/-- KEY_CLEAR_COUNTERS. -/
def execKeyClearCounters (slot : Slot) (tag : Half) (payload : Bytes) (s : State) : Res :=
  .next (penyen cmdKeyClearCounters slot.val tag payload s)

end Sys2Proof.Machine
end

