-- ==== Sys2Proof/Machine/Tollgate.lean ====
section
/-! DEFINITION. The account of the power-grant arbiter: requests, releases, immediate grants and the board budget (chapter 20
of the spec). -/

namespace Sys2Proof.Machine

/-- The power of a kind in 10 mW (R460). -/
def GrantKind.power : GrantKind → Nat
  | .train => 120 | .selfTest => 15 | .memTest => 40

/-- The duration of a kind in fabric ticks (R460). -/
def GrantKind.ticks : GrantKind → Nat
  | .train => 160000000 | .selfTest => 2400000 | .memTest => 32000000

/-- Grant kind codes (R460). -/
def GrantKind.code : GrantKind → Nat
  | .train => 1 | .selfTest => 3 | .memTest => 4

/-- Queue priority, lowest first (R460). -/
def GrantKind.priority : GrantKind → Nat
  | .selfTest => 0 | .train => 1 | .memTest => 2

/-- Typical power of the domains in 10 mW (R457). -/
def domainTypical : List Nat := [5, 5, 35, 30, 160, 100, 260, 300, 45, 60, 50, 15, 50]

/-- The arbiter changed. -/
def State.modPower (s : State) (f : Power → Power) : State := { s with power := f s.power }

/-- B in 10 mW (R459). -/
def State.baseline (s : State) : Nat :=
  ((List.range 13).map (fun d => if s.pws.domains.getLsbD d then domainTypical.getD d 0 else 0)).foldl (· + ·) 0

/-- G in 10 mW (R459). -/
def State.granted (s : State) : Nat := (s.power.grants.map (fun g => g.kind.power)).foldl (· + ·) 0

/-- A request of `p` × 10 mW fits (R461, R465). -/
def State.fits (s : State) (p : Nat) : Bool :=
  !s.power.guard && decide (s.baseline + s.granted + p ≤ s.power.ceiling)

/-- G, C or PWS_DOMAINS has changed (R469). -/
def State.powerChanged (s : State) : State := s.setCauseAll 6

/-- PWR_OVER_CEILING with its cause (R469). -/
def State.overCeiling (s : State) (cause : Nat) : State :=
  s.event 0 0x0F02 (w16 cause ++ w16 s.power.measured ++ w16 s.baseline)

/-- A ceiling below B is reported once (R464). -/
def State.checkBaseline (s : State) : State :=
  let excess := decide (s.power.ceiling < s.baseline)
  let was := s.power.excess
  let s := s.modPower (fun p => { p with excess := excess })
  if excess && !was then (s.count (.pwr .baselineOver)).overCeiling 0 else s

/-- A queued-kind request made (R460, R461). -/
def State.ask (s : State) (k : GrantKind) (requester : Nat) (again : Bool) : State :=
  s.modPower (fun p => { p with
    arrivals := p.arrivals ++ [{ kind := k, requester := requester, time := s.now, again := again }] })

/-- A holder releases its grant, or a request that is no longer wanted leaves the queue (R462). -/
def State.release (s : State) (k : GrantKind) (requester : Nat) : State :=
  let mine (a : Ask) : Bool := a.kind == k && a.requester == requester
  let had := s.power.grants.any (fun g => g.kind == k && g.requester == requester)
  let s := s.modPower (fun p => { p with
    grants := p.grants.filter (fun g => !(g.kind == k && g.requester == requester))
    queue := p.queue.filter (fun a => !mine a), arrivals := p.arrivals.filter (fun a => !mine a) })
  if had then s.powerChanged else s

/-- The requests that the next grant tick serves before an immediate one all fit beside it, with the ceiling written for that tick
(R461): its queue is then empty when the immediate request has its turn. -/
def State.immediateFits (s : State) (p : Nat) : Bool :=
  let queued := ((s.power.queue ++ s.power.arrivals).map (fun a => a.kind.power)).foldl (· + ·) 0
  !s.power.guard && decide (s.baseline + s.granted + queued + p ≤ s.power.newCeiling.getD s.power.ceiling)

/-- An operation of an immediate kind asks for `p` × 10 mW (R460, R461): granted if the queue is empty and it fits, and released
when the operation ends within its command; otherwise refused. -/
def State.immediate (s : State) (p : Nat) : Bool × State :=
  if s.immediateFits p then
    (true, (s.count (.pwr .grants)).powerChanged)
  else (false, s.count (.pwr .denied))

/-- The reservation of a camera port in mW (R317). -/
def Podl.reserved (x : Podl) : Nat :=
  let v := byteAt x.record 1
  match x.state with
  | .inrush => le x.record 4 2 * v
  | .powered => le x.record 2 2 * v
  | _ => 0

/-- The board reservation in mW (R466). -/
def State.boardReserved (s : State) : Nat := (s.net.podl.toList.map (·.reserved)).foldl (· + ·) 0

end Sys2Proof.Machine
end

