-- ==== Sys2Proof/Machine/Crypt.lean ====
section
/-! DEFINITION. The cipher engine's operations: the GCM and CMAC chains that host contexts and the CDI share, and associations
(chapter 18 of the spec). The block cipher and the GHASH step stand in Config (log 4); how they chain is SP 800-38B's and 38D's. -/

namespace Sys2Proof.Machine

/-- The cipher engine changed. -/
def State.modCrypt (s : State) (f : Crypt → Crypt) : State := { s with crypt := f s.crypt }

/-! Chains. -/

/-- The counter block after this one: its low 32 bits count. -/
def inc32 (c : BitVec 128) : BitVec 128 :=
  BitVec.ofNat 128 (c.toNat / 2 ^ 32 * 2 ^ 32 + (c.toNat + 1) % 2 ^ 32)

/-- The first counter block of an operation, from its position: its IV and the count 1. -/
def gcmFirst (c : BitVec 128) : BitVec 128 := BitVec.ofNat 128 (c.toNat / 2 ^ 32 * 2 ^ 32 + 1)

/-- An operation opened (R430, R434): GCM starts at its IV, CMAC at 0. -/
def Chain.start (gcm : Bool) (iv : Bytes) : Chain :=
  { aadLen := 0, dataLen := 0, ghash := 0
    chain := if gcm then BitVec.ofNat 128 (beNat (padTo 12 iv) * 2 ^ 32 + 1) else 0 }

/-- Bytes taken into GHASH, block after block. -/
def ghashAll (key : Bytes) (acc : BitVec 128) (b : Bytes) : BitVec 128 :=
  (blocksOf b.length b).foldl (fun a x => Config.ghashStep key a (toBlock x)) acc

/-- Additional data taken by GCM. -/
def Chain.aad (c : Chain) (key b : Bytes) : Chain :=
  { c with aadLen := c.aadLen + b.length, ghash := ghashAll key c.ghash b }

/-- Data blocks under the key stream: the counter block after them, and their output. -/
def ctrBlocks (key : Bytes) (c : BitVec 128) : List Bytes → BitVec 128 × Bytes
  | [] => (c, [])
  | b :: bs =>
    let c := inc32 c
    let ks := blockBytes (Config.aesBlock key c)
    let r := ctrBlocks key c bs
    (r.1, List.zipWith (· ^^^ ·) b ks ++ r.2)

/-- Data taken by GCM: its chain after them and the output; GHASH runs over the ciphertext. -/
def Chain.gcm (c : Chain) (key : Bytes) (enc : Bool) (b : Bytes) : Chain × Bytes :=
  let r := ctrBlocks key c.chain (blocksOf b.length b)
  ({ c with dataLen := c.dataLen + b.length, chain := r.1, ghash := ghashAll key c.ghash (if enc then r.2 else b) }, r.2)

/-- The GCM tag of all that was taken, 16 bytes. -/
def Chain.gcmTag (c : Chain) (key : Bytes) : Bytes :=
  let n := Config.ghashStep key c.ghash (BitVec.ofNat 128 (c.aadLen * 8 * 2 ^ 64 + c.dataLen * 8))
  blockBytes (n ^^^ Config.aesBlock key (gcmFirst c.chain))

/-- Whole blocks taken by CMAC. -/
def Chain.mac (c : Chain) (key b : Bytes) : Chain :=
  { c with dataLen := c.dataLen + b.length, chain := cmacChain key c.chain b }

/-- The CMAC, with the last data of the message, 16 bytes. -/
def Chain.macTag (c : Chain) (key b : Bytes) : Bytes :=
  let n := (b.length - 1) / 16 * 16
  if b.isEmpty ∧ c.dataLen ≠ 0 then blockBytes (Config.cmacWhole key c.chain)
  else blockBytes (Config.cmacEnd key (cmacChain key c.chain (b.take n)) (b.drop n))

/-- The modes of R430 that need an encrypt-only slot (R419), and those that are GCM. -/
def modeUse (mode : Nat) : Nat := if mode % 2 = 0 then 1 else 2
def modeAlgs (mode : Nat) : List Nat := if mode ≤ 1 then [0, 1] else [2, 3]

/-- A tag length of R431. -/
def tagLenOk (mode n : Nat) : Bool := decide (n ≤ 16) && (if mode ≤ 1 then decide (12 ≤ n) else decide (4 ≤ n))

/-- What the final step of an operation gives (R431, R436). -/
inductive FinalOut where
  /-- The output data and, for the generating modes, the whole tag. -/
  | ok (out tag : Bytes)
  | badTag
deriving DecidableEq, Repr

/-- The final step: the last data, and the expected tag of the verify modes (R419, R431). -/
def Chain.final (c : Chain) (mode : Nat) (key b expected : Bytes) : FinalOut :=
  if mode ≤ 1 then
    let r := c.gcm key (mode == 0) b
    let tag := r.1.gcmTag key
    if mode = 0 then .ok r.2 tag
    else if tag.take expected.length = expected then .ok r.2 []
    else .badTag
  else
    let tag := c.macTag key b
    if mode = 2 then .ok [] tag
    else if tag.take expected.length = expected then .ok [] []
    else .badTag

/-! Associations (R421 to R425). -/

/-- States of R421; a slot without a record is FREE. -/
def saCode : Option Sa → Nat
  | none => 0
  | some a => match a.state with
    | .installed => 1 | .inUse => 2 | .exhausted => 3 | .stale => 4

/-- The association number of a port, direction and AN. -/
def State.saOf (s : State) (p dir an : Nat) : Option Nat :=
  (s.crypt.sas.find? (fun e => byteAt e.2.record 0 == p && byteAt e.2.record 1 == dir && byteAt e.2.record 2 == an)).map (·.1)

/-- A port's cipher settings changed. -/
def State.modMac (s : State) (p : Nat) (f : MacPort → MacPort) : State :=
  s.modCrypt (fun c => { c with ports := vmod c.ports p f })

/-- An association written (R421). -/
def State.installSa (s : State) (i : Nat) (record : Bytes) (mka : Bool) : State :=
  (s.retireSa i).modCrypt (fun c => { c with
    nextRun := c.nextRun + 1
    sas := tset c.sas i
      { record := record, pn := le record 16 8, state := .installed, warned := false, mka := mka, run := c.nextRun } })

/-- A port's active transmit association selected (R422, R425): the one left becomes INSTALLED, and a port whose protected
copies were held sends again. -/
def State.selectSa (s : State) (p i : Nat) : State :=
  let s := match (vget s.crypt.ports p).txSa with
    | none => s
    | some j =>
      if j = i then s
      else s.modSa j (fun a => { a with state := if a.state = SaState.inUse then .installed else a.state })
  let s := s.modSa i (fun a => { a with state := .inUse })
  (s.modMac p (fun m => { m with txSa := some i })).secUp p

/-- An association freed; a port loses it as its active one. -/
def State.freeSa (s : State) (i : Nat) : State :=
  let p := byteAt (tgetD s.crypt.sas i default).record 0
  let s := (s.retireSa i).modCrypt (fun c => { c with sas := tdel c.sas i })
  if (vget s.crypt.ports p).txSa = some i then s.modMac p (fun m => { m with txSa := none }) else s

/-- The association an active transmit slot of its port. -/
def State.isActiveSa (s : State) (i : Nat) : Bool := s.crypt.ports.toList.any (fun m => m.txSa == some i)

/-! The CDI (R433 to R435). -/

/-- The CDI changed. -/
def State.modCdi (s : State) (f : Cdi → Cdi) : State := s.modCrypt (fun c => { c with cdi := f c.cdi })

/-- An open operation ends without a result. -/
def State.cdiEnd (s : State) : State := s.modCdi (fun c => { c with active := false, job := none })

/-- The lock is released (R434). -/
def State.cdiRelease (s : State) : State := (s.modCdi (fun c => { c with owned := false, owner := 0 })).cdiEnd

/-- The CDI after RESET_N or a wake (R433). -/
def State.cdiReset (s : State) : State := s.modCdi (fun _ => { (default : Cdi) with bytes := 16 })

/-- A transport holds the lock. -/
def State.cdiHolder (s : State) (t : Transport) : Bool := s.crypt.cdi.owned && s.crypt.cdi.owner == t

/-- The lock of a slot's transport is released when the slot is unbound or fenced (R434). -/
def State.cdiDrop (s : State) (n : Nat) : State :=
  if s.crypt.cdi.owned && (s.slot n).binding.transport == some s.crypt.cdi.owner.val then s.cdiRelease else s

/-- The operation is broken (R431, R433): ERR is set and it ends. -/
def State.cdiFail (s : State) (err : Nat) : State := (s.modCdi (fun c => { c with err := BitVec.ofNat 8 err })).cdiEnd

/-- The length limits of a block (R431, R433), with what the operation has taken so far: an operation has data, so that additional data
are never its last block. -/
def cdiLimits (c : Cdi) (b : CdiBlock) : Bool :=
  let gcm := decide (c.opMode ≤ 1)
  decide (1 ≤ b.bytes && b.bytes ≤ 16) && (b.bytes == 16 || b.final)
    && (if gcm && b.aad then c.chain.dataLen == 0 && decide (c.chain.aadLen + b.bytes ≤ 65536) && !b.final
        else decide (c.chain.dataLen + b.bytes ≤ 1048576))
    && (!b.final || tagLenOk c.opMode b.tagLen)

/-- The first GO opens an operation (R434): it latches the mode, the key and the IV. -/
def State.cdiOpen (s : State) : State :=
  let c := s.crypt.cdi
  let s := s.modCdi (fun c => { c with err := 0 })
  let mode := c.mode.toNat
  let i := c.keySlot.toNat
  match s.slotOf c.owner with
  | none => s.cdiFail 2
  | some n =>
    match s.useKey (some n) i (modeUse mode) (modeAlgs mode) with
    | (some a, s) => s.cdiFail (if a = stKeyStale then 3 else if a = stExhausted then 5 else 2)
    | (none, s) =>
      let k := s.keyOf i
      (s.modCdi (fun c => { c with
        active := true, opKey := k.key, opEpoch := k.writes, opMode := mode, opSlot := i
        chain := Chain.start (decide (mode ≤ 1)) (leBytes 12 c.iv.toNat) })).count (.crypt 0 .hostOps)

/-- A GO that finds no other block in work (R433, R434): the block is taken, after the checks of R431. -/
def State.cdiGo (s : State) : State :=
  if s.crypt.cdi.job.isSome then s
  else
    let s := if s.crypt.cdi.active then s else s.cdiOpen
    let c := s.crypt.cdi
    if !c.active then s
    else
      let b : CdiBlock :=
        { bytes := c.bytes.toNat, final := c.final, aad := c.aad, din := c.din, tag := c.tag
          tagLen := c.tagLen.toNat + 1 }
      if !cdiLimits c b then (s.cdiFail 1).count (.crypt 0 .lengthLimit)
      else s.modCdi (fun c => { c with job := some b })

/-- The bytes of a 128-bit register group, ascending addresses (R433). -/
def regBytes (v : BitVec 128) : Bytes := leBytes 16 v.toNat
/-- Bytes as a 128-bit register group. -/
def bytesReg (b : Bytes) : BitVec 128 := BitVec.ofNat 128 (leNat b)

/-- A FINAL ends (R433): DONE, KEY_CHANGED of R419, and the output and tag; the tag bytes past TAG_LEN are free (log 2). -/
def State.cdiFinal (s : State) (b : CdiBlock) (data : Bytes) : State :=
  let c := s.crypt.cdi
  let changed := (s.keyOf c.opSlot).writes != c.opEpoch
  let expected := if c.opMode % 2 = 1 then (regBytes b.tag).take b.tagLen else []
  let s := s.modCdi (fun c => { c with done := true, keyChanged := c.keyChanged || changed })
  match c.chain.final c.opMode c.opKey data expected with
  | .badTag => s.cdiFail 4
  | .ok out tag =>
    let s := s.cdiEnd
    let s := if out.isEmpty then s else
      let r := s.freeBytes 16
      r.2.modCdi (fun c => { c with dout := bytesReg (out ++ r.1.drop out.length) })
    if tag.isEmpty then s
    else
      let r := s.freeBytes 16
      r.2.modCdi (fun c => { c with tag := bytesReg (tag.take b.tagLen ++ r.1.drop b.tagLen) })

/-- A block finishes (R433): DOUT becomes valid and GO clears. -/
def State.cdiBlockDone (s : State) : State :=
  match s.crypt.cdi.job with
  | none => s
  | some b =>
    let s := s.modCdi (fun c => { c with job := none })
    let c := s.crypt.cdi
    let data := (regBytes b.din).take b.bytes
    if c.opMode ≤ 1 ∧ b.aad then
      s.modCdi (fun c => { c with chain := c.chain.aad c.opKey data })
    else if b.final then s.cdiFinal b data
    else if c.opMode ≤ 1 then
      let r := c.chain.gcm c.opKey (c.opMode == 0) data
      s.modCdi (fun c => { c with chain := r.1, dout := bytesReg r.2 })
    else s.modCdi (fun c => { c with chain := c.chain.mac c.opKey data })

/-- An access to the CDI by a transport that does not hold the lock is undefined (R435). -/
def cdiHeld (t : Transport) (f : State → State) (s : State) : Res :=
  if s.cdiHolder t then .next (f s) else .fault .cdiMisuse

/-- A write of CDI_LOCK (R433, R434): ACQUIRE takes a free lock, RELEASE is the holder's. -/
def cdiLockWrite (t : Transport) (v : Word) (s : State) : State :=
  let held := s.cdiHolder t
  if v.getLsbD 0 && !s.crypt.cdi.owned then s.modCdi (fun c => { c with owned := true, owner := t })
  else if v.getLsbD 1 && held then s.cdiRelease
  else s

/-- A write of CDI_KEYSEL (R433): it ends any operation. -/
def cdiKeyselWrite (t : Transport) (v : Word) : State → Res :=
  cdiHeld t (fun s =>
    (s.modCdi (fun c => { c with mode := v.extractLsb' 30 2, keySlot := v.extractLsb' 0 9 })).cdiEnd)

/-- A write of CDI_CTRL (R433): its fields, then ABORT, then GO. -/
def cdiCtrlWrite (t : Transport) (v : Word) : State → Res :=
  cdiHeld t (fun s =>
    let s := s.modCdi (fun c => { c with bytes := v.extractLsb' 16 5, final := v.getLsbD 2, aad := v.getLsbD 1 })
    let s := if v.getLsbD 3 then s.cdiEnd else s
    if v.getLsbD 0 then s.cdiGo else s)

/-- A group of words with word `k` replaced. -/
def setWord (w v k : Nat) (x : Word) : Nat := v % 2 ^ (32 * k) + x.toNat * 2 ^ (32 * k) + v / 2 ^ (32 * (k + 1)) * 2 ^ (32 * (k + 1)) % 2 ^ w

/-- A write to the CDI data and status registers (R433), by offset in the window's page. -/
def cdiDataWrite (t : Transport) (off : Nat) (v : Word) : State → Res :=
  cdiHeld t (fun s => s.modCdi (fun c =>
    if 0x10 ≤ off ∧ off < 0x1C then { c with iv := BitVec.ofNat 96 (setWord 96 c.iv.toNat ((off - 0x10) / 4) v) }
    else if 0x20 ≤ off ∧ off < 0x30 then { c with din := BitVec.ofNat 128 (setWord 128 c.din.toNat ((off - 0x20) / 4) v) }
    else if 0x40 ≤ off ∧ off < 0x50 then { c with tag := BitVec.ofNat 128 (setWord 128 c.tag.toNat ((off - 0x40) / 4) v) }
    else if off = 0x50 then { c with
      tagLen := v.extractLsb' 4 4, keyChanged := c.keyChanged && !v.getLsbD 3, done := c.done && !v.getLsbD 2 }
    else c))

/-- A read of a CDI register by offset (R433): CDI_LOCK by everyone; the others by the holder, and otherwise undefined, a free
word (R435, log 46). WO and W1S fields read as R30 states. -/
def cdiRead (t : Transport) (off : Nat) (s : State) : Word × State :=
  let c := s.crypt.cdi
  let ok (v : Nat) : Word × State := (BitVec.ofNat 32 v, s)
  if off = 0 then ok (b2n c.owned * 2 ^ 16 + (if c.owned then c.owner.val * 2 ^ 8 else 0))
  else if !s.cdiHolder t then s.freeBits 32
  else if off = 4 then ok (c.mode.toNat * 2 ^ 30 + c.keySlot.toNat)
  else if off = 8 then ok (c.bytes.toNat * 2 ^ 16 + b2n c.final * 4 + b2n c.aad * 2 + b2n c.job.isSome)
  else if 0x10 ≤ off ∧ off < 0x1C then ok (bitsOf c.iv.toNat (8 * (off - 0x10)) 32)
  else if 0x30 ≤ off ∧ off < 0x40 then ok (bitsOf c.dout.toNat (8 * (off - 0x30)) 32)
  else if 0x40 ≤ off ∧ off < 0x50 then ok (bitsOf c.tag.toNat (8 * (off - 0x40)) 32)
  else if off = 0x50 then
    ok (c.err.toNat * 256 + c.tagLen.toNat * 16 + b2n c.keyChanged * 8 + b2n c.done * 4 + b2n c.job.isSome * 2
      + b2n c.active)
  else ok 0

/-- CDI_BLOCK_DONE. -/
def execCdiBlockDone (s : State) : Res := .next s.cdiBlockDone

/-! The entropy source (R418). -/

/-- RNG_HEALTH_FAIL (R418, R437): 0 repetition, 1 proportion. -/
def execRngHealthFail (test : Fin 2) (s : State) : Res :=
  .next (if s.running then
      (((s.modCrypt (fun c => { c with rngGood := false })).count (.crypt 0 .rngHealthFail)).event 0 0x0D03 (w8 test.val))
    else s)

/-- RNG_RESEED (R418): the generator reseeds; after a failed health test, at the next test that passes. -/
def execRngReseed (s : State) : Res :=
  .next (if s.running then s.modCrypt (fun c => { c with rngGood := true }) else s)

end Sys2Proof.Machine
end

