-- ==== Sys2Proof/Machine/Gate.lean ====
section
/-! DEFINITION. Gate control lists: entries, positions, windows, W_max, hold and preemption status (chapter 10 of the
spec). -/

namespace Sys2Proof.Machine

/-- Gates of a port. -/
def State.pg (s : State) (p : Nat) : PortGate := vget s.net.gates p

/-- Gates of a port changed. -/
def State.modPg (s : State) (p : Nat) (f : PortGate → PortGate) : State :=
  s.modNet (fun n => { n with gates := vmod n.gates p f })

/-- ENABLE of a list. -/
def GateList.enabled (l : GateList) : Bool := byteAt l.header 0 == 1
/-- PREEMPT_MASK. -/
def GateList.preemptMask (l : GateList) : Nat := byteAt l.header 1
/-- ENTRIES. -/
def GateList.count (l : GateList) : Nat := le l.header 2 2
/-- HOLD_ADVANCE in ns. -/
def GateList.holdAdvance (l : GateList) : Nat := le l.header 4 2
/-- BASE_TIME. -/
def GateList.base (l : GateList) : Nat := le l.header 8 8
/-- CYCLE_TIME. -/
def GateList.cycle (l : GateList) : Nat := le l.header 16 4
/-- CHANGE_LEAD. -/
def GateList.lead (l : GateList) : Nat := le l.header 20 4

/-- An entry of a list (R242); an unwritten one is the reset entry. -/
def GateList.entryAt (l : GateList) (k : Nat) : Bytes := tgetD l.entries k GateList.resetEntry

/-- The stretches of a list from position `pos` in its cycle (R243): entry, gate states, length; cut at the cycle's end,
the last one lasting to it. -/
def GateList.spansFrom (l : GateList) : Nat → Nat → Nat → List (Nat × Nat × Nat)
  | 0, _, _ => []
  | n + 1, k, pos =>
    if l.cycle ≤ pos then []
    else
      let e := l.entryAt k
      let len := if n = 0 then l.cycle - pos else min (le e 4 4) (l.cycle - pos)
      (k, byteAt e 0, len) :: GateList.spansFrom l n (k + 1) (pos + len)

/-- The stretches of one cycle. -/
def GateList.spans (l : GateList) : List (Nat × Nat × Nat) := l.spansFrom l.count 0 0

/-- The stretches from a position of the cycle on, the current one shortened. -/
def dropTime : List (Nat × Nat × Nat) → Nat → List (Nat × Nat × Nat)
  | [], _ => []
  | x :: xs, p => if p < x.2.2 then (x.1, x.2.1, x.2.2 - p) :: xs else dropTime xs (p - x.2.2)

/-- The entry at a position of the cycle. -/
def GateList.entryOf (l : GateList) (pos : Nat) : Nat :=
  match dropTime l.spans pos with
  | [] => 0
  | x :: _ => x.1

/-- The open time of a class from here on: the length of the leading run of open stretches, and whether it ended. -/
def openRun (tc : Nat) : List (Nat × Nat × Nat) → Nat × Bool
  | [] => (0, false)
  | x :: xs => if x.2.1.testBit tc then let r := openRun tc xs; (x.2.2 + r.1, r.2) else (0, true)

/-- The end of the window in which a class is open at instant `t` under a list that started at `start` (R243): nothing if
the gate is closed, `some none` if it never closes. -/
def GateList.windowEnd (l : GateList) (start tc t : Nat) : Option (Option Nat) :=
  if !l.enabled then some none
  else
    let pos := (((t : Int) - start) % (max 1 l.cycle : Nat)).toNat
    let ahead := dropTime l.spans pos
    match ahead with
    | [] => none
    | x :: _ =>
      if !x.2.1.testBit tc then none
      else
        let r := openRun tc (ahead ++ l.spans)
        if r.2 then some (some (t + r.1)) else some none

/-- The window of a class at an instant, a PENDING change included: the operational list before C, the administrative
list from C on (R249). -/
def PortGate.windowEnd (g : PortGate) (tc t : Nat) : Option (Option Nat) :=
  if g.state == .pending && decide (g.changeAt ≤ t) then g.admin.windowEnd g.changeAt tc t
  else
    match g.oper.windowEnd g.start tc t with
    | none => none
    | some e =>
      if g.state == .pending && (match e with | some e => decide (g.changeAt ≤ e) | none => true) then
        match g.admin.windowEnd g.changeAt tc g.changeAt with
        | none => some (some g.changeAt)
        | some e => some e
      else some e

/-- The longest run of open time of a class over a list of stretches, in ns. -/
def longestRun (tc : Nat) : List (Nat × Nat × Nat) → Nat → Nat
  | [], cur => cur
  | x :: xs, cur => if x.2.1.testBit tc then longestRun tc xs (cur + x.2.2) else max cur (longestRun tc xs 0)

/-- The time of one bit at a line rate in Mbit/s, in ps (R249). -/
def bitPs (rate : Nat) : Nat := 1000000 / (max 1 rate)

/-- W_max of a class (R251): frame bytes of its longest window at a line rate; none where the gate never closes. -/
def GateList.wMax (l : GateList) (tc rate : Nat) : Option Nat :=
  if !l.enabled then none
  else if l.spans.all (fun x => x.2.1.testBit tc) then none
  else some (longestRun tc (l.spans ++ l.spans) 0 * 1000 / (8 * bitPs rate) - 8)

/-- A class is preemptable now (R253): preemption is ACTIVE and its bit is in PREEMPT_MASK. -/
def PortGate.preemptable (g : PortGate) (tc : Nat) : Bool := g.status == .active && g.oper.preemptMask.testBit tc

/-- Gate state codes (R245). -/
def GateState.code : GateState → Nat
  | .disabled => 0 | .running => 1 | .pending => 2

/-- Preemption status codes (R265). -/
def PreemptStatus.code : PreemptStatus → Nat
  | .disabled => 0 | .verifying => 1 | .active => 2 | .failed => 3

/-- The flags of the gate status and events (R265): PAST_BASE and CHANGE_LATE. -/
def PortGate.flags (g : PortGate) : Nat := b2n g.pastBase + 2 * b2n g.changeLate

/-- GATE_CHANGED to the owner of the port's list pair (R247). -/
def State.gateChangedEvent (s : State) (p : Nat) : State :=
  let g := s.pg p
  s.event (s.ownerOf 5 p) 0x0701 (w8 p ++ [1] ++ w8 g.state.code ++ w8 g.flags ++ w64 g.changeAt)

/-- A change of preemption status writes PREEMPT_STATUS (R253). -/
def State.preemptTo (s : State) (p : Nat) (st : PreemptStatus) : State :=
  if (s.pg p).status = st then s
  else
    let s := s.modPg p (fun g => { g with status := st })
    s.event (s.ownerOf 5 p) 0x0702 (w8 p ++ [2] ++ w8 st.code ++ w8 (s.pg p).flags)

/-- Preemption begins on a port whose link is up: verification, or ACTIVE at once (R253). -/
def State.preemptStart (s : State) (p : Nat) : State :=
  let g := s.pg p
  if !g.preemptEn then s.preemptTo p .disabled
  else if g.verifyEn then (s.modPg p (fun g => { g with attempts := 1 })).preemptTo p .verifying
  else s.preemptTo p .active

/-- Hold asserted (R257, R264). -/
def State.assertHold (s : State) (p : Nat) : State :=
  if (s.pg p).hold then s else (s.modPg p (fun g => { g with hold := true })).count (.gate p .holds)

/-- The change of a PENDING port (R247): the administrative list runs from C with entry 0 and hold released. -/
def State.gateChange (s : State) (p : Nat) : State :=
  let s := s.modPg p (fun g => { g with
    oper := g.admin, start := g.changeAt, entry := 0, hold := false
    state := if g.admin.enabled then .running else .disabled })
  s.gateChangedEvent p

/-- p of R243. -/
def PortGate.position (g : PortGate) (now : Nat) : Nat := (((now : Int) - g.start) % (max 1 g.oper.cycle : Nat)).toNat

/-- The entry at that position. -/
def PortGate.entryNow (g : PortGate) (now : Nat) : Nat := g.oper.entryOf (g.position now)

/-- The operational list is put where local time says (R243, R248): the current entry follows the clock. -/
def PortGate.reposition (g : PortGate) (now : Nat) : PortGate :=
  if g.oper.enabled then { g with entry := g.entryNow now } else g

end Sys2Proof.Machine
end

