-- ==== Sys2Proof/Machine/Matcher.lean ====
section
/-! DEFINITION. What a copy looks like on the line, weighted fair queueing, and the fabric matcher (chapters 08 and 09 of the
spec). -/

namespace Sys2Proof.Machine

/-- The bytes of a tag header rewritten for a copy that leaves tagged: VID as classified, DEI set on a yellow frame
(R134, R226). -/
def retagged (f : Frame) (tpid tci : Nat) : Bytes :=
  let vid := if tci % 4096 = 0 then f.vid else tci % 4096
  let dei := b2n (f.yellow || tci.testBit 12)
  beBytes 2 tpid ++ beBytes 2 (tci / 8192 * 8192 + dei * 4096 + vid)

/-- The bytes of a copy from destination address to the end of its payload (R138, R155, R226, R282, R289, R290, R293):
SecTAG and ICV taken off, the outer tag as its port has it, the R-TAG stripped or added. A frame cut short has no FCS and no
ICV at its end (log 68); the copy of a whole frame that is stomped carries every byte received, the FCS of its ingress port with them. The PCP of a tag that the device adds is free (log 14). -/
def State.copyBytes (s : State) (f : Frame) (w : Waybill) (fresh : Nat) : Bytes :=
  let b := if f.cut then f.bytes else f.bytes.take f.lim
  let icv := if f.cut then 0 else 16
  let h := parse false b.length b
  let secAt := secTagAt b 12
  let b := match h.sec with
    | none => b
    | some _ =>
      if secAt.1.isSome then b.take 12 ++ (b.drop secAt.2).take (b.length - secAt.2 - icv)
      else
        let v := vlanTagsAt b 12
        let e := secTagAt b v.2.2
        b.take v.2.2 ++ (b.drop e.2).take (b.length - e.2 - icv)
  let v := vlanTagsAt b 12
  let outer := b.take 12
  let rest := if v.1 = 0 then b.drop 12 else b.drop 16
  let inner := if v.1 = 2 then rest.take 4 else []
  let rest := if v.1 = 2 then rest.drop 4 else rest
  let strip := match f.recovery with
    | some i => bitOf (byteAt (s.recoveryRun i).record 6) 1
    | none => false
  let rest := if strip && be rest 0 2 == 0xF1C1 then rest.drop 6 else rest
  let rest := match w.addRtag with
    | some n => beBytes 2 0xF1C1 ++ [0, 0] ++ beBytes 2 n ++ rest
    | none => rest
  let tag :=
    if !w.tagged then []
    else if 0 < v.1 then retagged f (be b 12 2) v.2.1
    else beBytes 2 0x8100
      ++ beBytes 2 ((Config.freeBits 3 fresh).toNat * 8192 + b2n f.yellow * 4096 + f.vid)
  let out := outer ++ tag ++ inner ++ rest
  let out := if w.egress < 25 then out ++ zeros (60 - out.length) else out
  if w.stomp && f.ended && !f.cut then out ++ f.bytes.drop f.lim else out

/-- The bytes that protection adds to a copy: SecTAG and ICV (R422). -/
def Waybill.secBytes (w : Waybill) (etype : Nat) : Nat :=
  if leavesClear w.policy etype then 0 else (if bitOf (byteAt w.policy 2) 0 then 16 else 8) + 16

/-- T of R216: the copy as transmitted, from destination address to FCS; of a frame still being received, from its length
estimate. -/
def State.lengthT (s : State) (f : Frame) (w : Waybill) : Nat :=
  let n := (s.copyBytes f w 0).length + 4 + w.secBytes f.cipherType
  if f.ended then n else Int.toNat ((n : Int) + f.est - f.trueLen)

/-- L of R216. -/
def State.lengthL (s : State) (f : Frame) (w : Waybill) : Nat :=
  s.lengthT f w + (s.queue w.egress w.tc).cfg.overhead

/-! Weighted fair queueing (R218 to R220). -/

/-- The difference of two 40-bit tags as a signed number (R218). -/
def tagDiff (a b : Nat) : Int := signedOf 40 (toTwos 40 ((a : Int) - b))

/-- The later of two tags. -/
def tagMax (a b : Nat) : Nat := if 0 ≤ tagDiff a b then a else b

/-- The head of an egress queue and its frame. -/
def State.headOf (s : State) (p tc : Nat) : Option (Waybill × Frame) :=
  match (s.queue p tc).waiting with
  | [] => none
  | i :: _ => (s.waybill? i).bind (fun w => (s.frame? w.frame).map (fun f => (w, f)))

/-- A non-express queue whose head has no tag gives it one (R218). -/
def State.tagHead (s : State) (p tc : Nat) : State :=
  let q := s.queue p tc
  if q.cfg.express || q.tag.isSome then s
  else
    match s.headOf p tc with
    | none => s
    | some (w, f) =>
      s.modQueue p tc (fun q => { q with
        tag := some ((tagMax (s.egr p).v q.fprev + s.lengthL f w * 1024 / (max 1 q.cfg.weight)) % 2 ^ 40) })

/-- Empty queues whose tag V has passed join at V (R219). -/
def State.catchUp (s : State) (p : Nat) : State :=
  let v := (s.egr p).v
  forAll (List.range 8) (fun t s => s.modQueue p t (fun q =>
    if q.waiting.isEmpty && decide (tagDiff q.fprev v < 0) then { q with fprev := v } else q)) s

/-- The head of a queue leaves it without being served: the next head takes its own tag. -/
def State.dropHeadTag (s : State) (p tc : Nat) : State :=
  ((s.modQueue p tc (fun q => { q with tag := none })).catchUp p).tagHead p tc

/-! The matcher (R196 to R200). -/

/-- Cells of a frame that are in the buffer: all of them once it has ended, else as many as its line has delivered since
its time-stamp, up to MAX_FRAME (R131, R197). -/
def State.cellsIn (s : State) (f : Frame) : Nat :=
  if f.ended then cellsOf f.trueLen
  else
    max (f.bytes.length / 64)
      (min (vget s.net.rx f.ingress).maxFrame ((s.now - f.stamp) * (s.phy f.ingress).rate / 8000) / 64)

/-- All cells of the frame have crossed. -/
def Frame.allCrossed (f : Frame) (crossed : Nat) : Bool := f.ended && decide (cellsOf f.trueLen ≤ crossed)

/-- A waybill stands in its virtual output queue: external, before its first cell; inner, until its last. -/
def Waybill.inVoq (w : Waybill) : Bool :=
  w.state == .provisional || w.state == .confirmed || (w.state == .departing && decide (25 ≤ w.egress) && !w.left)

/-- The heads of the virtual output queues, in arrival order. -/
def State.voqHeads (s : State) : List Waybill :=
  (s.net.waybills.filter (·.inVoq)).foldl (fun l w =>
    if l.any (fun x => x.ingress == w.ingress && x.egress == w.egress && x.tc == w.tc) then l else l ++ [w]) []

/-- The rates of the feeds that an input serves (R198). -/
def State.feedRates (s : State) (i : Nat) : Nat :=
  ((s.net.waybills.filter (fun w => w.ingress == i && w.egress < 25 && w.state == .departing &&
      match s.frame? w.frame with | some f => !f.allCrossed w.crossed | none => false)).map
    (fun w => (s.phy w.egress).rate)).foldl (· + ·) 0

/-- The port can take this copy: its link is up, and its cipher has an association for a protected copy (R209, R425). -/
def State.portTakes (s : State) (w : Waybill) : Bool := s.linkUp w.egress && (s.copyClear w || s.txSaGood w.egress)

/-- A head waits only for the feed budget (R198). -/
def State.overBudget (s : State) (w : Waybill) : Bool :=
  decide (w.egress < 25) && decide (25600 < s.feedRates w.ingress + (s.phy w.egress).rate)

/-- A head could cross but for the budget (R199). -/
def State.wants (s : State) (w : Waybill) : Bool :=
  if w.egress < 25 then
    (w.state == .confirmed || (w.state == .provisional && w.cut)) && w.crossed == 0 && s.portTakes w
  else
    (w.state == .confirmed || w.state == .departing) &&
      match s.frame? w.frame with
      | some f => decide (w.crossed < s.cellsIn f)
      | none => false

/-- Eligible heads (R199). -/
def State.eligibleHeads (s : State) : List Waybill := s.voqHeads.filter (fun w => s.wants w && !s.overBudget w)

/-- A copy's class is express at its egress port (R194). -/
def State.isExpress (s : State) (w : Waybill) : Bool := (s.queue w.egress w.tc).cfg.express

/-- Feed requests (R197): output, input, cells held ahead of the transmit point, where the window has room and the next
cell is in the buffer. Cells sent are counted from the fabric ticks since the start. -/
def State.feedRequests (s : State) : List (Nat × Nat × Nat) :=
  (List.range 25).filterMap (fun j =>
    match (s.egr j).line with
    | none => none
    | some l =>
      match s.waybill? l.waybill with
      | none => none
      | some w =>
        match s.frame? w.frame with
        | none => none
        | some f =>
          let bytes := l.sent + (s.tick - l.startTick) * 1250 / (8 * bitPs (s.phy j).rate) - 8
          let held := w.crossed - min w.crossed (bytes / 64)
          if held < 4 ∧ w.crossed < s.cellsIn f then some (j, w.ingress, held) else none)

/-- The feed request that an input serves: the smallest window, then the lowest output (R197). -/
def bestFeed (l : List (Nat × Nat × Nat)) (i : Nat) : Option (Nat × Nat × Nat) :=
  (l.filter (fun r => r.2.1 == i)).foldl (fun b r => match b with
    | none => some r
    | some x => if r.2.2 < x.2.2 then some r else some x) none

/-- The first element at or after a pointer in round-robin order over 28, express ones first (R199). -/
def roundRobin (ptr : Nat) (l : List (Nat × Bool)) : Option (Nat × Bool) :=
  let pool := if l.any (·.2) then l.filter (·.2) else l
  pool.foldl (fun b x => match b with
    | none => some x
    | some y => if (x.1 + 28 - ptr) % 28 < (y.1 + 28 - ptr) % 28 then some x else some y) none

/-- Matching in progress: free inputs and outputs, pairs made, pointers. -/
structure Matching where
  ins : List Nat
  outs : List Nat
  pairs : List (Nat × Nat)
  fab : Fabric
deriving DecidableEq, Repr, Inhabited

/-- One round of request, grant and accept (R199) over requests (input, output, express). -/
def Matching.round (m : Matching) (reqs : List (Nat × Nat × Bool)) (first : Bool) : Matching × Bool :=
  let live := reqs.filter (fun r => m.ins.contains r.1 && m.outs.contains r.2.1)
  let grants := m.outs.filterMap (fun j =>
    (roundRobin (vget m.fab.grant j) ((live.filter (fun r => r.2.1 == j)).map (fun r => (r.1, r.2.2)))).map
      (fun g => (g.1, j, g.2)))
  let accepts := m.ins.filterMap (fun i =>
    (roundRobin (vget m.fab.accept i) ((grants.filter (fun g => g.1 == i)).map (fun g => (g.2.1, g.2.2)))).map
      (fun a => (i, a.1)))
  let fab := if first then
      accepts.foldl (fun f p => { f with
        grant := vset f.grant p.2 ((p.1 + 1) % 28), accept := vset f.accept p.1 ((p.2 + 1) % 28) }) m.fab
    else m.fab
  ({ ins := m.ins.filter (fun i => !accepts.any (fun p => p.1 == i))
     outs := m.outs.filter (fun j => !accepts.any (fun p => p.2 == j))
     pairs := m.pairs ++ accepts, fab := fab }, !accepts.isEmpty)

/-- Up to four rounds, stopping after a round without a pair (R199). -/
def Matching.rounds (reqs : List (Nat × Nat × Bool)) : Nat → Bool → Matching → Matching
  | 0, _, m => m
  | n + 1, first, m =>
    let r := m.round reqs first
    if r.2 then Matching.rounds reqs n false r.1 else r.1

/-- The class that a matched pair carries (R200), among its eligible heads, with the class pointer after it. -/
def pickClass (heads : List Waybill) (express : Waybill → Bool) (ptr : Nat) : Option (Waybill × Option Nat) :=
  match heads.find? (fun w => w.state == .departing) with
  | some w => some (w, none)
  | none =>
    let hi := (heads.filter express).foldl (fun b w => match b with
      | none => some w
      | some x => if x.tc < w.tc then some w else some x) (none : Option Waybill)
    match hi with
    | some w => some (w, none)
    | none =>
      (heads.foldl (fun b w => match b with
        | none => some w
        | some x => if (w.tc + 8 - ptr) % 8 < (x.tc + 8 - ptr) % 8 then some w else some x) (none : Option Waybill)).map
        (fun w => (w, some ((w.tc + 1) % 8)))

/-- Transmit counters of a copy that went through (R157, R237). -/
def State.countTx (s : State) (p tc len : Nat) (early : Bool) : State :=
  let s := (s.count (.port p .txFrames)).count (.port p .txBytes) len
  let s := if early then s.count (.port p .txCutThrough) else s
  (s.count (.queue (p * 8 + tc) .txFrames)).count (.queue (p * 8 + tc) .txBytes) len

/-- An envelope frame as firmware gets it at F27 (R79, R81): the VLAN identifier of its tag, and what follows the EtherType. -/
def State.inboundOf (s : State) (w : Waybill) (f : Frame) : Inbound :=
  let b := s.copyBytes f w 0
  let v := vlanTagsAt b 12
  { port := f.ingress, dst := BitVec.ofNat 48 (be b 0 6), src := BitVec.ofNat 48 (be b 6 6)
    vid := if v.1 = 0 then 0 else BitVec.ofNat 12 (v.2.1 % 4096), body := b.drop (v.2.2 + 2) }

/-- A copy to F26 or F27 whose last cell has crossed is with the firmware or the tunnels: its waybill becomes FREE. An envelope waits
there to be verified (R82, ENVELOPE_RECEIVE); any other frame to the management address is dropped and counted (R135, R195). -/
def State.innerArrive (s : State) (w : Waybill) (f : Frame) : State :=
  let envelope := w.egress == 27 && be f.bytes 0 6 == Config.managementMac.toNat && f.etype == 0x88B7
  let s := if envelope then s.modNet (fun n => { n with inbox := n.inbox ++ [s.inboundOf w f] }) else s
  let s := if w.egress = 27 ∧ be f.bytes 0 6 = Config.managementMac.toNat ∧ f.etype ≠ 0x88B7 then s.count .mgmtDropped
    else s.countTx w.egress w.tc f.trueLen false
  s.deliverCopy w

/-- One cell of a waybill crosses (R195, R196): its first cell to an external port moves it to its egress queue. -/
def State.crossCell (s : State) (w : Waybill) : State :=
  let s := s.modWaybill w.id (fun w => { w with crossed := w.crossed + 1, state := .departing })
  if w.egress < 25 then
    if w.crossed = 0 then
      (s.modQueue w.egress w.tc (fun q => { q with waiting := q.waiting ++ [w.id] })).tagHead w.egress w.tc
    else s
  else
    match s.frame? w.frame with
    | some f =>
      if !f.allCrossed (w.crossed + 1) then s
      else if w.egress = 25 then s.modWaybill w.id (fun w => { w with left := true })
      else s.innerArrive w f
    | none => s

/-- Heads that the feed budget or a missing association holds back are counted (R198, R425). -/
def State.countHeld (s : State) : State :=
  let heads := s.voqHeads
  let deferred := (List.range 28).filter (fun i => heads.any (fun w => w.ingress == i && s.wants w && s.overBudget w))
  let s := forAll deferred (fun i s => s.count (.pol i .budgetDefer)) s
  forAll (heads.filter (fun w => w.egress < 25 && !w.heldNoSa && !s.copyClear w && !s.txSaGood w.egress
      && s.linkUp w.egress))
    (fun w s => (s.count (.crypt w.egress .txHeldNoSa)).modWaybill w.id (fun w => { w with heldNoSa := true })) s

/-- CELL_TIME_MATCH (R196 to R200): feeds first, then up to four rounds, then the cells cross. -/
def State.cellTime (s : State) : State :=
  let s := s.countHeld
  let feeds := (List.range 28).filterMap (bestFeed s.feedRequests)
  let heads := s.eligibleHeads
  let reqs := (heads.map (fun w =>
    (w.ingress, w.egress, heads.any (fun x => x.ingress == w.ingress && x.egress == w.egress && s.isExpress x)))).eraseDups
  let m0 : Matching :=
    { ins := (List.range 28).filter (fun i => !feeds.any (fun f => f.2.1 == i))
      outs := (List.range 28).filter (fun j => !feeds.any (fun f => f.1 == j)), pairs := [], fab := s.net.fabric }
  let m := Matching.rounds reqs 4 true m0
  let s := forAll feeds (fun r s => match (s.egr r.1).line with
    | some l => s.modWaybill l.waybill (fun w => { w with crossed := w.crossed + 1 })
    | none => s) s
  let s := s.modNet (fun n => { n with fabric := m.fab })
  forAll m.pairs (fun p s =>
    let mine := heads.filter (fun w => w.ingress == p.1 && w.egress == p.2)
    match pickClass mine (fun w => s.isExpress w) (tgetD s.net.fabric.cls (p.1 * 28 + p.2) 0) with
    | none => s
    | some (w, ptr) =>
      let s := match ptr with
        | some c => s.modNet (fun n => { n with fabric := { n.fabric with cls := tset n.fabric.cls (p.1 * 28 + p.2) c } })
        | none => s
      s.crossCell w) s

/-- CELL_TIME_MATCH: nothing is forwarded before the memory test of a cold start has ended (R460). -/
def execCellTimeMatch (s : State) : Res := .next (if s.memTest.result = 2 then s else s.cellTime)

end Sys2Proof.Machine
end

