-- ==== Sys2Proof/Machine/TimeOps.lean ====
section
/-! DEFINITION. The local clock, alarms, TIME_IO pins and epochs (chapter 11 of the spec). -/

namespace Sys2Proof.Machine

/-- The time unit changed. -/
def State.modTime (s : State) (f : TimeUnit → TimeUnit) : State := { s with time := f s.time }

/-- The signed 32-bit difference of R45 between an instant and now. -/
def diff32 (t now : Nat) : Int := signedOf 32 (toTwos 32 ((t : Int) - now))

/-- One fabric tick of the local clock (R267, R269, R271): the increment written for it is in force. -/
def TimeUnit.tick (u : TimeUnit) : TimeUnit :=
  if u.run then
    let i := u.nextIncr.toNat
    let t := u.ns * 2 ^ 32 + u.frac + i
    { u with incr := u.nextIncr, ns := t / 2 ^ 32 % 2 ^ 64, frac := t % 2 ^ 32 }
  else { u with incr := u.nextIncr }

/-- One fabric tick of 1.25 ns (R221, R267); a step of the local clock may apply on it, and the count is then the old value plus the
step plus the increment (R269). -/
def State.fabricTick (s : State) (step : Int) : State :=
  let u := s.time.tick
  { s with tick := s.tick + 1, time := if s.pd0.die then { u with ns := toTwos 64 ((u.ns : Int) + step) } else s.time }

/-- The resolution of a port's time-stamps in ps (R281). -/
def stampRes (p rate : Nat) : Nat :=
  if p ≤ 1 then (if rate = 10000 then 100 else 400)
  else if p = 2 then 100 else if p ≤ 4 then 400 else if p ≤ 16 then 800 else 1250

/-- An instant in ps as a port stamps it: the last multiple of its resolution (R281, log 26). -/
def State.quantise (s : State) (p ps : Nat) : Nat :=
  let r := stampRes p (vget s.net.phys p).rate
  ps / r * r

/-- The fraction of an instant in ps, in units of 2⁻¹⁶ ns (R124, R281). -/
def psFrac (ps : Nat) : Nat := ps % 1000 * 65536 / 1000

/-- The local clock in ps. -/
def State.clockPs (s : State) : Nat := s.now * 1000 + s.time.frac * 1000 / 2 ^ 32

/-- Alarm `n` fires (R276). -/
def State.fireAlarm (s : State) (n : Nat) (late : Bool) : State :=
  let s := s.modTime (fun u => { u with
    alarms := vmod u.alarms n (fun a => { a with active := { a.active with enable := false }, late := false })
    fired := u.fired ||| (1#16 <<< n)
    lateBits := if late then u.lateBits ||| (1#16 <<< n) else u.lateBits })
  s.setCause n 7

/-- The difference of an alarm's instant and now. -/
def State.alarmDiff (s : State) (n : Nat) : Int := diff32 (vget s.time.alarms n).active.time.toNat s.now

/-- A commit applies alarm `n` (R276): an instant already past fires late, an instant of now fires on time. -/
def State.commitAlarm (s : State) (n : Nat) : State :=
  let s := s.modTime (fun u => { u with
    alarms := vmod u.alarms n (fun a => { a with active := a.shadow, late := false }) })
  if !(vget s.time.alarms n).active.enable then s
  else if s.alarmDiff n < 0 then s.fireAlarm n true
  else if s.alarmDiff n = 0 then s.fireAlarm n false
  else s

/-- A function that drives its pin: PERIODIC or TRIGGER. -/
def IoRegs.drives (r : IoRegs) : Bool := r.function == 2 || r.function == 3

/-- The start instant of an output (R285). -/
def IoRegs.startAfter (r : IoRegs) (now : Nat) : Nat :=
  let st := r.start.toNat
  let p := max 1 r.period.toNat
  if 0 < diff32 st now then st
  else (((st : Int) + (((now : Int) - st) / p + 1) * p) % (2 ^ 64 : Nat)).toNat

/-- The level of an idle output (R284, POLARITY). -/
def State.ioLevel (s : State) (n : Nat) (pulse : Bool) : State :=
  s.emit (.pin (32 + n) (pulse != (vget s.time.io n).active.polarity))

/-- A commit applies the registers of a TIME_IO pin (R285, log 21): an output starts where they change, and one that has stopped
starts again; a running output whose registers stay runs on. -/
def State.commitIo (s : State) (n : Nat) : State :=
  let x := vget s.time.io n
  if x.active = x.shadow ∧ (x.running ∨ !x.shadow.drives) then s
  else
    let r := x.shadow
    let s := s.modTime (fun u => { u with io := vmod u.io n (fun x => { x with
      active := r, running := r.drives, pulses := if r.drives then 0 else x.pulses, begun := 0, inPulse := false
      startAt := if r.drives then r.startAfter u.ns else x.startAt, waiting := none }) })
    if r.drives then s.ioLevel n false else s

/-- The next edge of a driven output (R285): a pulse begins and is counted, or ends; a TRIGGER pin stops after COUNT. -/
def State.ioEdge (s : State) (n : Nat) : State :=
  let x := vget s.time.io n
  if !x.inPulse then
    let s := s.modTime (fun u => { u with io := vmod u.io n (fun x => { x with
      inPulse := true, begun := x.begun + 1, pulses := if x.pulses = 0xFFFF then x.pulses else x.pulses + 1 }) })
    (s.count (.time (200 + n) .pulses)).ioLevel n true
  else
    let stop := x.active.function == 3 && decide (x.active.count.toNat ≤ x.begun)
    let s := s.modTime (fun u => { u with io := vmod u.io n (fun x => { x with inPulse := false, running := !stop }) })
    s.ioLevel n false

/-- A capture as TIME_READ_CAPTURES and TIME_CAPTURE carry it (R286). -/
def Capture.bytes (c : Capture) : Bytes := w64 c.ns ++ w16 c.frac ++ w8 (b2n c.falling) ++ w8 c.seq ++ zeros 4

/-- A capture kept, or lost on a full pin (R284). -/
def State.keepCapture (s : State) (n : Nat) (c : Capture) : State :=
  let x := vget s.time.io n
  if 16 ≤ x.captures.length then
    (s.modTime (fun u => { u with io := vmod u.io n (fun x => { x with overflow := true, waiting := none }) })).count
      (.time (200 + n) .capOverflow)
  else
    let c := { c with seq := x.nextSeq }
    let s := s.modTime (fun u => { u with io := vmod u.io n (fun x => { x with
      captures := x.captures ++ [c], nextSeq := (x.nextSeq + 1) % 256, waiting := none }) })
    (s.count (.time (200 + n) .captures)).event (s.ownerOf 12 n) 0x0803 (c.bytes ++ w8 n)

/-- Where the local clock puts a running output (R285): in the first WIDTH ns of a period from S on. -/
def TimeIo.inside (x : TimeIo) (now : Nat) : Bool :=
  decide (x.startAt ≤ now) && decide ((now - x.startAt) % (max 1 x.active.period.toNat) < x.active.width.toNat)

/-- A CAPTURE pin selects an edge (R284). -/
def IoRegs.selects (r : IoRegs) (falling : Bool) : Bool :=
  r.function == 1 && (r.edge == 2 || (r.edge == 0 && !falling) || (r.edge == 1 && falling))

/-- An edge on a CAPTURE pin (R284): a new level begins; a selected edge is kept at once without a filter, else the first one of
the run waits. -/
def State.captureEdge (s : State) (n : Nat) (falling : Bool) : State :=
  let x := vget s.time.io n
  let c : Capture := { ns := s.now, frac := s.time.frac / 65536, falling := falling, seq := 0 }
  let s := s.modTime (fun u => { u with io := vmod u.io n (fun x => { x with lastEdge := s.tick }) })
  if !x.active.selects falling then s
  else if x.active.filter = 0 then s.keepCapture n c
  else if x.waiting.isSome then s
  else s.modTime (fun u => { u with io := vmod u.io n (fun x => { x with waiting := some c }) })

/-- The pin has held its level for FILTER_US: 800 fabric ticks are 1 µs (R284, log 21). -/
def TimeIo.held (x : TimeIo) (tick : Nat) : Bool := decide (x.lastEdge + x.active.filter.toNat * 800 ≤ tick)

/-- The pin has held a level for FILTER_US (R284): the waiting edge is kept if it led to that level. -/
def State.filterEnd (s : State) (n : Nat) (high : Bool) (c : Capture) : State :=
  if c.falling == !high then s.keepCapture n c
  else s.modTime (fun u => { u with io := vmod u.io n (fun x => { x with waiting := none }) })

/-- SOURCE code 1 is GPTP. -/
def TimeUnit.driving (u : TimeUnit) (i : Nat) : Bool := u.source == 1 && u.driver.toNat == i

/-- A new synchronisation epoch (R273): causes 0 start, 1 TIME_SET_SOURCE, 2 grandmaster, 3 TIME_NEW_EPOCH. -/
def State.newEpoch (s : State) (cause : Nat) : State :=
  let s := s.modTime (fun u => { u with epoch := u.epoch + 1, stepped := false, stepLocked := false })
  let u := s.time
  let gm := if u.source = 1 then (vget u.inst u.driver.toNat).gm.toNat else 0
  s.event 0 0x0801 (w16 u.epoch.toNat ++ w8 cause ++ w8 u.source.toNat ++ w8 u.driver.toNat ++ zeros 3 ++ w64 gm)

/-! gPTP instances (R277, R278). -/

/-- A gPTP instance. -/
def State.gptp (s : State) (i : Nat) : Gptp := vget s.time.inst i

/-- A gPTP instance changed. -/
def State.modGptp (s : State) (i : Nat) (f : Gptp → Gptp) : State :=
  s.modTime (fun u => { u with inst := vmod u.inst i f })

/-- Codes of instance states (R278). -/
def GptpState.code : GptpState → Nat
  | .disabled => 0 | .acquiring => 1 | .locked => 2 | .holdover => 3

/-- A change of instance state writes TIME_DOMAIN_STATE to S0 (R278). -/
def State.gptpTo (s : State) (i : Nat) (st : GptpState) : State :=
  if (s.gptp i).state = st then s
  else
    let s := s.modGptp i (fun x => { x with state := st })
    s.event 0 0x0804 (w8 i ++ w8 st.code ++ zeros 6 ++ w64 (toTwos 64 (s.gptp i).lastOffset))

/-- STATIC of an instance. -/
def Gptp.isStatic (x : Gptp) : Bool := byteAt x.record 1 == 1

/-- SLAVE_PORT of an instance. -/
def Gptp.slavePort (x : Gptp) : Nat := byteAt x.record 2

/-- This device is the instance's grandmaster by configuration (R277): STATIC with SLAVE_PORT 0xFF. -/
def Gptp.ownMaster (x : Gptp) : Bool := x.isStatic && x.slavePort == 0xFF

/-- After a retention resume every enabled instance acquires again; one that is its own grandmaster stays LOCKED (R278, log 26). -/
def State.gptpResume (s : State) : State :=
  forAll ((List.range 4).filter (fun i => (s.gptp i).state != .disabled && !(s.gptp i).ownMaster)) (fun i s => s.gptpTo i .acquiring) s

end Sys2Proof.Machine
end

