-- ==== Sys2Proof/Machine/Egress.lean ====
section
/-! DEFINITION. Egress: the choice of the next frame, preemption, completion, shapers and links (chapters 08 to 10 of the
spec). -/

namespace Sys2Proof.Machine

/-- What a choice point finds at the head of a queue. -/
inductive HeadRuling where
  /-- No head, or one that waits. -/
  | wait
  /-- The head is dropped: counter and descriptor status. -/
  | drop (c : QCtr) (ds : Nat)
  /-- The head does not fit in the window that ends at this instant (R250). -/
  | miss (windowEnd : Nat)
  /-- The head waits only for its shaper (R237). -/
  | shaped
  /-- The head may start; a preemptable one that does not fit whole is cut at this many data bytes (R255). -/
  | go (cut : Option Nat)
deriving DecidableEq, Repr

/-- The last point at which a preemptable frame of length `T` may be cut so that its first fragment of at least 64 bytes ends
by `room` wire bytes, preamble and mCRC included (R254, R255). -/
def lastCut (T room : Nat) : Option Nat :=
  let k := min (room - 12) (T - 64) / 8 * 8
  if 12 ≤ room ∧ 64 ≤ T ∧ 64 ≤ k then some k else none

/-- The next point at or after `done` bytes of the fragment at which a frame may be cut (R254): a multiple of 8, at least 64,
with at least 64 bytes left of `rest`. -/
def nextCut (rest done : Nat) : Option Nat :=
  let k := (max 64 done + 7) / 8 * 8
  if k + 64 ≤ rest then some k else none

/-- t − s for a launch time in ns and a start in ps, as the signed 32-bit difference of R262, in ps. -/
def launchDiff (t startPs : Nat) : Int :=
  let m : Int := 4294967296 * 1000
  let d := ((t * 1000 : Int) - startPs) % m
  if d < m / 2 then d else d - m

/-- The egress word of a port at a rate, in ps (R244). -/
def egressWord (p rate : Nat) : Nat :=
  if p ≤ 2 then 32 * 1000000 / max 1 rate
  else if p ≤ 16 then 8 * 1000000 / max 1 rate
  else 4 * 1000000 / max 1 rate

/-- A frame that is chosen now starts on the next word boundary (R244, R249): within one word of the local clock, which the model knows
to one tick (log 10). -/
def State.startsNow (s : State) (p startPs : Nat) : Bool :=
  decide (s.clockPs ≤ startPs) && decide (startPs < s.clockPs + 1250 + egressWord p (s.phy p).rate)

/-- The head of a queue at a start instant in ps of local time (R213, R249 to R251, R255, R257, R259, R262). -/
def State.ruleHead (s : State) (p tc startPs : Nat) : HeadRuling :=
  match s.headOf p tc with
  | none => .wait
  | some (w, f) =>
    let q := s.queue p tc
    let g := s.pg p
    let T := s.lengthT f w
    let b := bitPs (s.phy p).rate
    let pre := g.preemptable tc
    let tooWide := match g.oper.wMax tc (s.phy p).rate with
      | some m => !pre && decide (m < T)
      | none => false
    let late := match w.launch with
      | some t => decide (launchDiff t startPs < -(q.timing.lateTol * 1000 : Nat))
      | none => false
    let early := match w.launch with
      | some t => decide (0 < launchDiff t startPs)
      | none => false
    if q.timing.maxSdu ≠ 0 ∧ q.timing.maxSdu < T then .drop .sduDrop 4
    else if tooWide then .drop .windowDrop 4
    else if late then .drop .lateDrop 3
    else if early || !s.portTakes w then .wait
    else if pre && (g.hold || (s.egr p).paused.isSome) then .wait
    else
      let ns := startPs / 1000
      let fits : HeadRuling :=
        match g.windowEnd tc ns with
        | none => .wait
        | some none => .go none
        | some (some e) =>
          if startPs + (8 + T) * 8 * b ≤ e * 1000 then .go none
          else if pre then
            match lastCut T ((e * 1000 - startPs) / (8 * b)) with
            | some k => .go (some k)
            | none => .miss e
          else .miss e
      match fits with
      | .go c => if q.shaper.enable ∧ q.credit ≤ 0 then .shaped else .go c
      | r => r

/-- The head of a queue is dropped at egress. -/
def State.dropHead (s : State) (p tc : Nat) (c : QCtr) (ds : Nat) : State :=
  match s.headOf p tc with
  | none => s
  | some (w, _) => (((s.countCopy w (.queue (p * 8 + tc) c)).dropCopy w ds).dropHeadTag p tc)

/-- Heads dropped at one choice point until one stays (R262). -/
def State.dropHeads (s : State) (p tc startPs : Nat) : Nat → State
  | 0 => s
  | n + 1 =>
    match s.ruleHead p tc startPs with
    | .drop c ds => (s.dropHead p tc c ds).dropHeads p tc startPs n
    | _ => s

/-- WINDOW_MISS counts a head once for each window in which it was refused (R250). -/
def State.countMiss (s : State) (p tc startPs : Nat) : State :=
  match s.ruleHead p tc startPs, s.headOf p tc with
  | .miss e, some (w, _) =>
    if w.missed = some e then s
    else (s.countCopy w (.queue (p * 8 + tc) .windowMiss)).modWaybill w.id (fun w => { w with missed := some e })
  | _, _ => s

/-- The time a head is held only by its shaper, counted when the hold ends (R237). -/
def State.trackShaper (s : State) (p tc startPs : Nat) : State :=
  match s.ruleHead p tc startPs with
  | .shaped => s.modQueue p tc (fun q => { q with shaperHeld := some (q.shaperHeld.getD s.tick) })
  | _ => s.endShaperHold p tc

/-- The queues of a port that are eligible, with their cuts (R213). -/
def State.eligibleQueues (s : State) (p startPs : Nat) : List (Nat × Option Nat) :=
  (List.range 8).filterMap (fun t => match s.ruleHead p t startPs with
    | .go c => some (t, c)
    | _ => none)

/-- The queue a port serves (R213, R218): the highest express one, else the one of least finish tag, the higher class among
equal tags. -/
def State.chosenQueue (s : State) (p : Nat) (l : List (Nat × Option Nat)) : Option (Nat × Option Nat) :=
  let ex := l.filter (fun t => (s.queue p t.1).cfg.express)
  if ex.isEmpty then
    l.foldl (fun b t => match b with
      | none => some t
      | some x =>
        if tagDiff ((s.queue p t.1).tag.getD 0) ((s.queue p x.1).tag.getD 0) ≤ 0 then some t else some x) none
  else ex.getLast?

/-- The secure association of a protected copy takes its PN as egress begins (R422, R425): threshold and exhaustion. -/
def State.takePn (s : State) (p : Nat) (policy : Bytes) (etype : Nat) : Option (Nat × Nat) × State :=
  if leavesClear policy etype then (none, if byteAt policy 0 = 1 then s.count (.crypt p .txClear) else s)
  else
    match (vget s.crypt.ports p).txSa with
    | none => (none, s)
    | some i =>
      let r := s.usePn i p (s.ownerOf 1 p)
      let s := r.2.count (.crypt p .txProtected)
      let s := if r.1.2 then s.secDown p else s
      (some (i, r.1.1), s)

/-- A PTP event message that is not trapped (R282): over EtherType 0x88F7 or UDP port 319, types 0 to 3. -/
def isPtpEvent (f : Frame) : Bool :=
  let h := parse true f.lim f.bytes
  let ty (o : Nat) : Bool := decide (byteAt f.bytes o % 16 ≤ 3)
  trapOf h != some true &&
    ((h.etype == 0x88F7 && ty h.l3off)
      || (h.l4 && h.proto == 17 && (h.dport == 319) && ty h.payOff))

/-- The egress time-stamp of a transmit-ring frame: that of its lowest-numbered external port (R124). -/
def stampEgress (f : Frame) (p stampPs : Nat) : Frame :=
  let v := (p, stampPs / 1000, psFrac stampPs)
  match f.egressStamp with
  | some (x, _) => if p < x then { f with egressStamp := some v } else f
  | none => { f with egressStamp := some v }

/-- A frame of queue (p, tc) begins egress (R142, R216, R218, R222, R262, R282, R422). -/
def State.beginEgress (s : State) (p tc startPs : Nat) (cut : Option Nat) : State :=
  match s.headOf p tc with
  | none => s
  | some (w, f) =>
    let T := s.lengthT f w
    let L := s.lengthL f w
    let q := s.queue p tc
    let late := match w.launch with
      | some t => decide (launchDiff t startPs < 0)
      | none => false
    let s := if late then s.count (.queue (p * 8 + tc) .launchLateSent) else s
    let s := s.modQueue p tc (fun q => { q with
      waiting := q.waiting.drop 1
      credit := if q.shaper.enable then q.credit - (L * 2 ^ 32 : Nat) else q.credit
      fprev := if q.cfg.express then q.fprev else q.tag.getD q.fprev
      tag := none })
    let s := if q.cfg.express then s else s.modEgr p (fun e => { e with v := q.tag.getD e.v })
    let s := (s.catchUp p).tagHead p tc
    let pn := if f.probe then (none, s) else s.takePn p w.policy f.cipherType
    let s := pn.2
    let corr := (vget s.time.ports p).tcEn && isPtpEvent f
    let s := if corr then s.count (.time p .tcCorrected) else s
    let s := s.modWaybill w.id (fun w => { w with begun := true, state := .departing })
    let stamp := s.quantise p startPs
    let s := s.modFrame f.id (fun f =>
      let f := stampEgress f p stamp
      if f.probe then { f with bytes := splice f.bytes 38 (beBytes 8 (stamp / 1000)) } else f)
    let l : OnLine :=
      { waybill := w.id, startPs := startPs, stampPs := stamp, startTick := s.tick, sent := 0, preemptable := (s.pg p).preemptable tc
        cutAt := cut, length := T, fragments := 0, secure := pn.1, corrected := corr, early := !f.confirmed
        wasCut := false }
    s.modEgr p (fun e => { e with line := some l })

/-- Data bytes of the present fragment that a port has sent (R254), from the ticks since its start. -/
def State.sentNow (s : State) (p : Nat) (l : OnLine) : Nat := (s.tick - l.startTick) * 1250 / (8 * bitPs (s.phy p).rate) - 8

/-- The frame on the line is cut now (R254, R256): its fragment has left, and it waits to resume. -/
def State.pauseLine (s : State) (p : Nat) (l : OnLine) (k : Nat) : State :=
  let s := match s.waybill? l.waybill with
    | none => s
    | some w =>
      let s := s.countCopy w (.gate p .fragmentsTx)
      let s := if l.wasCut then s else s.countCopy w (.gate p .preemptions)
      match s.frame? w.frame with
      | none => s
      | some f => s.emit (.ethPart p f.id l.sent (slice (s.copyBytes f w s.fresh) l.sent k))
  s.modEgr p (fun e => { e with
    line := none
    paused := some { l with sent := l.sent + k, cutAt := none, fragments := l.fragments + 1, wasCut := true } })

/-- A paused frame may resume (R254 to R257): preemption is active, hold is released and its class has a window; with the
cut if only a fragment fits. -/
def State.canResume (s : State) (p startPs : Nat) (l : OnLine) : Option (Option Nat) :=
  match s.waybill? l.waybill with
  | none => none
  | some w =>
    let g := s.pg p
    let b := bitPs (s.phy p).rate
    let rest := l.length - l.sent
    if g.hold && g.status == .active then none
    else
      match g.windowEnd w.tc (startPs / 1000) with
      | none => none
      | some none => some none
      | some (some e) =>
        if startPs + (8 + rest) * 8 * b ≤ e * 1000 then some none
        else
          match lastCut rest ((e * 1000 - startPs) / (8 * b)) with
          | some k => some (some k)
          | none => none

/-- EGRESS_CHOICE on a free transmitter (R213, R214, R254, R256): heads are dropped or counted, and the winner or the paused
frame starts. -/
def State.chooseIdle (s : State) (p startPs : Nat) : State :=
  let el := s.eligibleQueues p startPs
  let np := el.filter (fun t => !(s.pg p).preemptable t.1)
  match (s.egr p).paused with
  | some l =>
    match s.chosenQueue p np with
    | some t => s.beginEgress p t.1 startPs t.2
    | none =>
      match s.canResume p startPs l with
      | some c => s.modEgr p (fun e => { e with
          paused := none, line := some { l with startPs := startPs, startTick := s.tick, cutAt := c } })
      | none => s
  | none =>
    match s.chosenQueue p el with
    | some t => s.beginEgress p t.1 startPs t.2
    | none => s

/-- EGRESS_CHOICE while a preemptable frame is on the line (R256): a winner that is not preemptable has it cut at the next
point allowed. -/
def State.chooseOver (s : State) (p startPs : Nat) (l : OnLine) : State :=
  let el := (s.eligibleQueues p startPs).filter (fun t => !(s.pg p).preemptable t.1)
  if el.isEmpty || !l.preemptable || (s.pg p).status != .active then s
  else
    match nextCut (l.length - l.sent) (s.sentNow p l) with
    | none => s
    | some k =>
      let k := match l.cutAt with
        | some c => min c k
        | none => k
      s.modEgr p (fun e => { e with line := some { l with cutAt := some k } })

/-- EGRESS_CHOICE for a start at an instant of local time in ps (R214). A head that has become one since the last choice takes its tag
under the same V (R218). -/
def State.choose (s : State) (p startPs : Nat) : State :=
  let s := forAll (List.range 8) (fun t s => s.tagHead p t) (s.catchUp p)
  let s := forAll (List.range 8) (fun t s => s.dropHeads p t startPs ((s.queue p t).waiting.length + 1)) s
  let s := forAll (List.range 8) (fun t s => (s.countMiss p t startPs).trackShaper p t startPs) s
  match (s.egr p).line with
  | some l => s.chooseOver p startPs l
  | none => s.chooseIdle p startPs

/-- The bytes of a copy as they leave (R282, R283): the correction of a transparent clock adds the egress stamp minus the
ingress stamp, in 2⁻¹⁶ ns, to correctionField; a UDP checksum over IPv4 becomes 0, over IPv6 it is updated. -/
def correctBytes (f : Frame) (b : Bytes) (startPs : Nat) : Bytes :=
  let h := parse true b.length b
  let o := if h.etype = 0x88F7 then h.l3off else h.payOff
  let add : Int := (startPs * 65536 / 1000 : Nat) - (f.stamp * 65536 + f.stampFrac : Nat)
  let old := be b (o + 8) 8
  let new := toTwos 64 ((old : Int) + add)
  let b := splice b (o + 8) (beBytes 8 new)
  if h.etype = 0x88F7 then b
  else if h.l3kind = 1 then splice b (h.l4off + 6) [0, 0]
  else
    let sum16 (v : Nat) : Nat := v % 65536 + v / 65536 % 65536 + v / 2 ^ 32 % 65536 + v / 2 ^ 48
    let fold (v : Nat) : Nat := v % 65536 + v / 65536
    let c := 65535 - be b (h.l4off + 6) 2
    let x := fold (fold (c + (4 * 65535 - sum16 old) + sum16 new))
    let ck := 65535 - x % 65536
    splice b (h.l4off + 6) (beBytes 2 (if ck = 0 then 65535 else ck))

/-- A one-step Sync as it leaves (R283): originTimestamp is its egress stamp in whole nanoseconds, and the fraction is added to
correctionField. The fields lie where IEEE 1588 has them (PRESUMED, log 12). -/
def stampSync (b : Bytes) (stampPs : Nat) : Bytes :=
  let o := (parse true b.length b).l3off
  let ns := stampPs / 1000
  let frac := stampPs % 1000 * 65536 / 1000
  let b := splice b (o + 8) (beBytes 8 (toTwos 64 ((be b (o + 8) 8 : Int) + frac)))
  splice b (o + 34) (beBytes 6 (ns / 1000000000) ++ beBytes 4 (ns % 1000000000))

/-- A copy's last byte has left its port (R142, R155, R157, R204, R259). -/
def State.finishTx (s : State) (p : Nat) (l : OnLine) (w : Waybill) (f : Frame) : State :=
  let b := s.copyBytes f w s.fresh
  let s := { s with fresh := s.fresh + 1 }
  let b := if l.corrected then correctBytes f b l.stampPs else b
  let b := if f.oneStep then stampSync b l.stampPs else b
  let s := s.emit (.ethTx p f.id b w.stomp l.secure)
  let s := s.modEgr p (fun e => { e with line := none })
  if w.stomp then
    (((s.count (.port p .stompedTx)).count (.port f.ingress .stompCaused)).freeWaybill w)
  else
    let T := b.length + 4 + w.secBytes f.cipherType
    let m := (s.queue p w.tc).timing.maxSdu
    let s := if m ≠ 0 ∧ l.length ≤ m ∧ m < T then s.countCopy w (.queue (p * 8 + w.tc) .sduOverrun) else s
    (if f.probe then s else s.countTx p w.tc T l.early).deliverCopy w

/-- TX_COMPLETE: the fragment or the frame on the line ends. A frame that is still being received does not end before its
confirmation or revocation. -/
def State.txComplete (s : State) (p : Nat) (l : OnLine) : State :=
  match l.cutAt with
  | some k => s.pauseLine p l k
  | none =>
    match s.waybill? l.waybill with
    | none => s.modEgr p (fun e => { e with line := none })
    | some w =>
      match s.frame? w.frame with
      | none => s
      | some f => if f.ruled then s.finishTx p l w f else s

/-- SHAPER_REFILL (R221 to R223): new fields take effect at this refill, and every enabled credit grows. -/
def Queue.refill (q : Queue) : Queue :=
  let q := match q.shaperNew with
    | some c =>
      { q with shaper := c, shaperNew := none
               credit := if c.enable && !q.shaper.enable then (c.burst * 2 ^ 32 : Nat)
                         else min q.credit ((c.burst * 2 ^ 32 : Nat) : Int) }
    | none => q
  let add : Nat := q.shaper.rate * 256 * 2 ^ 32 / 8000000
  { q with credit := min ((q.shaper.burst * 2 ^ 32 : Nat) : Int) (q.credit + (add : Nat)) }

/-- SHAPER_REFILL on every queue. A head whose shaper has credit again is no longer held by it (R237). -/
def State.refillAll (s : State) : State :=
  let s := s.modNet (fun n => { n with queues := n.queues.map Queue.refill })
  forAll ((List.range 200).filter (fun q =>
    let x := s.queue (q / 8) (q % 8)
    x.shaperHeld.isSome && (!x.shaper.enable || decide (0 < x.credit))))
    (fun q s => s.endShaperHold (q / 8) (q % 8)) s

/-- The class on the line, if its frame is not preemptable, still under way when the gate has closed (R252). -/
def State.countOverrun (s : State) (p ns : Nat) : State :=
  match (s.egr p).line with
  | none => s
  | some l =>
    match s.waybill? l.waybill with
    | none => s
    | some w =>
      if !l.preemptable && ((s.pg p).windowEnd w.tc ns).isNone then s.countCopy w (.queue (p * 8 + w.tc) .windowOverrun) else s

/-- A preemptable frame on the line is cut at the first point allowed while hold is asserted (R257). -/
def State.holdCut (s : State) (p : Nat) : State :=
  match (s.egr p).line with
  | none => s
  | some l =>
    if !l.preemptable || (s.pg p).status != .active then s
    else
      match nextCut (l.length - l.sent) (s.sentNow p l) with
      | none => s
      | some k => s.modEgr p (fun e => { e with line := some { l with
          cutAt := some (match l.cutAt with | some c => min c k | none => k) } })

/-- GATE_ENTRY_BOUNDARY (R243, R252, R257): the list moves to its next entry, entry 0 after the last; the entry's operation
asserts or releases hold. -/
def State.nextEntry (s : State) (p : Nat) : State :=
  let g := s.pg p
  let n := g.oper.spans.length
  let k := if g.entry + 1 < n then g.entry + 1 else 0
  let e := g.oper.entryAt k
  let open_ := byteAt e 0
  let s := match (s.egr p).line.bind (fun l => (s.waybill? l.waybill).map (fun w => (l, w))) with
    | some (l, w) =>
      if !l.preemptable && !open_.testBit w.tc && (byteAt (g.oper.entryAt g.entry) 0).testBit w.tc then
        s.countCopy w (.queue (p * 8 + w.tc) .windowOverrun)
      else s
    | none => s
  let s := s.modPg p (fun g => { g with entry := k })
  if byteAt e 1 = 1 then (s.assertHold p).holdCut p
  else if byteAt e 1 = 2 then s.modPg p (fun g => { g with hold := false })
  else s

/-- The list moves entry by entry to the one where local time has it (R243). -/
def State.entriesTo (s : State) (p k : Nat) : Nat → State
  | 0 => s
  | n + 1 => if (s.pg p).entry = k then s else (s.nextEntry p).entriesTo p k n

/-- An entry with SET_AND_HOLD begins within `adv` ns (R257), over the stretches from the present position on. -/
def GateList.holdAhead (l : GateList) (adv : Nat) : Nat → List (Nat × Nat × Nat) → Bool
  | _, [] => false
  | t, x :: xs =>
    match xs with
    | [] => false
    | y :: _ => decide (t + x.2.2 ≤ adv) && (byteAt (l.entryAt y.1) 1 == 1 || l.holdAhead adv (t + x.2.2) xs)

/-- HOLD_ASSERT is due: the list runs, and an entry with SET_AND_HOLD begins within HOLD_ADVANCE (R257). -/
def State.holdComes (s : State) (p : Nat) : Bool :=
  let g := s.pg p
  g.oper.enabled && g.oper.holdAhead g.oper.holdAdvance 0 (dropTime g.oper.spans (g.position s.now) ++ g.oper.spans)

/-- EGRESS_CHOICE. -/
def execEgressChoice (p : Port) (startPs : Nat) (s : State) : Res :=
  .next (if s.linkUp p && s.startsNow p startPs then s.choose p startPs else s)

/-- TX_COMPLETE. -/
def execTxComplete (p : Port) (s : State) : Res :=
  match (s.egr p).line with
  | some l => .next (s.txComplete p l)
  | none => .next s

/-- SHAPER_REFILL. -/
def execShaperRefill (s : State) : Res := .next s.refillAll

/-- GATE_ENTRY_BOUNDARY: the list goes where its position p puts it (R243); at no boundary it stays. -/
def execGateEntryBoundary (p : Port) (s : State) : Res :=
  .next (if (s.pg p).oper.enabled then s.entriesTo p ((s.pg p).entryNow s.now) 256 else s)

/-- HOLD_ASSERT. -/
def execHoldAssert (p : Port) (s : State) : Res := .next (if s.holdComes p then (s.assertHold p).holdCut p else s)

/-- The configuration-change time of a PENDING port has come (R246, R275): C lies within 1 s, so that its compare is armed, and the
signed 32-bit difference is 0 or less. -/
def State.gateDue (s : State) (p : Nat) : Bool :=
  let g := s.pg p
  g.state == .pending && decide (g.changeAt ≤ s.now + 1000000000)
    && decide (signedOf 32 (toTwos 32 ((g.changeAt : Int) - s.now)) ≤ 0)

/-- GATE_CONFIG_CHANGE (R247): a frame on the line finishes. -/
def execGateConfigChange (p : Port) (s : State) : Res :=
  .next (if s.gateDue p then (s.gateChange p).countOverrun p (s.pg p).changeAt else s)

/-- PREEMPT_VERIFY_RESPONSE (R253). -/
def execPreemptVerifyResponse (p : Port) (s : State) : Res :=
  .next (if (s.pg p).status = .verifying then s.preemptTo p .active else s)

/-- PREEMPT_VERIFY_TIMEOUT (R253): FAILED after 3 attempts. -/
def State.verifyTimeout (s : State) (p : Nat) : State :=
  if (s.pg p).attempts < 3 then s.modPg p (fun g => { g with attempts := g.attempts + 1 })
  else (s.count (.gate p .verifyFail)).preemptTo p .failed

/-- PREEMPT_VERIFY_TIMEOUT. -/
def execPreemptVerifyTimeout (p : Port) (s : State) : Res :=
  .next (if (s.pg p).status = .verifying then s.verifyTimeout p else s)

/-- LINK_HOLD_EXPIRY (R211, R425). -/
def State.holdExpiry (s : State) (p : Nat) : State :=
  let s := if (s.egr p).holding then s.flushPort p else s
  if (s.egr p).secHolding then
    (s.modEgr p (fun e => { e with secHolding := false, secDropping := true })).flushCopies p (s.protectedCopies p)
  else s

/-- LINK_HOLD_EXPIRY. -/
def execLinkHoldExpiry (p : Port) (s : State) : Res := .next (s.holdExpiry p)

end Sys2Proof.Machine
end

