-- ==== Sys2Proof/Machine/Redund.lean ====
section
/-! DEFINITION. Protection switching, probes and the health report (chapter 12 of the spec). -/

namespace Sys2Proof.Machine

/-- Redundancy changed. -/
def State.modRed (s : State) (f : Red → Red) : State := s.modNet (fun n => { n with red := f n.red })

/-- Backbone member `p`. -/
def State.member (s : State) (p : Nat) : Member := vget s.net.red.members p

/-- A member changed. -/
def State.modMember (s : State) (p : Nat) (f : Member → Member) : State :=
  s.modRed (fun r => { r with members := vmod r.members p f })

/-- Protection state codes (R298). -/
def ProtState.code : ProtState → Nat
  | .disabled => 0 | .onA => 1 | .onB => 2 | .wtr => 3 | .forcedA => 4 | .forcedB => 5

/-- A fault found by the first three conditions of R297, which the probes report as REMOTE_DEFECT (R300). -/
def State.ownFault (s : State) (p : Nat) : Bool :=
  !s.linkUp p || (s.member p).sqiBad || (byteAt s.net.red.protect 4 == 1 && (s.member p).probeBad)

/-- A member is faulty (R297). -/
def State.memberFaulty (s : State) (p : Nat) : Bool := s.ownFault p || (s.member p).remote

/-- An event to every subscribed slot (R295, R298, R301). -/
def State.redEvent (s : State) (ev : Nat) (data : Bytes) : State :=
  forAll (List.range 16) (fun n s => if s.net.red.subscribed.getLsbD n then s.event n ev data else s) s

/-- The protection unit enters a state with an active member (R298); a change of the active member is a switch. `found` is
the member found faulty; where there is none the byte is open. -/
def State.protTo (s : State) (st : ProtState) (onB : Bool) (found : Option Nat) : State :=
  let was := s.net.red.onB
  let s := s.modRed (fun r => { r with state := st, onB := onB, wtrSince := if st = .wtr then s.tick else r.wtrSince })
  if was = onB then s
  else
    let s := (s.modRed (fun r => { r with switches := r.switches + 1 })).count (.red 0 .switches)
    let b := match found with
      | some m => (w8 m, s)
      | none => s.freeBytes 1
    b.2.redEvent 0x0902 (w8 st.code ++ w8 (b2n onB) ++ b.1)

/-- One judgement of the protection state by the faults as they stand (R298). -/
def State.protect (s : State) : State :=
  let a := s.memberFaulty 0
  let b := s.memberFaulty 1
  match s.net.red.state with
  | .onA => if a && !b then s.protTo .onB true (some 0) else s
  | .onB =>
    if b && !a then s.protTo .onA false (some 1)
    else if !a && byteAt s.net.red.protect 1 == 1 then s.protTo .wtr true none
    else s
  | .wtr =>
    if a then (s.count (.red 0 .wtrRestarts)).protTo .onB true none
    else if b then s.protTo .onA false (some 1)
    else s
  | _ => s

/-- The members are judged after anything that R297 names: FAULTS counts each that has become faulty, and the protection
unit follows. -/
def State.judgeMembers (s : State) : State :=
  let s := forAll [0, 1] (fun p s =>
    let now := s.memberFaulty p
    let s := if now && !(s.member p).faulty then s.count (.red p .faults) else s
    s.modMember p (fun m => { m with faulty := now })) s
  s.protect

/-- A member's signal-quality index (R297, R301): the lowest of the second is kept, and an index that is not below SQI_MIN ends the
fault. -/
def State.noteSqi (s : State) (p : Nat) : State :=
  let v := (s.phy p).sqi
  s.modMember p (fun m => { m with lowSqi := min m.lowSqi v, sqiBad := m.sqiBad && decide (v < byteAt s.net.red.protect 8) })

/-- A path probe (R300) without FCS: TX_TIME is written as its egress begins. -/
def State.probeBytes (s : State) (p : Nat) : Bytes :=
  let m := s.member p
  [0x01, 0x80, 0xC2, 0x00, 0x00, 0x0E] ++ beBytes 6 Config.managementMac.toNat ++ beBytes 2 0x88B7 ++ beBytes 3 0x0AE17C
    ++ beBytes 2 0x0101 ++ w8 p ++ w8 (b2n (s.ownFault p) + 2 * b2n (s.net.red.onB == (p == 1))) ++ [0]
    ++ beBytes 4 (m.txSeq % 2 ^ 32) ++ beBytes 4 (m.lastRx % 2 ^ 32) ++ beBytes 8 Config.serial.toNat ++ zeros 8 ++ zeros 14

/-- A probe joins its egress queue (R300): it never enters the fabric. -/
def State.sendProbe (s : State) (p : Nat) : State :=
  let tc := byteAt s.net.red.protect 7
  let f : Frame := { (default : Frame) with
    id := s.net.nextFrame, ingress := 27, slot := 0xFF, bytes := s.probeBytes p, stamp := s.now, ended := true
    confirmed := true, ruled := true, etype := 0x88B7, probe := true }
  let w : Waybill := { (default : Waybill) with
    id := s.net.nextWaybill, frame := f.id, ingress := 27, egress := p, slot := 0xFF, tc := tc, state := .departing
    tagged := false, crossed := 1, since := s.now }
  let s := s.modNet (fun n => { n with
    frames := n.frames ++ [f], nextFrame := n.nextFrame + 1, waybills := n.waybills ++ [w]
    nextWaybill := n.nextWaybill + 1 })
  let s := (s.modQueue p tc (fun q => { q with waiting := q.waiting ++ [w.id] })).tagHead p tc
  (s.modMember p (fun m => { m with txSeq := (m.txSeq + 1) % 2 ^ 32 })).count (.red p .probesTx)

/-- A probe absorbed on a member (R300): gaps in SEQ count PROBES_LOST. -/
def State.takeProbe (s : State) (p flags seq : Nat) : State :=
  let m := s.member p
  let d := signedOf 32 (toTwos 32 ((seq : Int) - m.lastRx))
  let s := s.count (.red p .probesRx)
  let s := if m.seen ∧ 1 < d then s.count (.red p .probesLost) (d - 1).toNat else s
  let s := s.modMember p (fun m => { m with
    seen := true, lastRx := seq, probeBad := false, remote := flags.testBit 0 })
  s.judgeMembers

/-! The health report (R295, R301). -/

/-- The status byte of a member (R301). -/
def State.memberStatus (s : State) (p : Nat) : Nat :=
  let m := s.member p
  b2n (s.linkUp p) + 2 * b2n (!m.sqiBad) + 4 * b2n (!m.probeBad) + 8 * b2n m.remote + 16 * b2n (s.memberFaulty p)

/-- The rate code of a member in the report (R301): 0 down, 1 2.5G, 2 5G, 3 10G. -/
def State.memberRate (s : State) (p : Nat) : Nat :=
  if !s.linkUp p then 0 else if (s.phy p).rate = 10000 then 3 else if (s.phy p).rate = 5000 then 2 else 1

/-- The sum of a counter over the recovery instances. -/
def State.sumRec (s : State) (k : RedCtr) : Nat := ((List.range 256).map (fun i => s.ctr (.red (256 + i) k))).foldl (· + ·) 0

/-- A counter's growth since its last report, in `n` bytes. -/
def grown (n now : Nat) (base : Int) : Bytes := leBytes n (toTwos (8 * n) ((now : Int) - base))

/-- The wait left in units of 10 ms (R301). -/
def State.wtrLeft (s : State) : Nat :=
  if s.net.red.state = .wtr then (le s.net.red.protect 2 2 * 800000000 - (s.tick - s.net.red.wtrSince)) / 8000000 else 0

/-- One recovery instance's latent check (R295): PASSED and ELIMINATED of the second differ by more than its threshold. -/
def State.latentCheck (s : State) (i : Nat) (r : Recovery) : Bool × State :=
  let p : Int := s.ctr (.red (256 + i) .passed) - r.basePassed
  let e : Int := s.ctr (.red (256 + i) .eliminated) - r.baseEliminated
  let th := le r.record 8 2
  let bad := th != 0 && decide (th < (p - e).natAbs)
  let s := s.modRed (fun x => { x with recs := tmod x.recs i r (fun y => { y with
    basePassed := s.ctr (.red (256 + i) .passed), baseEliminated := s.ctr (.red (256 + i) .eliminated) }) })
  if bad then
    (true, (s.count (.red (256 + i) .latentErrors)).redEvent 0x0903 (w16 i ++ leBytes 4 p.toNat ++ leBytes 4 e.toNat))
  else (false, s)

/-- A new second of the report begins (R301): what it will tell is counted from here. -/
def State.newSecond (s : State) : State :=
  let s := forAll [0, 1] (fun p s => s.modMember p (fun m => { m with
    lowSqi := (s.phy p).sqi, baseRx := s.ctr (.red p .probesRx), baseLost := s.ctr (.red p .probesLost) })) s
  s.modRed (fun r => { r with baseLost := s.sumRec .lost, baseRogue := s.sumRec .rogue, second := s.now / 1000000000 })

/-- HEALTH_REPORT (R301): the latent checks, RED_HEALTH to the subscribed slots, and a new second begins. -/
def State.healthReport (s : State) : State :=
  let l := s.net.red.recs.foldl (fun (a : Nat × State) e =>
    let r := if e.2.enabled then a.2.latentCheck e.1 e.2 else (false, a.2)
    (a.1 + b2n r.1, r.2)) (0, s)
  let s := l.2
  let r := s.net.red
  let m (p : Nat) : Member := s.member p
  let data := w8 r.state.code ++ w8 (b2n r.onB) ++ w16 s.wtrLeft ++ w8 (s.memberStatus 0) ++ w8 (s.memberStatus 1)
    ++ w8 (s.memberRate 0) ++ w8 (s.memberRate 1) ++ w8 (m 0).lowSqi ++ w8 (m 1).lowSqi ++ [0, 0]
    ++ grown 2 (s.ctr (.red 0 .probesRx)) (m 0).baseRx ++ grown 2 (s.ctr (.red 1 .probesRx)) (m 1).baseRx
    ++ grown 2 (s.ctr (.red 0 .probesLost)) (m 0).baseLost ++ grown 2 (s.ctr (.red 1 .probesLost)) (m 1).baseLost
    ++ w32 r.switches ++ grown 4 (s.sumRec .lost) r.baseLost ++ grown 4 (s.sumRec .rogue) r.baseRogue ++ w16 l.1
  (s.redEvent 0x0901 data).newSecond

/-- The first report after a resume covers its own second alone (R299, R301). -/
def State.redResume (s : State) : State :=
  (s.modRed (fun r => { r with recs := r.recs.map (fun e => (e.1, { e.2 with
    basePassed := s.ctr (.red (256 + e.1) .passed), baseEliminated := s.ctr (.red (256 + e.1) .eliminated) })) })).newSecond

end Sys2Proof.Machine
end

