-- ==== Sys2Proof/Machine/Phy.lean ====
section
/-! DEFINITION. Links: states, training, fast resume, signal quality and PLCA (chapter 13 of the spec). -/

namespace Sys2Proof.Machine

/-- A T1 port with stored coefficients (R304, R308, R310). -/
def isT1 (p : Nat) : Bool := decide (p ≤ 1) || (decide (5 ≤ p) && decide (p ≤ 22))

/-- The power domain of a port's PHY (R457). -/
def phyDomain (p : Nat) : Nat := if p ≤ 1 then 6 else if p ≤ 4 then 5 else if p ≤ 16 then 7 else 8

/-- The line rate of a RATE code (R304); AUTO stands for the highest. -/
def rateOf (p code : Nat) : Nat :=
  if p ≤ 1 then (if code = 2 then 5000 else if code = 3 then 2500 else 10000)
  else if p = 2 then 10000
  else if p ≤ 4 then (if code = 2 then 2500 else 1000)
  else if p ≤ 16 then 1000 else if p ≤ 22 then 100 else 10

/-- The RATE code of a line rate (R322). -/
def rateCode (p rate : Nat) : Nat :=
  if p ≤ 1 then (if rate = 10000 then 1 else if rate = 5000 then 2 else 3)
  else if p = 3 ∨ p = 4 then (if rate = 2500 then 2 else 1)
  else 1

/-- Link state codes (R307). -/
def LinkState.code : LinkState → Nat
  | .disabled => 0 | .down => 1 | .grantWait => 2 | .training => 3 | .up => 4 | .asleep => 5

/-- ENABLE of the active mode record. -/
def Phy.enabled (x : Phy) : Bool := byteAt x.mode 0 == 1

/-- The partner record of a port is cleared (R498). -/
def State.dropPartner (s : State) (p : Nat) : State :=
  { s with meas := { s.meas with partners := vset s.meas.partners p { (default : Partner) with changed := s.now } } }

/-- A change of a port's partner record: the rate in force (R499). -/
def State.touchPartner (s : State) (p : Nat) : State :=
  { s with meas := { s.meas with partners := vmod s.meas.partners p (fun x => { x with changed := s.now }) } }

/-- A change of link state (R307, R322): the event PORT_LINK to the port's owner. -/
def State.linkTo (s : State) (p : Nat) (st : LinkState) (cause flags : Nat) : State :=
  let was := (s.phy p).link
  if was = st then s
  else
    let s := s.modPhy p (fun x => { x with link := st, changed := s.now, sqi := if st = .up then x.sqi else 0 })
    let s := if p ≤ 1 then s.noteSqi p else s
    let s := if st = .up then (s.touchPartner p).count (.phy p .linkUps)
      else if was = .up then (s.count (.phy p .linkDowns)).dropPartner p else s
    let x := s.phy p
    let s := s.event (s.ownerOf 1 p) 0x0301
      (w8 p ++ w8 st.code ++ w8 (if st = .up then rateCode p x.rate else 0) ++ w8 x.sqi ++ w8 cause ++ w8 flags)
    if p ≤ 1 then s.judgeMembers else s

/-- The flags of PORT_LINK: FAST_USED and COEFF_REJECT. -/
def Phy.flags (x : Phy) : Nat := b2n (x.fastResult == 1) + 2 * b2n (x.fastResult == 2)

/-- A link leaves UP, or a training attempt is abandoned, for a state that is down, with a hold in ms (R209, R307). A hold of 0 flushes
the port at once, whatever state it leaves. -/
def State.linkDown (s : State) (p : Nat) (st : LinkState) (cause hold : Nat) : State :=
  let was := (s.phy p).link
  let s := if was = .up ∨ hold = 0 then s.egressDown p hold else s
  let s := if was = .grantWait ∨ was = .training then s.release .train p else s
  let s := s.modPhy p (fun x => { x with
    tryRate := rateOf p (byteAt x.mode 1), attempts := 0, fast := false, mayFast := x.mayFast || was == .up
    byCommand := cause == 0 })
  s.linkTo p st cause 0

/-- LINK_HOLD in force at a port (R209). -/
def State.linkHold (s : State) (p : Nat) : Nat := (s.egr p).linkHold

/-- The cause of a step of a link attempt (R322): 0 where a command began it, else 5. -/
def Phy.attemptCause (x : Phy) : Nat := if x.byCommand then 0 else 5

/-- A link comes up (R210, R253, R307) at the rate of its attempt. -/
def State.linkUpNow (s : State) (p sqi cause : Nat) : State :=
  let s := s.modPhy p (fun x => { x with
    rate := x.tryRate, attempts := 0, mayFast := false, byCommand := false, sqi := if 2 ≤ p ∧ p ≤ 4 then 7 else sqi % 8 })
  let s := s.egressUp p
  (((s.linkTo p .up cause (s.phy p).flags).preemptStart p).sendLldp p).sendMka p

/-- The analog rails of a port's PHY are good (R513): VDDA09 for P0 to P4, VDDA18 for P0, P1 and P5 to P24. -/
def State.phyRails (s : State) (p : Nat) : Bool :=
  (decide (4 < p) || s.railGood 2) && ((decide (2 ≤ p) && decide (p ≤ 4)) || s.railGood 3)

/-- A link attempt may start: the port is enabled, DOWN, and its domain and rails have power. -/
def State.canTrain (s : State) (p : Nat) : Bool :=
  (s.phy p).link == .down && (s.phy p).enabled && s.pws.domains.getLsbD (phyDomain p) && s.phyRails p

/-- TRAINING begins on a port (R305, R322). -/
def State.trainNow (s : State) (p : Nat) (cause : Nat) : State :=
  let x := s.phy p
  let lower := decide (p ≤ 1) && !x.fast && x.attempts == 0 && decide (x.tryRate < 10000) && byteAt x.mode 1 == 0
  s.linkTo p .training (if lower then 4 else cause) x.flags

/-- TRAINING_START (R309, R312): fast from stored coefficients where allowed, else full; P0 and P1 ask for a grant first. -/
def State.startTraining (s : State) (p : Nat) (cause : Nat) : State :=
  let x := s.phy p
  let fast := isT1 p && bitOf (byteAt x.mode 3) 0 && x.stored.isSome && x.mayFast
  let s := s.modPhy p (fun x => { x with
    fast := fast, mayFast := false, fastResult := 0, byCommand := cause == 0
    tryRate := if fast then x.stored.getD x.tryRate else x.tryRate })
  if p ≤ 1 then (s.ask .train p false).linkTo p .grantWait cause (s.phy p).flags
  else s.trainNow p cause

/-- The next attempt after a failed full training (R305): the same rate until AUTO_ATTEMPTS, then the next lower one, the
highest after the lowest. -/
def State.failedFull (s : State) (p : Nat) : State :=
  let x := s.phy p
  let n := x.attempts + 1
  if p ≤ 1 ∧ byteAt x.mode 1 = 0 ∧ byteAt x.mode 5 ≤ n then
    let next := if x.tryRate = 10000 then 5000 else if x.tryRate = 5000 then 2500 else 10000
    let s := if next < x.tryRate then s.count (.phy p .fallbacks) else s
    s.modPhy p (fun x => { x with tryRate := next, attempts := 0 })
  else s.modPhy p (fun x => { x with attempts := n })

/-- A fast attempt is rejected (R309): its set is discarded and a full training follows at once. -/
def State.rejectFast (s : State) (p : Nat) : State :=
  let x := s.phy p
  let s := (s.count (.phy p .coeffReject)).modPhy p (fun x => { x with
    stored := none, fast := false, fastResult := 2, tryRate := rateOf p (byteAt x.mode 1), attempts := 0 })
  if p ≤ 1 then ((s.release .train p).ask .train p false).linkTo p .grantWait x.attemptCause (s.phy p).flags else s

/-- A full attempt fails (R305): the port waits for its next one. -/
def State.attemptFails (s : State) (p : Nat) : State :=
  let cause := (s.phy p).attemptCause
  let s := ((s.release .train p).failedFull p).modPhy p (fun x => { x with byCommand := false })
  s.linkTo p .down cause (s.phy p).flags

/-- TRAINING_DONE (R305, R309, R310, R312). -/
def State.trainingDone (s : State) (p : Nat) (ok : Bool) (sqi : Nat) : State :=
  let x := s.phy p
  if x.fast then
    if ok ∧ byteAt x.mode 4 ≤ sqi % 8 then
      let s := (s.count (.phy p .fastOk)).modPhy p (fun x => { x with fastResult := 1 })
      (s.release .train p).linkUpNow p sqi x.attemptCause
    else s.rejectFast p
  else if ok then (s.release .train p).linkUpNow p sqi x.attemptCause
  else s.attemptFails p

/-- A committed mode record (R306, R308): what changes, and what the link does. Whatever it changes, an attempt under way is abandoned,
and a new one starts under the new values. -/
def State.commitMode (s : State) (p : Nat) : State :=
  let x := s.phy p
  let old := x.mode
  let new := x.modeShadow
  let hard := [0, 1, 2, 6, 7, 8].any (fun k => byteAt old k != byteAt new k)
    || byteAt old 3 / 2 != byteAt new 3 / 2
  let forget := byteAt old 1 != byteAt new 1 || byteAt old 2 != byteAt new 2
  let training := x.link == .grantWait || x.link == .training
  let s := s.modPhy p (fun x => { x with
    mode := new, plca := x.plcaShadow, stored := if forget then none else x.stored })
  let target : LinkState := if byteAt new 0 = 1 then .down else .disabled
  if x.link = .asleep ∧ hard then (s.linkDown p target 0 0).segEvent (segOfPort p) .awake 0
  else if hard then s.linkDown p target 0 0
  else if training then s.linkDown p target 0 (s.linkHold p)
  else s

/-- LINK_DOWN has something to do. -/
def State.isUp (s : State) (p : Nat) : Bool := (s.phy p).link == .up

/-- LINK_DOWN (R209, R307): loss of lock or signal. -/
def execLinkDown (p : Port) (s : State) : Res :=
  .next (if s.isUp p then s.linkDown p .down 1 (s.linkHold p) else s)

/-- LINK_UP (R210, R309): a port that is DOWN begins its attempt, and an attempt under way succeeds. One that waits for its grant does not
come up (R312). -/
def execLinkUp (p : Port) (sqi : Fin 8) (s : State) : Res :=
  let s := if s.canTrain p then s.startTraining p (s.phy p).attemptCause else s
  .next (if (s.phy p).link = .training then s.trainingDone p true sqi else s)

/-- TRAINING_START. -/
def execTrainingStart (p : Port) (s : State) : Res :=
  .next (if s.canTrain p then s.startTraining p (s.phy p).attemptCause else s)

/-- TRAINING_DONE. -/
def execTrainingDone (p : Port) (ok : Bool) (sqi : Fin 8) (s : State) : Res :=
  .next (if (s.phy p).link = .training then s.trainingDone p ok sqi else s)

/-- A backbone port in GRANT_WAIT has no request outstanding. -/
def State.mustAskAgain (s : State) (p : Nat) : Bool :=
  (s.phy p).link == .grantWait && decide (p ≤ 1) &&
    !(s.power.queue ++ s.power.arrivals).any (fun a => a.kind == .train && a.requester == p)

/-- TRAIN_GRANT_RETRY (R461). -/
def execTrainGrantRetry (p : Port) (s : State) : Res :=
  .next (if s.mustAskAgain p then s.ask .train p true else s)

/-- COEFF_STORE (R308): after 1 s of UP. -/
def execCoeffStore (p : Port) (s : State) : Res :=
  .next (if s.isUp p ∧ isT1 p then s.modPhy p (fun x => { x with stored := some x.rate }) else s)

/-- SQI_SAMPLE (R301, R311): a SerDes port reads 7; a port that is not UP reads 0. -/
def State.sampleSqi (s : State) (p : Nat) (sqi : Nat) : State :=
  let v := if !s.isUp p then 0 else if 2 ≤ p ∧ p ≤ 4 then 7 else sqi
  let s := s.modPhy p (fun x => { x with sqi := v })
  if p ≤ 1 then (s.noteSqi p).judgeMembers else s

/-- SQI_SAMPLE. -/
def execSqiSample (p : Port) (sqi : Fin 8) (s : State) : Res := .next (s.sampleSqi p sqi)

/-- PLCA_BEACON_TIMEOUT (R315): a follower that is UP goes DOWN. -/
def execPlcaBeaconTimeout (p : Port) (s : State) : Res :=
  .next (if s.isUp p ∧ 23 ≤ p.val ∧ byteAt (s.phy p).plca 0 ≠ 0 then
    (s.count (.phy p .beaconLoss)).linkDown p .down 1 (s.linkHold p) else s)

end Sys2Proof.Machine
end

