-- ==== Sys2Proof/Machine/Commit.lean ====
section
/-! DEFINITION. What a commit applies, block by block (R20, R43, R44 and the chapters that own the blocks). -/

namespace Sys2Proof.Machine

/-- The commit group of a block (R43). -/
def State.groupOf (s : State) (block : Nat) : Nat := bitsOf s.cmu.map0.toNat (4 * block) 4

/-- A timed commit of a block's group is armed. -/
def State.armedFor (s : State) (block : Nat) : Bool := s.cmu.arm && s.cmu.atMask.getLsbD (s.groupOf block)

/-- Block 2 on a queue (R220): tags set keep their values; a queue that loses EXPRESS has its head tagged, one that gains it
drops its tag. -/
def State.commitQueue (s : State) (q : Nat) : State :=
  let s := s.modQueue (q / 8) (q % 8) (fun x => { x with
    cfg := x.cfgShadow, tag := if x.cfgShadow.express then none else x.tag })
  if q / 8 < 25 then s.tagHead (q / 8) (q % 8) else s

/-- The start of a stream-gate list (R234): the first BASE_TIME + n × CYCLE_TIME at least 10 µs after the commit. -/
def SGateList.startAfter (l : SGateList) (now : Nat) : Nat :=
  let c := max 1 l.cycle
  if now + 10000 ≤ l.base then l.base else l.base + (now + 10000 - l.base + c - 1) / c * c

/-- Block 5 on a stream gate (R234): a list that changes starts anew; a gate closed by CLOSE_ON_INVALID stays closed. -/
def SGate.commit (g : SGate) (now : Nat) : SGate :=
  if g.active = g.shadow then g
  else
    match g.shadow with
    | none => { g with active := none }
    | some l =>
      { g with
        active := some l, start := l.startAfter now, started := false, entry := 0, isOpen := l.initOpen
        ipv := l.initIpv }

/-- The sum of the reserves. -/
def Buffer.reserves (v : Vector Nat 28) : Nat := v.toList.foldl (· + ·) 0

/-- Block 6 (R206): a reserve change changes S, and f with it. -/
def Buffer.commit (b : Buffer) : Buffer :=
  ({ b with
    reserve := b.reserveShadow, alpha := b.alphaShadow
    free := b.free + (Buffer.reserves b.reserve : Int) - (Buffer.reserves b.reserveShadow : Int) }).mark

/-- One block applied. -/
def State.commitBlock (s : State) (block : Nat) : State :=
  if block = 0 then
    forAll (List.range 6) (fun n s => s.commitIo n) (forAll (List.range 16) (fun n s => s.commitAlarm n) s)
  else if block = 1 then
    let s := s.modNet (fun n => { n with fwd := n.fwd.map (fun x => { x with active := x.shadow }) })
    forAll (List.range 25) (fun p s => s.commitMode p) s
  else if block = 2 then forAll (List.range 224) (fun q s => s.commitQueue q) s
  else if block = 3 then
    s.modNet (fun n => { n with
      queues := n.queues.map (fun q => { q with timing := q.timingShadow })
      egress := n.egress.map (fun e => { e with linkHold := e.linkHoldShadow }) })
  else if block = 4 then s.modNet (fun n => { n with meters := n.meters.map (fun m => (m.1, m.2.commit s.tick)) })
  else if block = 5 then
    s.modNet (fun n => { n with
      filters := n.filters.map (fun f => (f.1, { f.2 with active := f.2.shadow }))
      sgates := n.sgates.map (fun g => g.commit s.now) })
  else
    s.modNet (fun n => { n with
      buffer := n.buffer.commit, queues := n.queues.map (fun q => { q with caps := q.capsShadow }) })

/-- A commit of the groups in a mask (R44): every block of those groups on one clock, the commit unit's record, COMMIT in
every slot. -/
def State.applyCommit (s : State) (mask : BitVec 16) : State :=
  let s := forAll ((List.range 7).filter (fun b => mask.getLsbD (s.groupOf b))) (fun b s => s.commitBlock b) s
  let s := { s with cmu := { s.cmu with lastTime := BitVec.ofNat 32 s.now, lastMask := mask } }
  s.setCauseAll 5

/-- Firmware commits the group of a block for a command with COMMIT set (R160, R239). -/
def State.commitGroupOf (s : State) (block : Nat) : State := s.applyCommit (1#16 <<< s.groupOf block)

/-- The end of a command that writes shadows: with COMMIT set, the group is committed. -/
def State.maybeCommit (s : State) (commit : Nat) (block : Nat) : State :=
  if commit = 1 then s.commitGroupOf block else s

/-- A command with COMMIT set while a timed commit of its group is armed is ST_BUSY (R160, R239). -/
def commitFree (s : State) (commit block : Nat) : Option Answer := need (!(commit == 1 && s.armedFor block)) stBusy

/-- A timed commit applies (R45): ARM clears, FIRED is set, and LATE where its instant was already past. -/
def State.fireTimed (s : State) (late : Bool) : State :=
  let mask := s.cmu.atMask
  let s := { s with cmu := { s.cmu with arm := false, fired := true, late := s.cmu.late || late } }
  s.applyCommit mask

end Sys2Proof.Machine
end

