-- ==== Sys2Proof/Machine/Podl.lean ====
section
/-! DEFINITION. Camera power (chapter 13 of the spec). -/

namespace Sys2Proof.Machine

/-- Camera power of port `p`, P5 to P16. -/
def State.podlOf (s : State) (p : Nat) : Podl := vget s.net.podl (p - 5)

/-- Camera power of port `p` changed. -/
def State.modPodl (s : State) (p : Nat) (f : Podl → Podl) : State :=
  s.modNet (fun n => { n with podl := vmod n.podl (p - 5) f })

/-- The port has camera power (R316). -/
def hasPodl (p : Nat) : Bool := decide (5 ≤ p) && decide (p ≤ 16)

/-- Power state codes (R317). -/
def PodlState.code : PodlState → Nat
  | .off => 0 | .inrushWait => 1 | .inrush => 2 | .powered => 3 | .fault => 4

/-- PODL_ENk is asserted (R317). -/
def PodlState.drives : PodlState → Bool
  | .inrush => true | .powered => true | _ => false

/-- The power state of a port changes (R317, R322): PORT_PODL to its owner; a link that loses its power goes down (R318). -/
def State.podlTo (s : State) (p : Nat) (st : PodlState) (cause : Nat) : State :=
  let was := (s.podlOf p).state
  if was = st then s
  else
    let s := s.modPodl p (fun x => { x with
      state := st, cause := cause, waited := false, current := if st.drives then x.current else 0
      trip := if st = .fault then x.current else x.trip })
    let s := if was = .inrushWait then s.duePort p st.drives (s.podlOf p).hostOff else s
    let s := if was.drives == st.drives then s else s.emit (.pin (64 + (p - 5)) st.drives)
    let s := s.event (s.ownerOf 1 p) 0x0302 (w8 p ++ w8 st.code ++ w8 cause ++ [0] ++ w16 (s.podlOf p).current)
    if was.drives ∧ !st.drives ∧ s.isUp p then s.linkDown p .down 3 (s.linkHold p) else s

/-- The counter of a power fault (R318, R323). -/
def podlCtr (cause : Nat) : PhyCtr :=
  if cause = 1 then .short else if cause = 2 then .overload else if cause = 3 then .inrush
  else if cause = 4 then .undercurrent else .switch

/-- A power fault (R318). -/
def State.podlFault (s : State) (p cause : Nat) : State :=
  (s.count (.phy p (podlCtr cause))).podlTo p .fault cause

/-- ON (R317): from OFF, or with CLEAR from FAULT. -/
def State.podlOn (s : State) (p : Nat) : State :=
  if (s.podlOf p).state = .off ∨ (s.podlOf p).state = .fault then s.podlTo p .inrushWait 0 else s

/-- A port in INRUSH_WAIT fits the board budget (R466). -/
def State.podlFits (s : State) (p : Nat) : Bool :=
  let r := (s.podlOf p).record
  decide (s.boardReserved + le r 4 2 * byteAt r 1 ≤ s.power.boardBudget * 100)

/-- BOARD_BUDGET_BOUNDARY (R466): waiting ports in port order; the first that does not fit blocks the higher ones. -/
def State.boardOffer (s : State) : Nat → Nat → State
  | _, 0 => s
  | p, k + 1 =>
    if (s.podlOf p).state = .inrushWait then
      if s.podlFits p then (s.podlTo p .inrush 0).boardOffer (p + 1) k
      else
        forAll ((List.range 17).filter (fun q => decide (p ≤ q) && (s.podlOf q).state == .inrushWait && !(s.podlOf q).waited))
          (fun q s => (s.modPodl q (fun x => { x with waited := true })).count (.pwr .boardWaits)) s
    else s.boardOffer (p + 1) k

/-- INRUSH_END (R317): the current at the end of INRUSH_MS. -/
def State.inrushEnd (s : State) (p current : Nat) : State :=
  if (s.podlOf p).state = .inrush then
    let s := s.modPodl p (fun x => { x with current := current })
    if current ≤ le (s.podlOf p).record 2 2 then s.podlTo p .powered 0 else s.podlFault p 3
  else s

/-- The current of a camera port as a host reads it: invalid while VDDA18 is outside its window (R513), and then free (log 2). -/
def State.podlCurrent (s : State) (p : Nat) : Nat × State :=
  if s.railGood 3 then ((s.podlOf p).current, s) else let r := s.freeNat; (r.1 % 65536, r.2)

end Sys2Proof.Machine
end

