-- ==== Sys2Proof/Machine/Wake.lean ====
section
/-! DEFINITION. Segments put to sleep and woken (R313, R314, R473, R480 to R483). -/

namespace Sys2Proof.Machine

/-- A port goes to sleep (R313): its queues are flushed as for a hold of 0. -/
def State.portSleep (s : State) (p cause segCause : Nat) : State :=
  if (s.phy p).link = .asleep then s
  else
    let before := s.segState (segOfPort p)
    let s := (s.linkDown p .asleep cause 0).segMark (segOfPort p) .awake
    let s := if before = .asleep then s else s.segEvent (segOfPort p) .asleep segCause
    s.segSettle

/-- The camera power of a port that was POWERED at sleep entry comes back as its segment wakes (R317). -/
def State.podlBack (s : State) (p : Nat) : State :=
  if hasPodl p ∧ (s.podlOf p).wasOn then (s.modPodl p (fun x => { x with wasOn := false })).podlOn p else s

/-- A port wakes (R314, R317): its camera power comes back first, and then it trains. -/
def State.portWake (s : State) (p cause : Nat) : State :=
  let back := hasPodl p && (s.podlOf p).wasOn
  let s := (s.modPhy p (fun x => { x with mayFast := true, byCommand := cause == 0 })).podlBack p
  if back then s.linkTo p .down cause 0
  else if (s.phy p).enabled ∧ s.pws.domains.getLsbD (phyDomain p) ∧ s.phyRails p then s.startTraining p cause
  else s.linkTo p .down cause 0

/-- A segment that is GOING or ASLEEP returns to AWAKE (R473). Causes: 0 command, 1 wake on the segment, 2 WAKE_FWD; `src` is the
wake source that a SLEEP_SEGMENT under way reports. -/
def State.wakeSegment (s : State) (n cause src : Nat) : State :=
  let st := s.segState n
  if st = .awake then s
  else
    let s := s.count (.sleep .segmentWakes)
    let s :=
      if n < 16 then (s.modSleep (fun x => { x with nmLeft := vset x.nmLeft n 0 })).segTo n .awake cause
      else if n < 24 then
        let c := n - 16
        if (s.linCh c).state = 2 then (doIf (cause != 1) (fun s => s.linDriveWake c) s).linWake c cause
        else (s.modLin c (fun x => { x with sleepDue := false })).segTo n .awake cause
      else
        let p := n - 19
        if (s.phy p).link = .asleep then
          let s := if cause = 1 then s else (s.emit (.signal 1 p)).count (.phy p .tc10WakeTx)
          let s := (s.segMark n .awake).portWake p (if cause = 0 then 0 else 2)
          s.segEvent n .awake cause
        else (s.podlBack p).segTo n .awake cause
    s.segWoke n src

/-- The segments of a mask wake. -/
def State.wakeSegments (s : State) (mask cause src : Nat) : State :=
  forAll (maskList 64 mask) (fun n s => s.wakeSegment n cause src) s

/-- The NM frame of a channel (R482). -/
def nmFrame (r : Bytes) : CanFrame :=
  { (default : CanFrame) with id := le r 4 4, format := byteAt r 8, data := slice r 10 (byteAt r 9) }

/-- One NM frame enqueued in NM_QUEUE, and one fewer to come (R482). -/
def State.sendNm (s : State) (c : Nat) : State :=
  let r := vget s.sleep.nm c
  let s := s.modSleep (fun x => { x with nmLeft := vmod x.nmLeft c (· - 1) })
  if (s.canCh c).open_ ∧ (s.canCh c).takes (nmFrame r) then
    (s.enqueueCan c { (default : CanTx) with frame := nmFrame r, queue := byteAt r 1 % 8, nm := true }).2
  else s

/-- An AWAKE segment sends its sleep indication and goes to GOING (R473, R482). -/
def State.sleepSegment (s : State) (n cause : Nat) : State :=
  if s.segState n ≠ .awake then s
  else
    let s := s.segTo n .going cause
    if n < 16 then
      let k := byteAt (vget s.sleep.nm n) 0
      if k = 0 then s else (s.modSleep (fun x => { x with nmLeft := vset x.nmLeft n k })).sendNm n
    else if n < 24 then
      s.modLin (n - 16) (fun x => { x with sleepDue := x.master && x.state == 1 })
    else if s.isUp (n - 19) then s.emit (.signal 0 (n - 19)) else s

/-- A GOING segment meets the part of its quiet condition that the state shows (R483). A LIN channel in OFF and a port that is
DISABLED carry nothing and are quiet too (DEDUCED, log 40). -/
def State.segQuiet (s : State) (n : Nat) : Bool :=
  if n < 16 then
    let x := s.canCh n
    vget s.sleep.nmLeft n == 0 && x.queues.toList.all (·.isEmpty) && x.occupied.isEmpty
  else if n < 24 then (s.linCh (n - 16)).state != 1
  else true

/-- A segment goes ASLEEP (R483). -/
def State.segAsleep (s : State) (n : Nat) : State :=
  if n < 16 then
    (((s.modCan n (fun x => { x.emptySlots with receiving := false })).segTo n .asleep 3)).segSettle
  else if n < 24 then
    (if (s.linCh (n - 16)).state = 1 then s.linTo (n - 16) 2 1 3 else (s.segTo n .asleep 3).segSettle)
  else if (s.phy (n - 19)).link = .disabled then (s.segTo n .asleep 3).segSettle
  else s.portSleep (n - 19) 2 3

end Sys2Proof.Machine
end

