-- ==== Sys2Proof/Machine/PortPhyCmds.lean ====
section
/-! DEFINITION. The PORT commands of modes, wake and camera power, and the events of camera power (chapter 13 of the spec). -/

namespace Sys2Proof.Machine

/-- The port field and its owner. -/
def ownsPort (s : State) (n : Nat) (p : Bytes) : Option Answer :=
  firstFail [inRange (byteAt p 0) 25 0, mustOwn s n 1 (byteAt p 0)]

/-- The port field, for a read. -/
def readsPort (s : State) (n : Nat) (p : Bytes) : Option Answer :=
  firstFail [inRange (byteAt p 0) 25 0, mayRead s n 1 (byteAt p 0)]

/-- A port of a row of R304 has this RATE code. -/
def rateOk (p code : Nat) : Bool :=
  if p ≤ 1 then decide (code ≤ 3) else if p = 3 ∨ p = 4 then code == 1 || code == 2 else code == 1

/-- PORT_GET_CAPS (R321, R538): port kinds, RATE codes, PLCA limits and power limits, one entry for each row of the tables of R304, R315
and R316 that has one. The spec gives port kinds no number: those entries are free (log 22). -/
def cmdPortGetCaps : Cmd :=
  { op := 0x0300, lengthOk := lenIs 0, check := fun _ _ _ => none
    run := fun s _ _ _ =>
      let kinds := s.freeBytes 24
      let rates := [(0, 3), (1, 1), (1, 2), (1, 1), (1, 1), (1, 1)]
      let plca := [(0, 7), (2, 8), (1, 255), (0, 255), (1, 255)]
      let power := [(0, 9), (12, 48), (50, 1500), (50, 1500), (1, 100), (1, 100), (0, 200), (50, 1000)]
      (kinds.2, .done (stOk (w32 6 ++ kinds.1 ++ capRanges rates ++ capRanges plca ++ capRanges power))) }

/-- The ranges of the mode record at offset 4 and of the PLCA record at offset 20 (R304, R306, R315). -/
def modeRanges (p : Bytes) : Option Answer :=
  let port := byteAt p 0
  firstFail [flag p 1, flag p 4, need (rateOk port (byteAt p 5)) (stBadParam 5),
    between (byteAt p 6) 0 (b2n (isT1 port)) 6, between (byteAt p 7) 0 15 7,
    between (byteAt p 8) 0 7 8, between (byteAt p 9) 1 8 9, between (byteAt p 10) 0 15 10, between (byteAt p 11) 0 7 11,
    between (byteAt p 12) 0 15 12,
    if port < 23 then none else
      firstFail [between (byteAt p 20) 0 7 20, (if byteAt p 20 = 0 then between (byteAt p 21) 2 8 21 else none), between (byteAt p 22) 1 255 22,
        between (byteAt p 24) 1 255 24]]

/-- PORT_SET_MODE (R306). -/
def cmdPortSetMode : Cmd :=
  { op := 0x0301, lengthOk := lenIs 28
    check := fun s n p => firstFail [ownsPort s n p, modeRanges p, commitFree s (byteAt p 1) 1]
    run := fun s _ _ p =>
      let s := (s.touch 4 (byteAt p 0)).modPhy (byteAt p 0) (fun x => { x with
        modeShadow := slice p 4 9 ++ zeros 7
        plcaShadow := if byteAt p 0 < 23 then x.plcaShadow else slice p 20 5 ++ zeros 3 })
      (s.maybeCommit (byteAt p 1) 1, .done (stOk [])) }

/-- PORT_GET_MODE (R321): the PLCA record is 0 outside P23 and P24. -/
def cmdPortGetMode : Cmd :=
  { op := 0x0302, lengthOk := lenIs 4
    check := fun s n p => firstFail [readsPort s n p, flag p 1]
    run := fun s _ _ p =>
      let x := s.phy (byteAt p 0)
      let plca := if byteAt p 0 < 23 then zeros 8 else if byteAt p 1 = 1 then x.plcaShadow else x.plca
      (s, .done (stOk ((if byteAt p 1 = 1 then x.modeShadow else x.mode) ++ plca))) }

/-- PORT_GET_STATUS (R321). -/
def cmdPortGetStatus : Cmd :=
  { op := 0x0303, lengthOk := lenIs 4, check := readsPort
    run := fun s _ _ p =>
      let q := byteAt p 0
      let x := s.phy q
      (s, .done (stOk (w8 x.link.code ++ w8 (if x.link = .up then rateCode q x.rate else 0) ++ w8 x.sqi
        ++ w8 (byteAt x.mode 2) ++ w8 (b2n x.stored.isSome) ++ w8 x.fastResult ++ zeros 2 ++ w64 x.changed))) }

/-- PORT_FORGET_COEFFS (R308). -/
def cmdPortForgetCoeffs : Cmd :=
  { op := 0x0304, lengthOk := lenIs 4, check := ownsPort
    run := fun s _ _ p => (s.modPhy (byteAt p 0) (fun x => { x with stored := none }), .done (stOk [])) }

/-- A port with TC10, P5 to P24 (R313, R321). -/
def tc10Port (s : State) (n : Nat) (p : Bytes) : Option Answer :=
  firstFail [need (decide (5 ≤ byteAt p 0) && decide (byteAt p 0 < 25)) (stBadParam 0), mustOwn s n 1 (byteAt p 0)]

/-- PORT_SET_WAKE (R313, R314). -/
def cmdPortSetWake : Cmd :=
  { op := 0x0305, lengthOk := lenIs 4
    check := fun s n p => firstFail [tc10Port s n p, flag p 1, flag p 2]
    run := fun s _ _ p =>
      (s.modPhy (byteAt p 0) (fun x => { x with wakeEn := byteAt p 1 == 1, acceptSleep := byteAt p 2 == 1 }),
        .done (stOk [])) }

/-- PORT_SEND_WAKE (R314). -/
def cmdPortSendWake : Cmd :=
  { op := 0x0306, lengthOk := lenIs 4, check := tc10Port
    run := fun s _ _ p =>
      ((s.emit (.signal 1 (byteAt p 0))).count (.phy (byteAt p 0) .tc10WakeTx), .done (stOk [])) }

/-- A port with camera power, P5 to P16 (R321). -/
def podlPort (s : State) (n : Nat) (p : Bytes) : Option Answer :=
  firstFail [need (hasPodl (byteAt p 0)) (stBadParam 0), mustOwn s n 1 (byteAt p 0)]

/-- ST_WRONG_STATE for camera power (object type 0x0302). -/
def podlWrong (s : State) (p : Nat) : Answer := stWrongState 0x0302 p (s.podlOf p).state.code

/-- CLASS lies in the voltage group of BOARD_V (R316). -/
def classOk (c v : Nat) : Bool :=
  (v == 12 && decide (c ≤ 3)) || (v == 24 && decide (4 ≤ c) && decide (c ≤ 7)) || (v == 48 && decide (8 ≤ c) && decide (c ≤ 9))

/-- The ranges of a power record at offset 4 of the payload (R316). -/
def podlRanges (p : Bytes) : Option Answer :=
  firstFail [between (byteAt p 4) 0 9 4, need ([12, 24, 48].contains (byteAt p 5)) (stBadParam 5),
    need (classOk (byteAt p 4) (byteAt p 5)) (stBadParam 4), between (le p 6 2) 50 1500 6,
    between (le p 8 2) (max 50 (le p 6 2)) 1500 8, between (byteAt p 10) 1 100 10, between (byteAt p 11) 1 100 11,
    between (le p 12 2) 0 200 12, between (le p 14 2) 50 1000 14]

/-- PORT_SET_PODL (R316). -/
def cmdPortSetPodl : Cmd :=
  { op := 0x0307, lengthOk := lenIs 20
    check := fun s n p => firstFail [podlPort s n p,
      need ((s.podlOf (byteAt p 0)).state == .off || (s.podlOf (byteAt p 0)).state == .fault) (podlWrong s (byteAt p 0)),
      podlRanges p]
    run := fun s _ _ p =>
      (s.modPodl (byteAt p 0) (fun x => { x with record := slice p 4 12 ++ zeros 4 }), .done (stOk [])) }

/-- The effect of PORT_PODL_CONTROL (R317, R319): an ON to a sleeping segment wakes it first; while OFF
was the last host command the Drover restarts nothing. -/
def State.podlCommand (s : State) (p : Nat) (on : Bool) : State :=
  let s := (s.touchPodl p on).modPodl p (fun x => { x with hostOff := !on, wasOn := x.wasOn && on })
  if on then (doIf (s.segState (segOfPort p) == .asleep) (fun s => s.wakeSegment (segOfPort p) 0 commandWake) s).podlOn p
  else s.podlTo p .off 0

/-- PORT_PODL_CONTROL (R317). -/
def cmdPortPodlControl : Cmd :=
  { op := 0x0308, lengthOk := lenIs 4
    check := fun s n p => firstFail [podlPort s n p,
      need (!((s.podlOf (byteAt p 0)).state == .fault && byteAt p 1 == 1 && byteAt p 2 == 0)) (podlWrong s (byteAt p 0)),
      flag p 1, flag p 2]
    run := fun s _ _ p =>
      let s := s.podlCommand (byteAt p 0) (byteAt p 1 == 1)
      (s, .done (stOk (w8 (s.podlOf (byteAt p 0)).state.code))) }

/-- PORT_GET_PODL (R321). -/
def cmdPortGetPodl : Cmd :=
  { op := 0x0309, lengthOk := lenIs 4
    check := fun s n p => firstFail [need (hasPodl (byteAt p 0)) (stBadParam 0), mayRead s n 1 (byteAt p 0)]
    run := fun s _ _ p =>
      let x := s.podlOf (byteAt p 0)
      let c := s.podlCurrent (byteAt p 0)
      (c.2, .done (stOk (x.record ++ w8 x.state.code ++ w8 x.cause ++ w16 c.1))) }

/-- The counters of a port in the order of R323. -/
def phyCtrs (p : Nat) : List PhyCtr :=
  [.linkUps, .linkDowns]
    ++ (if p ≤ 1 ∨ 5 ≤ p then [.fastOk, .coeffReject, .tc10WakeRx, .tc10WakeTx] else [])
    ++ (if p ≤ 1 then [.fallbacks, .grantDefer, .fecCorrected, .fecUncorrected] else [])
    ++ (if 23 ≤ p then [.beaconConflict, .beaconLoss] else [])
    ++ (if hasPodl p then [.short, .overload, .inrush, .undercurrent, .switch] else [])

/-- The counters of a port whose events no row of the table carries (R315, R323): corrected and uncorrected FEC codewords, and colliding
beacons. -/
def unseenCtrs (p : Nat) : List PhyCtr := if p ≤ 1 then [.fecCorrected, .fecUncorrected] else if 23 ≤ p then [.beaconConflict] else []

/-- What those counters have counted by the time they are read is free (log 65). -/
def State.countUnseen (s : State) (p : Nat) : State :=
  forAll (unseenCtrs p) (fun k s => let r := s.freeNat; r.2.count (.phy p k) r.1) s

/-- PORT_GET_PHY_COUNTERS (R323). -/
def cmdPortGetPhyCounters : Cmd :=
  { op := 0x030A, lengthOk := lenIs 4, check := readsPort
    run := fun s _ _ p =>
      let s := s.countUnseen (byteAt p 0)
      (s, .done (stOk (counterBytes s ((phyCtrs (byteAt p 0)).map (Ctr.phy (byteAt p 0)))))) }

/-- PORT_CLEAR_PHY_COUNTERS (R157, R323). -/
def cmdPortClearPhyCounters : Cmd :=
  { op := 0x030B, lengthOk := lenIs 4, check := ownsPort
    run := fun s _ _ p =>
      (s.clearCtrs (fun k => match k with | .phy q _ => q == byteAt p 0 | _ => false), .done (stOk [])) }

/-! Events. -/

/-- BOARD_BUDGET_BOUNDARY. -/
def execBoardBudgetBoundary (s : State) : Res := .next (s.boardOffer 5 12)

/-- INRUSH_END: the measured current in mA. -/
def execInrushEnd (k : Fin 12) (current : Nat) (s : State) : Res := .next (s.inrushEnd (k.val + 5) current)

/-- PODL_FAULT (R318): a short, or a switch fault. -/
def execPodlFault (k : Fin 12) (switch : Bool) (s : State) : Res :=
  .next (if (s.podlOf (k.val + 5)).state.drives then s.podlFault (k.val + 5) (if switch then 5 else 1) else s)

/-- PODL_FAULT_TIMER (R318): an overload, or an undercurrent where that check is on. -/
def execPodlFaultTimer (k : Fin 12) (under : Bool) (s : State) : Res :=
  let x := s.podlOf (k.val + 5)
  .next (if x.state = .powered ∧ (!under ∨ le x.record 8 2 ≠ 0) then s.podlFault (k.val + 5) (if under then 4 else 2) else s)

/-- PORT_GET_CAPS. -/
def execPortGetCaps (slot : Slot) (tag : Half) (payload : Bytes) (s : State) : Res :=
  .next (penyen cmdPortGetCaps slot.val tag payload s)

/-- PORT_SET_MODE. -/
def execPortSetMode (slot : Slot) (tag : Half) (payload : Bytes) (s : State) : Res :=
  .next (penyen cmdPortSetMode slot.val tag payload s)

/-- PORT_GET_MODE. -/
def execPortGetMode (slot : Slot) (tag : Half) (payload : Bytes) (s : State) : Res :=
  .next (penyen cmdPortGetMode slot.val tag payload s)

/-- PORT_GET_STATUS. -/
def execPortGetStatus (slot : Slot) (tag : Half) (payload : Bytes) (s : State) : Res :=
  .next (penyen cmdPortGetStatus slot.val tag payload s)

/-- PORT_FORGET_COEFFS. -/
def execPortForgetCoeffs (slot : Slot) (tag : Half) (payload : Bytes) (s : State) : Res :=
  .next (penyen cmdPortForgetCoeffs slot.val tag payload s)

/-- PORT_SET_WAKE. -/
def execPortSetWake (slot : Slot) (tag : Half) (payload : Bytes) (s : State) : Res :=
  .next (penyen cmdPortSetWake slot.val tag payload s)

/-- PORT_SEND_WAKE. -/
def execPortSendWake (slot : Slot) (tag : Half) (payload : Bytes) (s : State) : Res :=
  .next (penyen cmdPortSendWake slot.val tag payload s)

/-- PORT_SET_PODL. -/
def execPortSetPodl (slot : Slot) (tag : Half) (payload : Bytes) (s : State) : Res :=
  .next (penyen cmdPortSetPodl slot.val tag payload s)

/-- PORT_PODL_CONTROL. -/
def execPortPodlControl (slot : Slot) (tag : Half) (payload : Bytes) (s : State) : Res :=
  .next (penyen cmdPortPodlControl slot.val tag payload s)

/-- PORT_GET_PODL. -/
def execPortGetPodl (slot : Slot) (tag : Half) (payload : Bytes) (s : State) : Res :=
  .next (penyen cmdPortGetPodl slot.val tag payload s)

/-- PORT_GET_PHY_COUNTERS. -/
def execPortGetPhyCounters (slot : Slot) (tag : Half) (payload : Bytes) (s : State) : Res :=
  .next (penyen cmdPortGetPhyCounters slot.val tag payload s)

/-- PORT_CLEAR_PHY_COUNTERS. -/
def execPortClearPhyCounters (slot : Slot) (tag : Half) (payload : Bytes) (s : State) : Res :=
  .next (penyen cmdPortClearPhyCounters slot.val tag payload s)

end Sys2Proof.Machine
end

