-- ==== Sys2Proof/Machine/Swap.lean ====
section
/-! DEFINITION. Banks, generations and swaps of the firewall and of the routes (R21, R188 to R190, R378). -/

namespace Sys2Proof.Machine

/-- Partition state codes (R189). -/
def PartState.code : PartState → Nat
  | .idle => 0 | .armed => 1 | .retiring => 2

/-- A bank with the entries that `sel` names taken from another bank. -/
def takeFrom {α : Type} (t u : Tbl α) (sel : Nat → Bool) : Tbl α :=
  (u.filter (fun e => sel e.1)).foldl (fun t e => tset t e.1 e.2) (t.filter (fun e => !sel e.1))

/-- A mask names the partition that an index belongs to, with `per` entries a partition and the mask's bits from `lo`. -/
def inParts (mask lo per : Nat) (i : Nat) : Bool := mask.testBit (lo + i / per)

/-- Two CAN rules have the same key: validity and match fields (R192). -/
def sameCanKey (a b : Bytes) : Bool := slice a 0 1 == slice b 0 1 && slice a 2 15 == slice b 2 15

/-- The bucket of a CAN rule after a swap (R192): a rule whose key has changed is full; else the level stays, clipped. -/
def swapBucket (old new : Bytes) (b : CanBucket) (now : Nat) : Option CanBucket :=
  if sameCanKey old new then
    some { level := min (bucketNow old (some b) now) (le new 18 2 * 10 ^ 12), last := now }
  else none

/-- The buckets after the CAN partitions of a mask have swapped. One that was never charged holds the BURST of the old bank's rule. -/
def Customs.swapBuckets (c : Customs) (mask now : Nat) : Tbl CanBucket :=
  let never := c.canRules.filter (fun e =>
    inParts mask 16 1024 e.1 && (tget? c.buckets e.1).isNone && decide (le e.2 18 2 < le (tgetD c.canStaged e.1 []) 18 2))
  let held := never.foldl (fun t e => tset t e.1 { level := le e.2 18 2 * 10 ^ 12, last := now }) c.buckets
  held.filterMap (fun e =>
    if inParts mask 16 1024 e.1 then
      (swapBucket (tgetD c.canRules e.1 []) (tgetD c.canStaged e.1 []) e.2 now).map (fun b => (e.1, b))
    else some e)

/-- The staging banks of a mask become active and the active ones staging (R188). -/
def Customs.swapBanks (c : Customs) (mask now : Nat) : Customs :=
  { c with
    border := takeFrom c.border c.borderStaged (inParts mask 0 256)
    borderStaged := takeFrom c.borderStaged c.border (inParts mask 0 256)
    canRules := takeFrom c.canRules c.canStaged (inParts mask 16 1024)
    canStaged := takeFrom c.canStaged c.canRules (inParts mask 16 1024)
    buckets := c.swapBuckets mask now
    matrix := if mask.testBit 32 then c.matrixStaged else c.matrix
    matrixStaged := if mask.testBit 32 then c.matrix else c.matrixStaged }

/-- The partitions of a mask set to a state. -/
def setParts {n : Nat} (v : Vector PartState n) (mask : Nat) (st : PartState) : Vector PartState n :=
  (maskList n mask).foldl (fun v i => vset v i st) v

/-- The generation increments (R188, R230, R378). -/
def State.nextGen (s : State) : State := s.modCustoms (fun c => { c with gen := (c.gen + 1) % 2 ^ 32 })

/-- A Customs swap takes place (R188, R189): its partitions are RETIRING until the old generation is gone. -/
def State.swapCustoms (s : State) (w : Swap) : State :=
  let old := s.net.customs.gen
  let s := s.modCustoms (fun c => { c.swapBanks w.mask s.now with
    parts := setParts c.parts w.mask .retiring
    swaps := c.swaps ++ [{ w with old := old, swapped := true }] })
  s.nextGen

/-- The relay complex changed. -/
def State.modRelay (s : State) (f : Relay → Relay) : State := { s with relay := f s.relay }

/-- A route swap takes place (R378). -/
def State.swapRoutes (s : State) (w : Swap) : State :=
  let old := s.net.customs.gen
  let sel := inParts w.mask 0 1024
  let s := s.modRelay (fun r => { r with
    routes := takeFrom r.routes r.routesStaged sel, routesStaged := takeFrom r.routesStaged r.routes sel
    parts := setParts r.parts w.mask .retiring, swaps := r.swaps ++ [{ w with old := old, swapped := true }] })
  s.nextGen

/-- No waybill and no relay job still carries a generation (R21, R189): a frame does until it is confirmed or revoked. -/
def State.retired (s : State) (old : Nat) : Bool :=
  s.net.frames.all (fun f => f.ruled || f.gen != old) &&
    s.relay.engines.toList.all (fun e => e.jobs.all (fun j => j.gen != old))

/-- The reply of a swap: its response, or for a timed swap its DONE event, with the new generation (R192, R393). -/
def State.answerSwap (s : State) (w : Swap) (op : Nat) : State :=
  let g := w32 ((w.old + 1) % 2 ^ 32)
  match w.instant with
  | none => s.answerStarted w.slot w.tag (BitVec.ofNat 16 op) (stOk g)
  | some _ => s.finishJob w.slot w.tag (BitVec.ofNat 16 op) 0 g

/-- A Customs swap retires (R189): staging takes a copy of the active bank, and the partitions return to IDLE. -/
def State.retireCustoms (s : State) (w : Swap) : State :=
  let s := s.modCustoms (fun c => { c with
    borderStaged := takeFrom c.borderStaged c.border (inParts w.mask 0 256)
    canStaged := takeFrom c.canStaged c.canRules (inParts w.mask 16 1024)
    matrixStaged := if w.mask.testBit 32 then c.matrix else c.matrixStaged
    parts := setParts c.parts w.mask .idle, swaps := c.swaps.filter (fun x => x != w) })
  s.answerSwap w 0x050A

/-- A route swap retires (R378). -/
def State.retireRoutes (s : State) (w : Swap) : State :=
  let s := s.modRelay (fun r => { r with
    routesStaged := takeFrom r.routesStaged r.routes (inParts w.mask 0 1024)
    parts := setParts r.parts w.mask .idle, swaps := r.swaps.filter (fun x => x != w) })
  s.answerSwap w 0x0C04

/-- A swap of the stream identification table retires (R230). -/
def State.retireStreams (s : State) (w : Swap) : State :=
  let s := s.modNet (fun n => { n with streamIds := { n.streamIds with
    staged := n.streamIds.active, retiring := false, swaps := [] } })
  s.answerSwap w 0x0609

/-- GENERATION_RETIRED (R189): every swap whose old generation nothing carries any more retires. -/
def State.retireAll (s : State) : State :=
  let due (l : List Swap) : List Swap := l.filter (fun w => w.swapped && s.retired w.old)
  let s1 := forAll (due s.net.customs.swaps) (fun w s => s.retireCustoms w) s
  let s2 := forAll (due s.relay.swaps) (fun w s => s.retireRoutes w) s1
  forAll (due s.net.streamIds.swaps) (fun w s => s.retireStreams w) s2

/-- A timed swap is due: its instant is not in the future, by the signed difference of R45. -/
def swapDue (now : Nat) (w : Swap) : Bool :=
  match w.instant with
  | none => false
  | some t => !w.swapped && decide (signedOf 32 (toTwos 32 ((t : Int) - now)) ≤ 0)

/-- TIMED_SWAP_FIRE (R189, R378): the swaps whose instant is reached take place, in the order in which they were armed. -/
def State.fireSwaps (s : State) : State :=
  let c := s.net.customs.swaps.filter (swapDue s.now)
  let r := s.relay.swaps.filter (swapDue s.now)
  let s := s.modCustoms (fun x => { x with swaps := x.swaps.filter (fun w => !swapDue s.now w) })
  let s := s.modRelay (fun x => { x with swaps := x.swaps.filter (fun w => !swapDue s.now w) })
  forAll r (fun w s => s.swapRoutes w) (forAll c (fun w s => s.swapCustoms w) s)

/-- The state of a partition admits a write or a swap (R189): ST_BUSY while RETIRING, ST_WRONG_STATE while ARMED. -/
def partFree (ty i : Nat) (st : PartState) : Option Answer :=
  match st with
  | .idle => none
  | .armed => some (stWrongState ty i 1)
  | .retiring => some stBusy

/-- Every partition of a mask admits a swap. -/
def partsFree {n : Nat} (ty : Nat) (v : Vector PartState n) (mask : Nat) : Option Answer :=
  firstFail ((maskList n mask).map (fun i => partFree ty i (vget v i)))

end Sys2Proof.Machine
end

