-- ==== Sys2Proof/Machine/Tunnel.lean ====
section
/-! DEFINITION. Tunnels: ACF messages, open frames, sending and unpacking (R382 to R385). -/

namespace Sys2Proof.Machine

/-- The tunnel record after a cold start (R382). -/
def Tunnel.blankRecord : Bytes := [0, 6, 1, 0] ++ w16 1488 ++ zeros 26

/-- A tunnel never written. -/
def Tunnel.blank : Tunnel := { record := Tunnel.blankRecord, txSeq := 0, rxSeq := none, open_ := none }

/-- Tunnel `t`. -/
def State.tunnel (s : State) (t : Nat) : Tunnel := tgetD s.relay.tunnels t Tunnel.blank

/-- Tunnel `t` changed. -/
def State.modTunnel (s : State) (t : Nat) (f : Tunnel → Tunnel) : State :=
  s.modRelay (fun r => { r with tunnels := tmod r.tunnels t Tunnel.blank f })

/-- TX_EN. -/
def Tunnel.txEn (x : Tunnel) : Bool := bitOf (byteAt x.record 0) 0
/-- RX_EN. -/
def Tunnel.rxEn (x : Tunnel) : Bool := bitOf (byteAt x.record 0) 1

/-! Messages. The bit layout of the ACF headers is PRESUMED of IEEE 1722-2016 (log 12). -/

/-- The common head of an ACF message of `len` bytes: type and length in quadlets. -/
def acfHead (ty len : Nat) : Bytes := beBytes 2 (ty * 512 + len / 4)

/-- Zero bytes up to a whole quadlet. -/
def quadPad (d : Bytes) : Bytes := zeros ((4 - d.length % 4) % 4)

/-- The ACF message of a frame (R383): source code, start-of-frame stamp, frame. -/
def acfMessage (source stamp : Nat) (f : CanFrame) : Bytes :=
  let d := f.data
  let pad := (quadPad d).length
  let body := d ++ quadPad d
  if f.format = 8 then
    acfHead 3 (12 + body.length) ++ w8 (pad * 64 + 32 + (if 0x300 ≤ source ∧ source < 0x304 then source - 0x300 else 31))
      ++ w8 (f.id % 256) ++ beBytes 8 stamp ++ body
  else if f.format = 16 then
    acfHead 6 (12 + body.length) ++ w8 (pad * 64 + 32 + (if 0x310 ≤ source ∧ source < 0x316 then source - 0x310 else 31))
      ++ [0] ++ beBytes 8 stamp ++ body
  else if f.kind = 2 then
    acfHead 0x79 (24 + body.length) ++ beBytes 3 0x0AE17C ++ w8 (b2n (bitOf f.format 4)) ++ w8 f.sdt ++ w8 f.vcid
      ++ beBytes 8 stamp ++ beBytes 2 (f.id % 2 ^ 11) ++ beBytes 2 d.length ++ beBytes 4 f.af ++ body
  else
    acfHead 1 (16 + body.length)
      ++ w8 (pad * 64 + 32 + b2n f.remote * 16 + b2n f.ide * 8 + b2n (f.kind == 1 && bitOf f.format 2) * 4
        + b2n (f.kind == 1) * 2 + b2n (f.kind == 1 && bitOf f.format 3))
      ++ w8 (if source < 16 then source else 31) ++ beBytes 8 stamp ++ beBytes 4 (f.id % 2 ^ 29) ++ body

/-- A tunnel frame (R383): the record, its sequence_num, the messages. -/
def tunnelFrame (r : Bytes) (seq : Nat) (msgs : Bytes) : Bytes :=
  let vlan := le r 22 2
  let vid := vlan % 4096
  let tag := if vid = 0 then [] else beBytes 2 0x8100 ++ beBytes 2 (vlan / 8192 * 8192 + vid)
  slice r 16 6 ++ beBytes 6 Config.managementMac.toNat ++ tag ++ beBytes 2 0x22F0
    ++ [0x82] ++ beBytes 2 (0x8000 + msgs.length) ++ w8 seq ++ slice r 8 8 ++ msgs

/-- The open frame of a tunnel is sent from F26 (R383, R384). -/
def State.sendTunnel (s : State) (t : Nat) : State :=
  let x := s.tunnel t
  match x.open_ with
  | none => s
  | some f =>
    let s := s.modTunnel t (fun x => { x with open_ := none, txSeq := (x.txSeq + 1) % 256 })
    let o : OutFrame :=
      { ingress := 26, bytes := tunnelFrame x.record x.txSeq f.bytes, direct := none, launch := f.launch
        tc := some (byteAt x.record 1 % 8), oneStep := false }
    let s : State := { s with net := { s.net with outbox := s.net.outbox ++ [o] } }
    (s.count (.relay t .txFrames)).count (.relay t .txMsgs) f.messages

/-- A message joins the open frame, which is sent where R384 says so. -/
def State.joinTunnel (s : State) (t : Nat) (m : Bytes) (launch : Option Nat) (flush : Bool) : State :=
  let r := (s.tunnel t).record
  let full := match (s.tunnel t).open_ with
    | none => false
    | some f => decide (le r 4 2 < f.bytes.length + m.length) || decide (byteAt r 2 < f.messages + 1)
  let s := if full then s.sendTunnel t else s
  let f := ((s.tunnel t).open_).getD { messages := 0, bytes := [], launch := none }
  let f : OpenFrame := { messages := f.messages + 1, bytes := f.bytes ++ m, launch := launch }
  let s := s.modTunnel t (fun x => { x with open_ := some f })
  if byteAt r 2 ≤ f.messages ∨ le r 6 2 = 0 ∨ flush ∨ launch.isSome then s.sendTunnel t else s

/-- The ports P5 to P24 that are ASLEEP in the destination set of a tunnel's frames (R389). -/
def State.tunnelAsleep (s : State) (t : Nat) : List Nat :=
  let x := s.tunnel t
  let b := tunnelFrame x.record 0 []
  let h := parse false b.length b
  let vid := if le x.record 22 2 % 4096 = 0 then le (s.fwd 26) 0 2 else le x.record 22 2 % 4096
  let i : Intake :=
    { port := 26, slot := 0xFF, bytes := b, ended := true, maxFrame := 9216, stamp := s.now, stampFrac := 0, preempt := false
      direct := none, tc := none, launch := none, ring := none }
  match s.destSet i h (tgetD s.net.vlans vid default) with
  | .error _ => []
  | .ok l => ((l.map (·.1)).filter (fun p => decide (5 ≤ p) && decide (p < 25) && s.segState (segOfPort p) == .asleep)).eraseDups

/-! Unpacking (R385). -/

/-- A job's message out of an ACF message of one of the types of R385. -/
def acfUnpack (source stamp : Nat) (m : Bytes) : Option RMsg :=
  let ty := byteAt m 0 / 2
  let fl := byteAt m 2
  let body (o : Nat) : Bytes := (m.drop o).take (m.length - o - fl / 64)
  let make (f : CanFrame) (acf : Option Nat) : Option RMsg :=
    some { source := source, frame := f, stamp := stamp, acf := acf, launch := none, ring := none, entry := none
           charged := false }
  let mtv (o : Nat) : Option Nat := if bitOf fl 5 then some (be m o 8) else none
  let canFormat := if bitOf fl 1 then 1 + 4 * b2n (bitOf fl 2) + 8 * b2n (bitOf fl 0) else 0
  let canId (o : Nat) : Nat := be m o 4 % 2 ^ 29 + 2 ^ 29 * b2n (bitOf fl 3) + 2 ^ 30 * b2n (bitOf fl 4)
  if ty = 1 then make { (default : CanFrame) with id := canId 12, format := canFormat, data := body 16 } (mtv 4)
  else if ty = 2 then make { (default : CanFrame) with id := canId 4, format := canFormat, data := body 8 } none
  else if ty = 3 then make { (default : CanFrame) with id := byteAt m 3, format := 8, data := body 12 } (mtv 4)
  else if ty = 6 then make { (default : CanFrame) with id := byteAt m 12, format := 16, data := body 12 } (mtv 4)
  else if ty = 0x79 then
    make { id := be m 16 2 % 2 ^ 11, format := 2 + 16 * (byteAt m 5 % 2), af := be m 20 4, sdt := byteAt m 6
           vcid := byteAt m 7, data := slice m 24 (be m 18 2) } (some (be m 8 8))
  else none

/-- The messages of a tunnel frame in order (R385): jobs' messages, how many were skipped, and whether a length ran past the
frame. -/
def acfWalk (source stamp : Nat) : Nat → Bytes → List RMsg × Nat × Bool
  | 0, _ => ([], 0, false)
  | fuel + 1, b =>
    if b.isEmpty then ([], 0, false)
    else
      let len := be b 0 2 % 512 * 4
      if len < 4 ∨ b.length < len then ([], 0, true)
      else
        let r := acfWalk source stamp fuel (b.drop len)
        match acfUnpack source stamp (b.take len) with
        | some m => (m :: r.1, r.2)
        | none => (r.1, r.2.1 + 1, r.2.2)

/-- The tunnel that receives a stream (R385). -/
def State.tunnelOf (s : State) (stream : Bytes) : Option Nat :=
  (s.relay.tunnels.find? (fun e => e.2.rxEn && slice e.2.record 24 8 == stream)).map (·.1)

/-- A frame reaches F26 (R385): it is unpacked into messages that wait for their engine, or dropped. Without sv it names no stream; of
another version than 0 it is malformed (R4, log 12). -/
def State.tunnelFrameIn (s : State) (bytes : Bytes) (stamp : Nat) : State :=
  let h := parse true bytes.length bytes
  let o := h.l3off
  let tscf := h.proto == 5
  let ok := h.etype == 0x22F0 && (tscf || h.proto == 0x82) && bitOf (byteAt bytes (o + 1)) 7
  match if ok then s.tunnelOf (slice bytes (o + 4) 8) else none with
  | none => s.count (.relay 0 .noTunnel)
  | some t =>
    let seq := byteAt bytes (if tscf then o + 2 else o + 3)
    let msgs := if tscf then slice bytes (o + 24) (be bytes (o + 20) 2) else slice bytes (o + 12) (be bytes (o + 1) 2 % 2048)
    let gap := match (s.tunnel t).rxSeq with
      | some k => decide (seq ≠ (k + 1) % 256)
      | none => false
    let w := acfWalk (0x200 + t) stamp msgs.length msgs
    if byteAt bytes (o + 1) / 16 % 8 ≠ 0 then s.count (.relay t .acfMalformed)
    else
    let s := s.modTunnel t (fun x => { x with rxSeq := some seq })
    let s := (s.count (.relay t .rxFrames)).count (.relay t .seqGap) (b2n gap)
    let s := (s.count (.relay t .rxMsgs) w.1.length).count (.relay t .acfSkipped) w.2.1
    let s := s.count (.relay t .acfMalformed) (b2n w.2.2)
    s.modRelay (fun r => { r with waiting := r.waiting ++ w.1 })

end Sys2Proof.Machine
end

