-- ==== Sys2Proof/Machine/Relay.lean ====
section
/-! DEFINITION. Relay engines: sources and homes, jobs, outputs and their delivery, check runs and windows, self-test, the fault
latch and safe states (chapters 16 and 17 of the spec). -/

namespace Sys2Proof.Machine

/-! Sources and homes (R184, R372, R390). -/

/-- A channel source (R372). -/
def isChannel (c : Nat) : Bool := decide (c < 16) || (serSource c).isSome

/-- The home engine of a source after a cold start (R390). -/
def firstHome (c : Nat) : Nat :=
  if c < 16 then 1 + c % 11
  else if c < 0x200 then (c - 0x100) / 16 % 12
  else if c < 0x300 then (c - 0x200) % 12
  else if c < 0x310 then 6 + (c - 0x300)
  else 6 + (c - 0x310)

/-- The channel sources, by code. -/
def channelSources : List Nat :=
  List.range 16 ++ (List.range 4).map (fun c => 0x300 + c) ++ (List.range 6).map (fun c => 0x310 + c)

/-- The virtual ports and tunnels, by code. -/
def otherSources : List Nat := (List.range 512).map (fun c => 0x100 + c)

/-- The home engine of a source. -/
def State.homeOf (s : State) (c : Nat) : Nat := tgetD s.relay.homes c (firstHome c)

/-- A source moved to an engine. -/
def State.setHome (s : State) (c e : Nat) : State :=
  s.modRelay (fun r => { r with homes := if e = firstHome c then tdel r.homes c else tset r.homes c e })

/-- Engine `e`. -/
def State.engine (s : State) (e : Nat) : EngineRec := vget s.relay.engines e

/-- Engine `e` changed. -/
def State.modEngine (s : State) (e : Nat) (f : EngineRec → EngineRec) : State :=
  s.modRelay (fun r => { r with engines := vmod r.engines e f })

/-- The channel sources that an engine serves (R390, R391). -/
def State.channelsOf (s : State) (e : Nat) : Nat := (channelSources.filter (fun c => s.homeOf c == e)).length

/-- Engine state codes (R391). -/
def EngineState.code : EngineState → Nat
  | .inService => 0 | .selfTest => 1 | .retired => 2

/-- The engines IN_SERVICE. -/
def State.inService (s : State) : Nat :=
  ((List.range 12).filter (fun e => (s.engine e).state == .inService)).length

/-- A job of this source is in progress on some engine. -/
def State.sourceBusy (s : State) (c : Nat) : Bool :=
  s.relay.engines.toList.any (fun e => e.jobs.any (fun j => j.msg.source == c))

/-- The receive FIFOs of a channel whose consumer is the relay complex (R371). -/
def State.relayFifos (s : State) (c : Nat) : List (Nat × Fifo) :=
  if c < 16 then
    ([0, 1].filter (fun f => !(s.canCh c).hostFifo f)).map (fun f => (f, vget (s.canCh c).fifos f))
  else if (serSource c).isSome && (serHostFifo s c).isSome then [(0, s.serFifo c)]
  else []

/-- A receive FIFO of a channel changed. -/
def State.modRelayFifo (s : State) (c f : Nat) (g : Fifo → Fifo) : State :=
  if c < 16 then s.modCan c (fun x => { x with fifos := vmod x.fifos f g }) else s.modSerFifo c g

/-- The oldest entry of a list. -/
def oldestEntry (l : List (Nat × RxEntry)) : Option (Nat × RxEntry) :=
  l.foldl (fun b e => match b with
    | none => some e
    | some x => if e.2.seq < x.2.seq then some e else b) none

/-- The next entry of a channel, in the order in which its frames became valid, across its FIFOs (R372). -/
def State.relayEntry (s : State) (c : Nat) : Option (Nat × RxEntry) :=
  oldestEntry ((s.relayFifos c).flatMap (fun q => (q.2.entries.filter (fun e => !e.owned)).map (fun e => (q.1, e))))

/-- A frame of this source waits. -/
def State.hasWork (s : State) (c : Nat) : Bool :=
  s.relay.waiting.any (fun m => m.source == c) || (s.relayEntry c).isSome

/-- The first code at or after a point, round-robin. -/
def turn (from_ : Nat) (l : List Nat) : Option Nat :=
  match l.find? (fun c => from_ ≤ c) with
  | some c => some c
  | none => l.head?

/-- The source that an engine serves next (R372): channel sources first, round-robin within each group, one job per source
at a time. -/
def State.nextSource (s : State) (e : Nat) : Option Nat :=
  let mine (c : Nat) : Bool := s.homeOf c == e && s.hasWork c && !s.sourceBusy c
  match turn (s.engine e).lastChan (channelSources.filter mine) with
  | some c => some c
  | none => turn (s.engine e).lastOther ((otherSources.filter (fun c => s.relay.waiting.any (fun m => m.source == c))).filter mine)

/-- The frame of a source that its engine takes (R371): one that was abandoned, or the next one. A FIFO entry becomes the
engine's. -/
def State.takeFrame (s : State) (c : Nat) : Option RMsg × State :=
  match s.relay.waiting.find? (fun m => m.source == c) with
  | some m => (some m, s.modRelay (fun r => { r with waiting := r.waiting.erase m }))
  | none =>
    match s.relayEntry c with
    | none => (none, s)
    | some (f, e) =>
      let s := s.modRelayFifo c f (fun q => { q with
        entries := q.entries.map (fun x => if x.handle = e.handle then { x with owned := true } else x) })
      (some { source := c, frame := e.frame, stamp := e.stamp, acf := none, launch := none, ring := none
              entry := some (f, e.handle), charged := false }, s)

/-! Routes and outputs (R375, R379, R380, R386, R387). -/

/-- A route matches a frame (R375). -/
def routeMatches (r : Bytes) (source : Nat) (f : CanFrame) : Bool :=
  let m := le r 8 4 % 2 ^ 30
  routeValid r && (le r 2 2 == 0xFFFF || le r 2 2 == source) && bitOf (byteAt r 1) f.fmtBit
    && (f.id % 2 ^ 30 &&& m) == (le r 4 4 % 2 ^ 30 &&& m)

/-- The routes that apply: matching ones up to the first LAST, at most 8; and whether a ninth matched (R375). -/
def appliedRoutes (l : List (Nat × Bytes)) : List (Nat × Bytes) × Bool :=
  let upTo := l.takeWhile (fun e => !bitOf (byteAt e.2 0) 4)
  let l := l.take (upTo.length + 1)
  (l.take 8, decide (8 < l.length))

/-- id' of R379. -/
def rewrittenId (r : Bytes) (id : Nat) : Nat :=
  let m := le r 20 4 % 2 ^ 30
  let i := id % 2 ^ 30
  (i ^^^ (i &&& m)) ||| (le r 16 4 % 2 ^ 30 &&& m)

/-- The frame in the output format of a route (R380), before padding; none where a rule of the table is broken. -/
def convertFrame (r : Bytes) (f : CanFrame) : Option CanFrame :=
  let k := byteAt r 15
  let id := rewrittenId r f.id
  let serial := f.format == 8 || f.format == 16
  let rtr := if !serial && f.remote then 2 ^ 30 else 0
  let xl := !serial && f.kind == 2
  let sec := xl && bitOf f.format 4
  let n := f.data.length
  let plain (id format : Nat) : CanFrame := { id := id, format := format, af := 0, sdt := 0, vcid := 0, data := f.data }
  if k = 0 then some { f with id := id + rtr }
  else if k = 1 then (if n ≤ 8 && !sec then some (plain (id + rtr) 0) else none)
  else if k = 2 ∨ k = 3 then (if n ≤ 64 && !sec && rtr == 0 then some (plain id (if k = 3 then 5 else 1)) else none)
  else if xl then some { f with id := id }
  else if !bitOf id 29 && decide (1 ≤ n) then some (plain id 2)
  else none

/-- A destination that takes CAN formats only. -/
def canDest (d : Nat) : Bool := decide (d < 0x200)

/-- The frame that a route makes of a frame (R379, R380). A LIN or serial frame kept as received is no CAN frame. -/
def routeFrame (r : Bytes) (f : CanFrame) : Option CanFrame :=
  match convertFrame r f with
  | none => none
  | some g =>
    if canDest (routeDest r) ∧ (g.format = 8 ∨ g.format = 16) then none
    else g.padded (BitVec.ofNat 8 (byteAt r 24))

/-- The instant of R386. -/
def routeLaunch (r : Bytes) (m : RMsg) : Option Nat :=
  let base := if byteAt r 25 = 1 then (if m.ring.isSome then m.launch else some m.stamp)
    else if byteAt r 25 = 2 then m.acf
    else m.launch
  base.map (fun t => (t + if byteAt r 25 = 0 then 0 else le r 28 4) % 2 ^ 32)

/-- The segment of a destination (R389): CAN and LIN channels. -/
def destSegment (d : Nat) : Option Nat :=
  if d < 16 then some d else if 0x300 ≤ d ∧ d < 0x304 then some (16 + (d - 0x300)) else none

/-- The segment of a destination is ASLEEP. -/
def State.destAsleep (s : State) (d : Nat) : Bool :=
  match destSegment d with
  | some n => s.segState n == .asleep
  | none => false

/-- An output of a route with this frame, built at clock `now` (R379 to R387). -/
def State.makeOut (s : State) (i : Nat) (r : Bytes) (m : RMsg) (f : CanFrame) : ROut :=
  { route := i, dest := routeDest r, queue := routeQueue r, frame := f, launch := routeLaunch r m
    deadline := if routeLife r = 0 then none else some ((s.now + routeLife r * 1000) % 2 ^ 32)
    escorted := bitOf (byteAt r 0) 1, flush := bitOf (byteAt r 0) 3, wakeFwd := bitOf (byteAt r 0) 2
    asleep := s.destAsleep (routeDest r), pad := BitVec.ofNat 8 (byteAt r 24) }

/-- The safe record of a route after a cold start (R409). -/
def Esc.blankSafe (route : Nat) : Bytes := w16 route ++ zeros 74

/-- The frame of a safe state (R409): HOLD_LAST, DEFAULT, or none for STOP. -/
def State.safeFrame (s : State) (i : Nat) : Option CanFrame :=
  let r := tgetD s.esc.safe i (Esc.blankSafe i)
  if byteAt r 2 = 1 then tget? s.esc.held i
  else if byteAt r 2 = 2 then
    some { (default : CanFrame) with id := le r 4 4, format := byteAt r 3, data := slice r 12 (le r 8 2) }
  else none

/-- The output that a route makes: its safe state's while the fault latch is set and the route is escorted (R407, R409), else
its own (R379). SAFE_OUTPUTS counts each job whose output comes from the safe state (DEDUCED, log 43). -/
def State.routeOut (s : State) (i : Nat) (r : Bytes) (m : RMsg) : Option ROut × State :=
  if bitOf (byteAt r 0) 1 && s.esc.latched then
    ((s.safeFrame i).map (s.makeOut i r m), s.count (.esc i .safeOutputs))
  else
    match routeFrame r m.frame with
    | some f => (some (s.makeOut i r m f), s)
    | none => (none, s.count (.relay i .formatDrop))

/-- The outputs of the applied routes, in order. -/
def State.routeOuts (s : State) (m : RMsg) : List (Nat × Bytes) → List ROut × State
  | [] => ([], s)
  | (i, r) :: l =>
    let a := s.routeOut i r m
    let b := a.2.routeOuts m l
    (a.1.toList ++ b.1, b.2)

/-! Delivery (R381, R389). -/

/-- What became of an output. -/
inductive Fate where
  /-- Delivered; to a CAN queue with a descriptor to answer; to a host ring, which writes it later. -/
  | done | queued | host
  /-- Refused, with the descriptor status where R381 gives one. -/
  | refused (status : Option Nat)
deriving DecidableEq, Repr

/-- The wake of WAKE_FWD (R389). -/
def State.forwardWake (s : State) (o : ROut) : State :=
  match destSegment o.dest with
  | some n => (s.count (.relay o.route .wakeFwd)).wakeSegment n 2 commandWake
  | none =>
    if 0x200 ≤ o.dest ∧ o.dest < 0x300 then
      forAll (s.tunnelAsleep (o.dest - 0x200))
        (fun p s => (s.count (.relay o.route .wakeFwd)).wakeSegment (segOfPort p) 2 commandWake) s
    else s

/-- An output to a CAN channel (R333, R334, R381). -/
def State.toCan (s : State) (o : ROut) (f : CanFrame) (ring : Option RingRef) : Fate × State :=
  let x := s.canCh o.dest
  let drop (st : Option Nat) (s : State) : Fate × State := (.refused st, s.count (.relay o.route .enqueueDrop))
  if !x.open_ then drop none s
  else if !x.takes f then drop (some 9) s
  else
    let r := s.enqueueCan o.dest
      { (default : CanTx) with frame := f, queue := o.queue % 8, launch := o.launch, deadline := o.deadline, ring := ring }
    if r.1 then (if ring.isSome then .queued else .done, r.2) else drop (some 2) r.2

/-- An output to a LIN publish buffer (R381). -/
def State.toLin (s : State) (o : ROut) (f : CanFrame) : Fate × State :=
  let c := o.dest - 0x300
  let id := f.id % 64
  let e := vget (s.linCh c).frames id
  if e.direction = 1 then (.done, s.linPublish c id (fillTo e.length o.pad (f.data.take e.length)))
  else (.refused (some 9), s.count (.relay o.route .formatDrop))

/-- An output to a UART (R366, R381). -/
def State.toUart (s : State) (o : ROut) (f : CanFrame) : Fate × State :=
  let c := o.dest - 0x310
  let x := s.uartCh c
  let drop (st : Option Nat) (s : State) : Fate × State := (.refused st, s.count (.relay o.route .enqueueDrop))
  if x.state ≠ 1 then drop none s
  else if f.data.isEmpty || decide (x.maxTx < f.data.length) then drop (some 9) s
  else
    let r := s.enqueueUart c { data := f.data, priority := o.queue, deadline := o.deadline, failed := 0, expired := false }
    if r.1 then (.done, r.2) else drop (some 2) r.2

/-- An output to a tunnel (R383, R384, R387). -/
def State.toTunnel (s : State) (o : ROut) (m : RMsg) (f : CanFrame) : Fate × State :=
  let t := o.dest - 0x200
  let x := s.tunnel t
  let msg := acfMessage m.source m.stamp f
  if !x.txEn then (.refused (some 9), s.count (.relay o.route .formatDrop))
  else if le x.record 4 2 < msg.length then
    (.refused (some 9), (s.count (.relay t .tooLong)).count (.relay o.route .formatDrop))
  else if passed s.now o.deadline then (.refused (some 11), s.count (.relay o.route .lifetime))
  else (.done, s.joinTunnel t msg o.launch o.flush)

/-- An output delivered (R381, R389): a sleeping destination decides first, then the protection of R428. Standard outputs
look at the segment now, escorted ones at what their job captured (R402). -/
def State.deliverOut (s : State) (e : Nat) (number : Nat) (m : RMsg) (o : ROut) : Fate × State :=
  let asleep := if o.escorted then o.asleep else s.destAsleep o.dest
  if asleep && !o.wakeFwd then (.refused none, s.count (.relay o.route .segAsleep))
  else
    let s := if o.wakeFwd && (asleep || !(destSegment o.dest).isSome) then s.forwardWake o else s
    match s.authProtect o.dest o.pad o.frame with
    | (.format, s) => (.refused (some 9), s.count (.relay o.route .formatDrop))
    | (.none_, s) => (.refused none, s)
    | (.made f, s) =>
      if o.dest < 16 then
        s.toCan o f (match m.ring with | some r => if r.ts then some r else none | none => none)
      else if o.dest < 0x200 then
        let v : VOut :=
          { slot := (o.dest - 0x100) / 16, vport := (o.dest - 0x100) % 16, source := m.source, stamp := m.stamp, frame := f
            tc := o.queue % 8, route := o.route, engine := e, job := number }
        (.host, s.modRelay (fun r => { r with vout := r.vout ++ [v] }))
      else if o.dest < 0x300 then s.toTunnel o m f
      else if o.dest < 0x304 then s.toLin o f
      else s.toUart o f

/-! The check run's transform and the signatures (R397, R399 to R401). -/

/-- Where a check run holds the byte that the main run holds at a scratch offset (R397). -/
def mirrored (off : Nat) : Nat := off ^^^ 0x1FFC

/-- A data word as a check run holds it (R397). -/
def turned (v : Word) : Word := v.rotateLeft 13

/-- A value that a check run writes to an output: rotated back, from what it holds with the struck bits inverted. -/
def checkValue (struck v : Word) : Word := (turned v ^^^ struck).rotateRight 13

/-- The bits struck of the `k`-th committed value. -/
def struckAt (strikes : List Strike) (k : Nat) : Word :=
  (strikes.filter (fun x => x.at_ == k)).foldl (fun v x => v ^^^ x.bits) 0

/-- The committed values of the check run (R397). -/
def checkValues (strikes : List Strike) (values : List Word) : List Word :=
  (List.range values.length).map (fun k => checkValue (struckAt strikes k) (values.getD k 0))

/-- The signature register takes a value with its output address: one shift by x⁶⁴ + x⁴ + x³ + x + 1, then the 48 bits are added
(R401). The spec does not say where they enter, nor how outputs are numbered: the value enters at bit 0, its address at bit 32, and
outputs are numbered in order (DESIGN CHOICE, log 73). -/
def signValue (sig : DWord) (address : Nat) (v : Word) : DWord :=
  sig <<< 1 ^^^ (if sig.msb then 0x1B else 0) ^^^ BitVec.ofNat 64 (address % 2 ^ 16 * 2 ^ 32 + v.toNat)

/-- A run's committed values in its signature. -/
def signAll (sig : DWord) (address : Nat) : List Word → DWord
  | [] => sig
  | v :: vs => signAll (signValue sig address v) (address + 1) vs

/-- The output buffer of a frame: its data, and NORM_BYTE up to the buffer's end (R400). A buffer holds 64 bytes, or 2,048 where the
data is longer (log 73). -/
def outBuffer (norm : BitVec 8) (data : Bytes) : Bytes := data ++ List.replicate ((if data.length ≤ 64 then 64 else 2048) - data.length) norm

/-- Bytes as 32-bit values. -/
def bytesWords : Nat → Bytes → List Word
  | 0, _ => []
  | n + 1, b => if b.isEmpty then [] else BitVec.ofNat 32 (le b 0 4) :: bytesWords n (b.drop 4)

/-- An optional instant as a value and whether it is there. -/
def instantWords : Option Nat → List Word
  | none => [0, 0]
  | some t => [BitVec.ofNat 32 t, 1]

/-- The committed values of an output (R399): what is written to egress or, for a LIN publish buffer or a tunnel frame, to routing
state. DEADLINE and the decision of R389 are masked out of a standard job's signature (R402). -/
def ROut.values (norm : BitVec 8) (escorted : Bool) (o : ROut) : List Word :=
  let f := o.frame
  [BitVec.ofNat 32 o.dest, BitVec.ofNat 32 o.queue, BitVec.ofNat 32 f.id, BitVec.ofNat 32 f.format, BitVec.ofNat 32 f.af,
   BitVec.ofNat 32 (f.sdt * 256 + f.vcid), BitVec.ofNat 32 f.data.length] ++ instantWords o.launch
    ++ bytesWords 512 (outBuffer norm f.data)
    ++ (if escorted then BitVec.ofNat 32 (b2n o.asleep) :: instantWords o.deadline else [])

/-- The committed values of a job (R399, R403): its outputs, the increments of its routes' counters, and an escorted job's agreement
buffer. -/
def jobValues (norm : BitVec 8) (escorted : Bool) (routes : List Nat) (outs : List ROut) (agreed : List DWord) : List Word :=
  outs.flatMap (ROut.values norm escorted) ++ routes.map (BitVec.ofNat 32)
    ++ agreed.flatMap (fun v => [v.extractLsb' 0 32, v.extractLsb' 32 32])

/-- The agreement buffer of an escorted job (R403): the local clock, and for each output the sleep state of its segment, the error
state of a CAN destination and the free room of its queue. The order and packing are the model's (log 73). -/
def State.agreement (s : State) (outs : List ROut) : List DWord :=
  BitVec.ofNat 64 s.now :: (outs.take 15).map (fun o =>
    let ch := if o.dest < 16 then s.canCh o.dest else default
    let room := if o.dest < 16 then 64 - (ch.queues.toList.map List.length).foldl (· + ·) 0 else 0
    BitVec.ofNat 64 (b2n o.asleep + 2 ^ 8 * ch.state.code + 2 ^ 16 * room))

/-! Jobs (R373). -/

/-- The job of a number on an engine. -/
def EngineRec.job? (x : EngineRec) (number : Nat) : Option RJob := x.jobs.find? (fun j => j.number == number)

/-- A job changed. -/
def State.modJob (s : State) (e number : Nat) (f : RJob → RJob) : State :=
  s.modEngine e (fun x => { x with jobs := x.jobs.map (fun j => if j.number = number then f j else j) })

/-- The result of an output noted in its job (R381). A refusal for which R381 gives no status leaves a free one (log 33). -/
def State.noteFate (s : State) (e number : Nat) (fate : Fate) : State :=
  match fate with
  | .done => s.modJob e number (fun j => { j with delivered := true })
  | .queued => s.modJob e number (fun j => { j with delivered := true, pendingTs := j.pendingTs + 1 })
  | .host => s.modJob e number (fun j => { j with waiting := j.waiting + 1 })
  | .refused (some v) =>
    s.modJob e number (fun j => { j with refused := some (j.refused.getD (BitVec.ofNat 16 v)) })
  | .refused none =>
    let v := s.freeBits 16
    v.2.modJob e number (fun j => { j with refused := some (j.refused.getD v.1) })

/-- The last output of an escorted route, kept for HOLD_LAST while no fault is latched (R409). -/
def State.keepLast (s : State) (o : ROut) : State :=
  if !o.escorted || s.esc.latched then s
  else
    { s with esc := { s.esc with
      held := if o.frame.data.length ≤ 64 then tset s.esc.held o.route o.frame else tdel s.esc.held o.route } }

/-- Outputs of a job released in order. -/
def State.releaseOuts (s : State) (e number : Nat) (m : RMsg) (l : List ROut) : State :=
  forAll l (fun o s =>
    let r := s.deliverOut e number m o
    (r.2.noteFate e number r.1).keepLast o) s

/-- A receive entry released (R343, R373 step 6). -/
def State.releaseEntry (s : State) (m : RMsg) : State :=
  match m.entry with
  | none => s
  | some (f, h) => s.modRelayFifo m.source f (fun q => q.release (if m.source < 16 then 64 else 32) [h])

/-- The descriptor of a host ring frame returns (R127, R381): with TS, a frame that was queued decides it when it is sent. -/
def State.answerRing (s : State) (m : RMsg) (delivered : Bool) (pendingTs : Nat) (refused : Option Half) : State :=
  match m.ring with
  | none => s
  | some r =>
    if delivered then (if pendingTs = 0 then s.ringFate r 0 none else s)
    else
      match refused with
      | some v => s.ringFate r v.toNat none
      | none =>
        let v := s.freeBits 16
        v.2.ringFate r v.1.toNat none

/-- A job ends: its context is free, its entry is released or its descriptor returns (R373 step 6). -/
def State.endJob (s : State) (e number : Nat) : State :=
  match (s.engine e).job? number with
  | none => s
  | some j =>
    let s := s.modEngine e (fun x => { x with jobs := x.jobs.filter (fun y => y.number != number) })
    (s.releaseEntry j.msg).answerRing j.msg j.delivered j.pendingTs j.refused

/-- A job ends once it is checked, nothing is held and every output has reached its destination. -/
def State.settleJob (s : State) (e number : Nat) : State :=
  match (s.engine e).job? number with
  | none => s
  | some j => if j.checked && j.held.isEmpty && j.waiting == 0 then s.endJob e number else s

/-- Quarter job units of a job (R392). -/
def jobUnits (outs len : Nat) : Nat := 4 + (outs - 2) + 2 * ((len - 64 + 255) / 256)

/-- Job units counted for ROUTE_GET_ENGINES (R392, R393): what is older than a second goes. -/
def EngineRec.addUnits (x : EngineRec) (tick n : Nat) : EngineRec :=
  { x with work := x.work.filter (fun w => decide (tick < w.1 + 800000000)) ++ [(tick, n)] }

/-- Outputs that wait: escorted ones, and standard ones behind one to the same destination (R376). -/
def splitOuts (l : List ROut) : List ROut × List ROut :=
  l.foldl (fun a o =>
    if o.escorted || a.2.any (fun h => h.dest == o.dest) then (a.1, a.2 ++ [o]) else (a.1 ++ [o], a.2)) ([], [])

/-- Steps 2 to 5 of R373 for a frame that Customs permits: `frame` is the frame as authenticated, or none where that failed. -/
def State.runJob (s : State) (e : Nat) (m : RMsg) (frame : Option CanFrame) : State :=
  let all := s.relay.routes.filter (fun r => routeMatches r.2 m.source m.frame)
  let ap := appliedRoutes all
  let s := forAll ap.1 (fun r s => s.count (.relay r.1 .hits)) s
  let s := s.count (.relay m.source .fanoutLimit) (b2n ap.2)
  match ap.1, frame with
  | [], _ => ((s.count (.relay m.source .noRoute)).releaseEntry m).answerRing m false 0 none
  | _, none => (s.releaseEntry m).answerRing m false 0 none
  | l, some f =>
    let m : RMsg := { m with frame := f }
    let escorted := l.any (fun r => bitOf (byteAt r.2 0) 1)
    let r := s.routeOuts m l
    let s := r.2
    let n := s.relay.nextJob
    let w := splitOuts r.1
    let agreed := if escorted then s.agreement r.1 else []
    let j : RJob :=
      { number := n, msg := m, escorted := escorted, held := w.2, delivered := false, refused := none, checked := false
        waiting := 0, pendingTs := 0, began := s.tick, gen := s.generation, agreed := agreed
        values := jobValues (s.engine e).norm escorted (l.map (·.1)) r.1 agreed, insns := 0, regs := [], log := [] }
    let s := s.modRelay (fun x => { x with nextJob := n + 1 })
    let s := s.modEngine e (fun x => { (x.addUnits s.tick (jobUnits r.1.length m.frame.data.length)) with
      jobs := x.jobs ++ [j] })
    -- a frame that every route refused for its format
    let s := if r.1.isEmpty then s.modJob e n (fun j => { j with refused := some 9 }) else s
    s.releaseOuts e n m w.1

/-- A job starts on an engine (R373): the Customs check, verification, the lookup, the capture and the main run. -/
def State.startJob (s : State) (e : Nat) : State :=
  let x := s.engine e
  if !s.running || x.state ≠ .inService || x.halted || 4 ≤ x.jobs.length then s
  else
    match s.nextSource e with
    | none => s
    | some c =>
      match s.takeFrame c with
      | (none, s) => s
      | (some m, s) =>
        let s := s.modEngine e (fun x =>
          let x := if isChannel c then { x with lastChan := c + 1 } else { x with lastOther := c + 1 }
          if x.inWindow = 0 then { x with norm := BitVec.ofNat 8 (byteAt s.esc.config 1) } else x)
        let s := (s.count (.relay e .engineJobs)).count (.relay c .jobs)
        let check := if m.charged then (true, s) else s.canCheck c m.frame.id m.frame.fmtBit m.frame.vcid m.frame.sdt
        let s := check.2
        if !check.1 then
          let s := s.releaseEntry m
          match m.ring with
          | some r => s.ringFate r 1 none
          | none => s
        else
          let v := if m.charged then (some m.frame, s) else s.authCheck c m.frame
          v.2.runJob e { m with charged := true } v.1

/-! The fault latch (R407, R408, R410). -/

/-- Latch state codes (R410): 0 CLEAR, 1 LATCHED, 2 TESTING. -/
def Esc.latchCode (x : Esc) : Nat := if !x.latched then 0 else if x.testing.isSome then 2 else 1

/-- FAULT_N is low. -/
def Esc.low (x : Esc) : Bool := x.latched || x.capacity

/-- A change of the latch and its pin (R407, R408); the change of PWS_RAILS sets POWER (R38). -/
def State.modEsc (s : State) (f : Esc → Esc) : State :=
  let was := s.esc.low
  let s : State := { s with esc := f s.esc }
  if was == s.esc.low then s
  else
    let s := s.emit (.pin 0 (!s.esc.low))
    if s.pd0.die then s.setCauseAll 6 else s

/-- ESC_FAULT to every OPEN slot (R414). -/
def State.faultEvent (s : State) : State :=
  s.eventOpen 0x1402 (w8 s.esc.latchCode ++ w8 s.esc.cause ++ w8 s.esc.engine ++ [0] ++ w32 s.esc.seq)

/-- The fault latch is set (R407, R408): causes 0 SIGNATURE, 1 TIMEOUT, 2 SNAPSHOT, 3 CAPACITY. Two mismatches on one clock set it
once; the lower-numbered engine and its cause are recorded, and both are counted. -/
def State.latchFault (s : State) (cause e : Nat) : State :=
  if s.esc.latched && s.esc.cause < 3 && cause < 3 && s.esc.setTick == some s.tick then
    (s.modEsc (fun x => if e < x.engine then { x with cause := cause, engine := e, testing := some e } else x)).count (.esc 0 .faults)
  else
    let s := s.modEsc (fun x => { x with
      latched := true, cause := cause, engine := e, seq := (x.seq + 1) % 2 ^ 32, time := s.now, setTick := some s.tick
      testing := if cause < 3 ∧ (s.engine e).state ≠ .retired then some e else x.testing })
    ((s.count (.esc 0 .faults)).faultEvent).setCauseAll 8

/-- The engines in service are compared with MIN_ENGINES (R408, R412): a shortfall latches CAPACITY once. -/
def State.checkCapacity (s : State) (e : Nat) : State :=
  let short := decide (s.inService < byteAt s.esc.config 2)
  let was := s.esc.capacity
  let s := s.modEsc (fun x => { x with capacity := short })
  if short && !was then s.latchFault 3 e else s

/-! Engine states (R391, R394, R405, R406). -/

/-- An engine changes its state, with ROUTE_ENGINE to S0 (R391, R394). -/
def State.engineTo (s : State) (e : Nat) (st : EngineState) (cause moved : Nat) : State :=
  let s := s.modEngine e (fun x => { x with state := st })
  (s.event 0 0x0C01 (w8 e ++ w8 st.code ++ w8 cause ++ [0] ++ w16 moved)).checkCapacity e

/-- The open standard window of an engine is compared (R401, R405): whether it differs. An injection strikes the window that is
compared next (DEDUCED, log 43). -/
def State.closeWindow (s : State) (e : Nat) : Bool × State :=
  let x := s.engine e
  if x.inWindow = 0 then (false, s)
  else
    let bad := x.sigMain != x.sigCheck || x.injectStd
    let s := s.modEngine e (fun x => { x with inWindow := 0, sigMain := signStart, sigCheck := signStart, injectStd := false })
    let s := s.count (.esc e .stdWindows)
    if bad then
      (true, (s.count (.esc e .stdMismatch)).event 0 0x1401
        (w8 e ++ [0, 0, 0] ++ w32 x.firstJob ++ w32 x.lastJob))
    else (false, s)

/-- Jobs of an engine that have released nothing are abandoned, and their frames wait for their engine again (R405). Jobs whose
outputs are out finish their check run (DEDUCED, log 42). -/
def State.abandonJobs (s : State) (e : Nat) : State :=
  let gone := (s.engine e).jobs.filter (fun j => !j.delivered && j.waiting == 0)
  let s := s.modEngine e (fun x => { x with jobs := x.jobs.filter (fun j => j.delivered || j.waiting != 0) })
  s.modRelay (fun r => { r with waiting := gone.map (·.msg) ++ r.waiting })

/-- An engine enters SELF_TEST (R405, R406): its open window is compared first, then it asks the Tollgate. -/
def State.beginTest (s : State) (e : Nat) (fault : Bool) : State :=
  let w := s.closeWindow e
  let s := (w.2.abandonJobs e).modEngine e (fun x => { x with fault := fault || w.1 })
  (s.engineTo e .selfTest 1 0).ask .selfTest e false

/-- The engine that takes a source of a retired one (R391): the in-service engine with the fewest channel sources, the
lowest-numbered on a tie. -/
def State.takerEngine (s : State) : Option Nat :=
  ((List.range 12).filter (fun k => (s.engine k).state == .inService)).foldl (fun b k => match b with
    | none => some k
    | some x => if s.channelsOf k < s.channelsOf x then some k else b) none

/-- The sources of an engine move one by one (R391); how many moved. -/
def State.moveSources (s : State) : List Nat → Nat × State
  | [] => (0, s)
  | c :: cs =>
    match s.takerEngine with
    | none => (0, s)
    | some k =>
      let r := (s.setHome c k).moveSources cs
      (r.1 + 1, r.2)

/-- An engine retires (R391, R406). -/
def State.retireEngine (s : State) (e : Nat) : State :=
  let s := s.modEngine e (fun x => { x with state := .retired })
  let r := s.moveSources ((channelSources ++ otherSources).filter (fun c => s.homeOf c == e))
  r.2.engineTo e .retired 3 r.1

/-- The command that asked for a self-test ends (R413). -/
def State.answerTest (s : State) (e : Nat) (retired : Bool) : State :=
  match (s.engine e).testFor with
  | none => s
  | some (n, tag) =>
    (s.modEngine e (fun x => { x with testFor := none })).answerStarted n tag 0x1406 (stOk (w8 (b2n retired)))

/-- A self-test ends (R406): a failure retires the engine, a pass after a mismatch is a transient, and the third transient
within 600 s retires it too. -/
def State.testEnd (s : State) (e : Nat) (passed : Bool) : State :=
  let x := s.engine e
  let s := s.count (.relay e .selfTests)
  let s := s.modEsc (fun y => { y with testing := if y.testing = some e then none else y.testing })
  let recent := x.transients.filter (fun t => decide (s.tick ≤ t + 600 * 800000000))
  let transient := passed && x.fault
  let s := if transient then
      (s.count (.relay e .transients)).modEngine e (fun x => { x with transients := s.tick :: recent })
    else s
  let retire := !passed || (transient && decide (2 ≤ recent.length))
  let s := s.modEngine e (fun x => { x with fault := false })
  let s := if retire then s.retireEngine e else s.engineTo e .inService (if transient then 2 else 0) 0
  s.answerTest e retire

/-! Check runs (R376, R401 to R407). -/

/-- An escorted job ends as a mismatch (R407): causes 0 SIGNATURE, 1 TIMEOUT, 2 SNAPSHOT. Its held escorted outputs are
discarded; standard outputs that queued behind them leave. -/
def State.escortedFault (s : State) (e : Nat) (j : RJob) (cause : Nat) : State :=
  let s := s.count (.esc e (if cause = 0 then .escMismatch else if cause = 1 then .escTimeout else .escSnapshot))
  let s := s.event 0 0x1401 (w8 e ++ [1] ++ w8 cause ++ [0] ++ w32 j.number ++ w32 j.number)
  let s := s.modJob e j.number (fun j => { j with held := [], checked := true })
  let s := s.releaseOuts e j.number j.msg (j.held.filter (fun o => !o.escorted))
  let s := s.settleJob e j.number
  let s := s.latchFault cause e
  if (s.engine e).state = .inService then s.beginTest e true else s.modEngine e (fun x => { x with fault := true })

/-- A logged write in the check run (R397, R411): the engine's scratch word, at its mirrored offset and rotated, replaces that of the
main run's address. A register of the check run ends with the job. -/
def EngineRec.replay (x : EngineRec) (w : LoggedWrite) : EngineRec :=
  match w.place with
  | .reg _ => x
  | .scratch off => { x with scratch := tset x.scratch (mirrored off / 4) (turned w.value) }

/-- The check run of a job replays what the debugger wrote (R411). -/
def State.replayWrites (s : State) (e : Nat) (j : RJob) : State :=
  forAll j.log (fun w s => (s.modEngine e (fun x => x.replay w)).count (.esc e .replayedWrites)) s

/-- The check run of a standard job ends (R401, R402, R405): both runs' values enter the window's signatures, and at its end these are
compared. -/
def State.standardCheck (s : State) (e : Nat) (j : RJob) (strikes : List Strike) : State :=
  let s := s.modEngine e (fun x => { x with
    window := if x.inWindow = 0 then byteAt s.esc.config 0 else x.window
    firstJob := if x.inWindow = 0 then j.number else x.firstJob
    lastJob := j.number, inWindow := x.inWindow + 1
    sigMain := signAll x.sigMain 0 j.values, sigCheck := signAll x.sigCheck 0 (checkValues strikes j.values) })
  let s := (s.modJob e j.number (fun j => { j with checked := true })).settleJob e j.number
  if (s.engine e).window ≤ (s.engine e).inWindow then
    let w := s.closeWindow e
    if w.1 ∧ (w.2.engine e).state = .inService then w.2.beginTest e true else w.2
  else s

/-- The check run of an escorted job ends (R402, R407): it has a signature of its own. -/
def State.escortedCheck (s : State) (e : Nat) (j : RJob) (strikes : List Strike) : State :=
  let s := s.count (.esc e .escJobs)
  let bad := signAll signStart 0 j.values != signAll signStart 0 (checkValues strikes j.values) || (s.engine e).injectEsc
  let s := s.modEngine e (fun x => { x with injectEsc := false })
  if bad then s.escortedFault e j 0
  else
    let s := s.modJob e j.number (fun j => { j with held := [], checked := true })
    (s.releaseOuts e j.number j.msg j.held).settleJob e j.number

/-- The job of a source whose check run has not ended. -/
def State.runningJob (s : State) (e source : Nat) : Option RJob :=
  (s.engine e).jobs.find? (fun j => j.msg.source == source && !j.checked)

/-- A frame for a host's CAN ring has been written, or dropped (R127, R381). -/
def State.hostWritten (s : State) (v : VOut) (ok : Bool) : State :=
  let s := if ok then s else s.count (.relay v.route .enqueueDrop)
  let s := s.modJob v.engine v.job (fun j => { j with
    waiting := j.waiting - 1, delivered := j.delivered || ok
    refused := if ok then j.refused else some (j.refused.getD 2) })
  s.settleJob v.engine v.job

end Sys2Proof.Machine
end

