-- ==== Sys2Proof/Machine/CustCmds.lean ====
section
/-! DEFINITION. The CUST commands, the conversation sweep and the ends of swaps (chapter 07 of the spec). -/

namespace Sys2Proof.Machine

/-- A member code that names a member (R165). -/
def isMember (m : Nat) : Bool := decide (m ≤ 24) || m == 26 || m == 27 || (decide (32 ≤ m) && decide (m ≤ 47))

/-- A slot owns a member (R170): its port, or itself. -/
def State.ownsMember (s : State) (n m : Nat) : Bool := if m ≤ 24 then s.owns n 1 m else m == 32 + n

/-- A source code that names a source (R184). -/
def isSource (c : Nat) : Bool :=
  decide (c < 16) || (decide (0x100 ≤ c) && decide (c < 0x300)) || (decide (0x300 ≤ c) && decide (c ≤ 0x303))
    || (decide (0x310 ≤ c) && decide (c ≤ 0x315))

/-- The owner of a source (R184, R377): a tunnel counts as S0's. -/
def State.sourceOwner (s : State) (c : Nat) : Nat :=
  if c < 16 then s.ownerOf 2 c
  else if c < 0x200 then (c - 0x100) / 16
  else if c < 0x300 then 0
  else if c ≤ 0x303 then s.ownerOf 3 (c - 0x300)
  else s.ownerOf 4 (c - 0x310)

/-- The matrix object admits a write. -/
def matrixFree (s : State) : Option Answer := partFree 0x0501 32 (vget s.net.customs.parts 32)

/-- CUST_GET_CAPS (R192, R538). -/
def cmdCustGetCaps : Cmd :=
  { op := 0x0500, lengthOk := lenIs 0, check := fun _ _ _ => none
    run := fun s _ _ _ =>
      (s, .done (stOk (w32 4096 ++ w32 16384 ++ w32 1024 ++ w32 64 ++ w32 s.net.customs.gen))) }

/-- The staged matrix object changed. -/
def State.modStaged (s : State) (f : Matrix → Matrix) : State :=
  s.modCustoms (fun c => { c with matrixStaged := f c.matrixStaged })

/-- CUST_SET_ZONE (R166, R190). -/
def cmdCustSetZone : Cmd :=
  { op := 0x0501, lengthOk := lenIs 4
    check := fun s n p => firstFail [need (isMember (byteAt p 0)) (stBadParam 0), mustBeS0 n, matrixFree s,
      need (decide (byteAt p 1 < 32) || byteAt p 1 == 0xFF) (stBadParam 1)]
    run := fun s _ _ p =>
      (s.modStaged (fun m => { m with
        zones := if byteAt p 1 = 0xFF then tdel m.zones (byteAt p 0) else tset m.zones (byteAt p 0) (byteAt p 1) }),
       .done (stOk [])) }

/-- The zone map entry named is free for this member and VID (R192). -/
def zoneMapFree (s : State) (p : Bytes) : Bool :=
  match tget? s.net.customs.matrixStaged.zoneMap (byteAt p 0) with
  | none => true
  | some e => e.1 == byteAt p 1 && e.2.1 == le p 2 2

/-- CUST_SET_ZONE_MAP (R166, R192). -/
def cmdCustSetZoneMap : Cmd :=
  { op := 0x0502, lengthOk := lenIs 8
    check := fun s n p => firstFail [inRange (byteAt p 0) 64 0, need (isMember (byteAt p 1)) (stBadParam 1), mustBeS0 n,
      matrixFree s, between (le p 2 2) 1 4094 2, need (decide (byteAt p 4 < 32) || byteAt p 4 == 0xFF) (stBadParam 4),
      need (byteAt p 4 == 0xFF || zoneMapFree s p) stNoResource]
    run := fun s _ _ p =>
      (s.modStaged (fun m => { m with
        zoneMap := if byteAt p 4 = 0xFF then tdel m.zoneMap (byteAt p 0)
          else tset m.zoneMap (byteAt p 0) (byteAt p 1, le p 2 2, byteAt p 4) }), .done (stOk [])) }

/-- CUST_SET_PAIR (R167). -/
def cmdCustSetPair : Cmd :=
  { op := 0x0503, lengthOk := lenIs 4
    check := fun s n p => firstFail [inRange (byteAt p 0) 32 0, inRange (byteAt p 1) 32 1, mustBeS0 n, matrixFree s,
      between (byteAt p 2) 0 15 2]
    run := fun s _ _ p =>
      (s.modStaged (fun m => { m with pairs := tset m.pairs (byteAt p 0 * 32 + byteAt p 1) (byteAt p 2) }),
       .done (stOk [])) }

/-- A border rule as stored: reserved fields 0 (R169). -/
def cleanRule (r : Bytes) : Bytes :=
  slice r 0 7 ++ [0] ++ slice r 8 2 ++ [0, 0] ++ slice r 12 125 ++ [0] ++ slice r 138 34 ++ zeros 4

/-- The ownership rules of R170 for a rule of a partition whose owner is `n`; the record starts at offset 4. -/
def ruleOwned (s : State) (n : Nat) (p : Bytes) : Option Answer :=
  let mods := byteAt p 7
  let mm := byteAt p 10
  firstFail [
    need (!bitOf mods 0 || decide (1024 ≤ le p 12 2) || s.owns n 10 (le p 12 2)) stNotOwner,
    need (!bitOf mods 1 || (if mm ≤ 24 then s.owns n 1 mm else if 32 ≤ mm ∧ mm ≤ 47 then mm == 32 + n else true))
      stNotOwner,
    need (n == 0 || (byteAt p 21 == 0xFF && s.ownsMember n (byteAt p 20))) stNotOwner]

/-- Valid deep rules in staging apart from one index (R170). -/
def deepCount (t : Tbl Bytes) (i : Nat) : Nat := (t.filter (fun e => e.1 != i && ruleValid e.2 && ruleDeep e.2)).length

/-- The ranges of a border rule at offset 4 (R169, R170). -/
def ruleRanges (s : State) (p : Bytes) : Option Answer :=
  let mods := byteAt p 7
  let mm := byteAt p 10
  firstFail [between (le p 4 2) 0 3 4, between (byteAt p 6) 0 2 6, between mods 0 15 7, between (byteAt p 8) 0 7 8,
    between (byteAt p 9) 0 7 9, need (decide (mm ≤ 24) || (decide (32 ≤ mm) && decide (mm ≤ 47)) || !bitOf mods 1)
      (stBadParam 10), between (le p 12 2) 0 1023 12, between (byteAt p 140) 0 2 140, between (le p 142 2) 0 256 142,
    need (!bitOf mods 1 || byteAt p 6 == 1) (stBadParam 7), need (!bitOf (byteAt p 4) 1 || mods % 8 == 0) (stBadParam 4),
    need (byteAt p 4 != 3 || decide (deepCount s.net.customs.borderStaged (le p 0 2) < 1024)) (stBadParam 4)]

/-- The partition of a border rule. -/
def borderFree (s : State) (i : Nat) : Option Answer := partFree 0x0501 (i / 256) (vget s.net.customs.parts (i / 256))

/-- The partition of a CAN rule. -/
def canFree (s : State) (i : Nat) : Option Answer :=
  partFree 0x0501 (16 + i / 1024) (vget s.net.customs.parts (16 + i / 1024))

/-- CUST_SET_RULE (R169, R170, R188). -/
def cmdCustSetRule : Cmd :=
  { op := 0x0504, lengthOk := lenIs 180
    check := fun s n p => firstFail [inRange (le p 0 2) 4096 0, mustOwn s n 6 (le p 0 2 / 256), ruleOwned s n p,
      borderFree s (le p 0 2), ruleRanges s p]
    run := fun s _ _ p =>
      (s.modCustoms (fun c => { c with borderStaged := tset c.borderStaged (le p 0 2) (cleanRule (slice p 4 176)) }),
       .done (stOk [])) }

/-- CUST_CLEAR_RULES (R192). -/
def cmdCustClearRules : Cmd :=
  { op := 0x0505, lengthOk := lenIs 4
    check := fun s n p => firstFail [inRange (le p 0 2) 4096 0, mustOwn s n 6 (le p 0 2 / 256), borderFree s (le p 0 2),
      need (1 ≤ le p 2 2 && le p 0 2 % 256 + le p 2 2 ≤ 256) (stBadParam 2)]
    run := fun s _ _ p =>
      let gone (i : Nat) : Bool := decide (le p 0 2 ≤ i) && decide (i < le p 0 2 + le p 2 2)
      (s.modCustoms (fun c => { c with borderStaged := c.borderStaged.filter (fun e => !gone e.1) }),
       .done (stOk [])) }

/-- CUST_GET_RULE (R192). -/
def cmdCustGetRule : Cmd :=
  { op := 0x0506, lengthOk := lenIs 4
    check := fun s n p => firstFail [inRange (le p 0 2) 4096 0, mayRead s n 6 (le p 0 2 / 256), flag p 2]
    run := fun s _ _ p =>
      let t := if byteAt p 2 = 1 then s.net.customs.borderStaged else s.net.customs.border
      (s, .done (stOk (tgetD t (le p 0 2) (zeros 176)))) }

/-- The ranges of a CAN rule at offset 4 (R184). -/
def canRuleRanges (p : Bytes) : Option Answer :=
  firstFail [between (byteAt p 4) 0 1 4, between (byteAt p 5) 0 1 5, need (decide (le p 8 4 < 2 ^ 30)) (stBadParam 8),
    need (decide (le p 12 4 < 2 ^ 30)) (stBadParam 12), between (byteAt p 16) 0 31 16, between (byteAt p 21) 0 2 21,
    need (byteAt p 21 == 0 || (1 ≤ le p 22 2 && le p 22 2 ≤ 1024)) (stBadParam 22),
    need (byteAt p 21 == 0 || (1 ≤ le p 24 4 && le p 24 4 ≤ 100000000)) (stBadParam 24)]

/-- CUST_SET_CAN_RULE (R184). -/
def cmdCustSetCanRule : Cmd :=
  { op := 0x0507, lengthOk := lenIs 36
    check := fun s n p =>
      let src := le p 6 2
      firstFail [inRange (le p 0 2) 16384 0, need (src == 0xFFFF || isSource src) (stBadParam 6),
        mustOwn s n 7 (le p 0 2 / 1024),
        need (n == 0 || (src != 0xFFFF && !(decide (0x200 ≤ src) && decide (src < 0x300)) && s.sourceOwner src == n))
          stNotOwner,
        canFree s (le p 0 2), canRuleRanges p]
    run := fun s _ _ p =>
      ((s.touch 1 (le p 0 2)).modCustoms (fun c => { c with
        canStaged := tset c.canStaged (le p 0 2) (slice p 4 24 ++ zeros 8) }),
       .done (stOk [])) }

/-- CUST_GET_CAN_RULE (R192): the record, and the bucket's level in milliframes (log 22). -/
def cmdCustGetCanRule : Cmd :=
  { op := 0x0508, lengthOk := lenIs 4
    check := fun s n p => firstFail [inRange (le p 0 2) 16384 0, mayRead s n 7 (le p 0 2 / 1024), flag p 2]
    run := fun s _ _ p =>
      let c := s.net.customs
      let t := if byteAt p 2 = 1 then c.canStaged else c.canRules
      let level := bucketNow (tgetD c.canRules (le p 0 2) (zeros 32)) (tget? c.buckets (le p 0 2)) s.now / 10 ^ 9
      (s, .done (stOk (tgetD t (le p 0 2) (zeros 32) ++ w32 level))) }

/-- CUST_SET_CAN_DEFAULT (R185). -/
def cmdCustSetCanDefault : Cmd :=
  { op := 0x0509, lengthOk := lenIs 4
    check := fun s n p => firstFail [need (isSource (le p 0 2)) (stBadParam 0), mustBeS0 n, matrixFree s, flag p 2]
    run := fun s _ _ p =>
      (s.modStaged (fun m => { m with canDefault := tset m.canDefault (le p 0 2) (byteAt p 2) }), .done (stOk [])) }

/-- The partitions that CUST_SWAP names: border 0 to 15, CAN 16 to 31, matrix 32. -/
def swapMask (p : Bytes) : Nat := le p 0 2 + le p 2 2 * 65536 + (if byteAt p 4 = 1 then 2 ^ 32 else 0)

/-- The caller owns every partition of a Customs mask (R190). -/
def ownsParts (s : State) (n mask : Nat) : Option Answer :=
  need ((maskList 33 mask).all (fun i => if i < 16 then s.owns n 6 i else if i < 32 then s.owns n 7 (i - 16) else n == 0))
    stNotOwner

/-- CUST_SWAP (R188 to R190). -/
def cmdCustSwap : Cmd :=
  { op := 0x050A, lengthOk := lenIs 12
    check := fun s n p => firstFail [ownsParts s n (swapMask p), partsFree 0x0501 s.net.customs.parts (swapMask p),
      flag p 4, flag p 5]
    run := fun s n tag p =>
      let w : Swap := { mask := swapMask p, instant := none, old := 0, swapped := false, slot := n, tag := tag }
      if byteAt p 5 = 1 then
        (s.modCustoms (fun c => { c with
          parts := setParts c.parts w.mask .armed, swaps := c.swaps ++ [{ w with instant := some (le p 8 4) }] }),
         .accepted)
      else (s.swapCustoms w, .later) }

/-- CUST_GET_GEN (R192): the generation and the state of each partition. -/
def cmdCustGetGen : Cmd :=
  { op := 0x050B, lengthOk := lenIs 0, check := fun s n _ => mayReadDevice s n
    run := fun s _ _ _ =>
      (s, .done (stOk (w32 s.net.customs.gen ++ s.net.customs.parts.toList.flatMap (fun x => w8 x.code)))) }

/-- CUST_SET_CONV_TIMEOUTS (R180). -/
def cmdCustSetConvTimeouts : Cmd :=
  { op := 0x050C, lengthOk := lenIs 10
    check := fun _ n p => firstFail (mustBeS0 n :: (List.range 5).map (fun k => between (le p (2 * k) 2) 1 65535 (2 * k)))
    run := fun s _ _ p =>
      (s.modCustoms (fun c => { c with timeouts := vtab 5 (fun k => le p (2 * k) 2) }), .done (stOk [])) }

/-- CUST_FLUSH_CONV (R181): by the pair of originating and responding zone, or all. -/
def cmdCustFlushConv : Cmd :=
  { op := 0x050D, lengthOk := lenIs 4
    check := fun _ n p => firstFail [need (byteAt p 0 != 0 || decide (byteAt p 1 < 32)) (stBadParam 1),
      need (byteAt p 0 != 0 || decide (byteAt p 2 < 32)) (stBadParam 2), mustBeS0 n, flag p 0]
    run := fun s _ _ p =>
      let gone (c : Conv) : Bool := byteAt p 0 == 1 || (c.orig == byteAt p 1 && c.resp == byteAt p 2)
      let k := (s.net.customs.convs.filter gone).length
      (s.modCustoms (fun c => { c with convs := c.convs.filter (fun x => !gone x) }), .done (stOk (w32 k))) }

/-- CUST_READ_CONV (R192): the spec gives the 64-byte entries no layout; their bytes are free (log 22). -/
def cmdCustReadConv : Cmd :=
  { op := 0x050E, lengthOk := lenIs 4
    check := fun s n p => firstFail [inRange (le p 0 2) 8192 0, mayReadDevice s n,
      countIn (le p 0 2) (le p 2 2) 64 8192 0 2]
    run := fun s _ _ p => let b := s.freeBytes (64 * le p 2 2); (b.2, .done (stOk b.1)) }

/-- CUST_QUARANTINE (R182, R183). -/
def cmdCustQuarantine : Cmd :=
  { op := 0x050F, lengthOk := lenIs 4
    check := fun s n p => firstFail [need (isMember (byteAt p 0)) (stBadParam 0),
      need (n == 0 || s.ownsMember n (byteAt p 0)) stNotOwner, flag p 1,
      need (!(byteAt p 1 == 1 && (byteAt p 0 == 26 || byteAt p 0 == 27))) (stBadParam 0)]
    run := fun s _ _ p =>
      (if byteAt p 1 = 1 then s.quarantine (byteAt p 0) 1 0xFFFF else s.releaseQuarantine (byteAt p 0) 1,
       .done (stOk [])) }

/-- The indices of a kind of firewall counter (R191), and the counters of one. -/
def custKind (k : Nat) : Nat × List CustCtr :=
  if k = 0 then (4096, [.ruleHits])
  else if k = 1 then (16384, [.canHits, .canExcess])
  else if k = 2 then (1024, [.permitted, .denied, .convHits])
  else (1, [.convFull, .mirrorLost, .quarantines])

/-- The range of a CUST counter command: kind, first and count, within one response. -/
def custRange (p : Bytes) : Option Answer :=
  let k := custKind (byteAt p 0)
  countIn (le p 2 2) (le p 4 2) (8176 / (8 * k.2.length)) k.1 2 4

/-- The object of a CUST counter command. -/
def custObject (p : Bytes) : Option Answer :=
  firstFail [inRange (byteAt p 0) 4 0, inRange (le p 2 2) (custKind (byteAt p 0)).1 2]

/-- A firewall counter's owner passes a test: the partition's for rules, a given answer for pairs and the device. -/
def custAll (p : Bytes) (own : Nat → Nat → Option Answer) (other : Option Answer) : Option Answer :=
  let l := objectsIn (le p 2 2) (le p 4 2) (custKind (byteAt p 0)).1
  if byteAt p 0 = 0 then firstFail (l.map (fun i => own 6 (i / 256)))
  else if byteAt p 0 = 1 then firstFail (l.map (fun i => own 7 (i / 1024)))
  else other

/-- The counters that a CUST counter command names. -/
def custNamed (p : Bytes) : List Ctr :=
  (List.range (le p 4 2)).flatMap (fun k => (custKind (byteAt p 0)).2.map (fun c => Ctr.cust (le p 2 2 + k) c))

/-- CUST_GET_COUNTERS (R191). -/
def cmdCustGetCounters : Cmd :=
  { op := 0x0510, lengthOk := lenIs 6
    check := fun s n p => firstFail [custObject p, custAll p (mayRead s n) (mayReadDevice s n), custRange p]
    run := fun s _ _ p => (s, .done (stOk (counterBytes s (custNamed p)))) }

/-- CUST_CLEAR_COUNTERS (R191). -/
def cmdCustClearCounters : Cmd :=
  { op := 0x0511, lengthOk := lenIs 6
    check := fun s n p => firstFail [custObject p, custAll p (mustOwn s n) (mustBeS0 n), custRange p]
    run := fun s _ _ p => (s.clearCtrs (fun k => (custNamed p).contains k), .done (stOk [])) }

/-- The timeout of a conversation in s (R180). -/
def Customs.timeout (c : Customs) (e : Conv) : Nat :=
  vget c.timeouts (if e.kind = 0 then (if e.closing then 1 else 0) else e.kind + 1)

/-- CONVERSATION_SWEEP (R180): entries not refreshed for their timeout go; a second is 800,000,000 fabric ticks. -/
def State.sweepConvs (s : State) : State :=
  let due (c : Customs) (e : Conv) : Bool := decide (e.refreshed + c.timeout e * 800000000 ≤ s.tick)
  s.modCustoms (fun c => { c with convs := c.convs.filter (fun e => !due c e) })

/-- CONVERSATION_SWEEP. -/
def execConversationSweep (s : State) : Res := .next s.sweepConvs

/-- GENERATION_RETIRED. -/
def execGenerationRetired (s : State) : Res := .next s.retireAll

/-- TIMED_SWAP_FIRE. -/
def execTimedSwapFire (s : State) : Res := .next s.fireSwaps

/-- CUST_GET_CAPS. -/
def execCustGetCaps (slot : Slot) (tag : Half) (payload : Bytes) (s : State) : Res :=
  .next (penyen cmdCustGetCaps slot.val tag payload s)

/-- CUST_SET_ZONE. -/
def execCustSetZone (slot : Slot) (tag : Half) (payload : Bytes) (s : State) : Res :=
  .next (penyen cmdCustSetZone slot.val tag payload s)

/-- CUST_SET_ZONE_MAP. -/
def execCustSetZoneMap (slot : Slot) (tag : Half) (payload : Bytes) (s : State) : Res :=
  .next (penyen cmdCustSetZoneMap slot.val tag payload s)

/-- CUST_SET_PAIR. -/
def execCustSetPair (slot : Slot) (tag : Half) (payload : Bytes) (s : State) : Res :=
  .next (penyen cmdCustSetPair slot.val tag payload s)

/-- CUST_SET_RULE. -/
def execCustSetRule (slot : Slot) (tag : Half) (payload : Bytes) (s : State) : Res :=
  .next (penyen cmdCustSetRule slot.val tag payload s)

/-- CUST_CLEAR_RULES. -/
def execCustClearRules (slot : Slot) (tag : Half) (payload : Bytes) (s : State) : Res :=
  .next (penyen cmdCustClearRules slot.val tag payload s)

/-- CUST_GET_RULE. -/
def execCustGetRule (slot : Slot) (tag : Half) (payload : Bytes) (s : State) : Res :=
  .next (penyen cmdCustGetRule slot.val tag payload s)

/-- CUST_SET_CAN_RULE. -/
def execCustSetCanRule (slot : Slot) (tag : Half) (payload : Bytes) (s : State) : Res :=
  .next (penyen cmdCustSetCanRule slot.val tag payload s)

/-- CUST_GET_CAN_RULE. -/
def execCustGetCanRule (slot : Slot) (tag : Half) (payload : Bytes) (s : State) : Res :=
  .next (penyen cmdCustGetCanRule slot.val tag payload s)

/-- CUST_SET_CAN_DEFAULT. -/
def execCustSetCanDefault (slot : Slot) (tag : Half) (payload : Bytes) (s : State) : Res :=
  .next (penyen cmdCustSetCanDefault slot.val tag payload s)

/-- CUST_SWAP. -/
def execCustSwap (slot : Slot) (tag : Half) (payload : Bytes) (s : State) : Res :=
  .next (penyen cmdCustSwap slot.val tag payload s)

/-- CUST_GET_GEN. -/
def execCustGetGen (slot : Slot) (tag : Half) (payload : Bytes) (s : State) : Res :=
  .next (penyen cmdCustGetGen slot.val tag payload s)

/-- CUST_SET_CONV_TIMEOUTS. -/
def execCustSetConvTimeouts (slot : Slot) (tag : Half) (payload : Bytes) (s : State) : Res :=
  .next (penyen cmdCustSetConvTimeouts slot.val tag payload s)

/-- CUST_FLUSH_CONV. -/
def execCustFlushConv (slot : Slot) (tag : Half) (payload : Bytes) (s : State) : Res :=
  .next (penyen cmdCustFlushConv slot.val tag payload s)

/-- CUST_READ_CONV. -/
def execCustReadConv (slot : Slot) (tag : Half) (payload : Bytes) (s : State) : Res :=
  .next (penyen cmdCustReadConv slot.val tag payload s)

/-- CUST_QUARANTINE. -/
def execCustQuarantine (slot : Slot) (tag : Half) (payload : Bytes) (s : State) : Res :=
  .next (penyen cmdCustQuarantine slot.val tag payload s)

/-- CUST_GET_COUNTERS. -/
def execCustGetCounters (slot : Slot) (tag : Half) (payload : Bytes) (s : State) : Res :=
  .next (penyen cmdCustGetCounters slot.val tag payload s)

/-- CUST_CLEAR_COUNTERS. -/
def execCustClearCounters (slot : Slot) (tag : Half) (payload : Bytes) (s : State) : Res :=
  .next (penyen cmdCustClearCounters slot.val tag payload s)

end Sys2Proof.Machine
end

