-- ==== Sys2Proof/Machine/RelayCmds.lean ====
section
/-! DEFINITION. The ROUTE and ESC commands and the events of relay engines (chapters 16 and 17 of the spec). -/

namespace Sys2Proof.Machine

/-- ROUTE_GET_CAPS (R393, R538). -/
def cmdRouteGetCaps : Cmd :=
  { op := 0x0C00, lengthOk := lenIs 0, check := fun _ _ _ => none
    run := fun s _ _ _ => (s, .done (stOk ([16384, 8, 256, 12, 1500000].flatMap w32))) }

/-- A route names only what the owner of a granted partition owns (R377). -/
def routeOwned (s : State) (n src dest : Nat) : Option Answer :=
  let mine (c : Nat) : Bool := !(decide (0x200 ≤ c) && decide (c < 0x300)) && s.sourceOwner c == n
  need (n == 0 || (src != 0xFFFF && mine src && mine dest)) stNotOwner

/-- QUEUE suits the destination (R374). -/
def routeQueueOk (s : State) (dest q : Nat) : Bool :=
  if dest < 16 then decide (q ≤ 7)
  else if 0x310 ≤ dest ∧ (s.uartCh (dest - 0x310)).j1708 then decide (1 ≤ q) && decide (q ≤ 8)
  else q == 0

/-- The ranges of a route record at offset 4 (R374, R377), in field order. -/
def routeRanges (s : State) (p : Bytes) : Option Answer :=
  let src := le p 6 2
  let life := le p 36 4
  let tunnel := decide (0x200 ≤ src) && decide (src < 0x300)
  firstFail [between (byteAt p 4) 0 31 4, between (byteAt p 5) 0 31 5, need (decide (le p 8 4 < 2 ^ 30)) (stBadParam 8),
    need (decide (le p 12 4 < 2 ^ 30)) (stBadParam 12), need (routeQueueOk s (le p 16 2) (byteAt p 18)) (stBadParam 18),
    between (byteAt p 19) 0 4 19, need (decide (le p 20 4 < 2 ^ 30)) (stBadParam 20),
    need (decide (le p 24 4 < 2 ^ 30)) (stBadParam 24),
    need (decide (byteAt p 29 ≤ 2) && (byteAt p 29 != 2 || tunnel)) (stBadParam 29),
    between (le p 32 4) 0 1000000000 32,
    need (!(byteAt p 29 == 1 && life != 0 && decide (life * 1000 ≤ le p 32 4))) (stBadParam 32),
    between life 0 2000000 36]

/-- ST_BUSY or ST_WRONG_STATE of a route partition (R378). -/
def routeFree (s : State) (i : Nat) : Option Answer := partFree 0x0C01 i (vget s.relay.parts i)

/-- ROUTE_SET_RULE (R374, R377, R378). -/
def cmdRouteSetRule : Cmd :=
  { op := 0x0C01, lengthOk := lenIs 44
    check := fun s n p =>
      let i := le p 0 2
      firstFail [inRange i 16384 0, need (le p 6 2 == 0xFFFF || relayCode (le p 6 2)) (stBadParam 6),
        need (relayCode (le p 16 2)) (stBadParam 16), mustOwn s n 8 (i / 1024), routeOwned s n (le p 6 2) (le p 16 2),
        routeFree s (i / 1024), routeRanges s p]
    run := fun s _ _ p =>
      (s.modRelay (fun r => { r with
        routesStaged := tset r.routesStaged (le p 0 2) (slice p 4 26 ++ zeros 2 ++ slice p 32 8 ++ zeros 4) }),
       .done (stOk [])) }

/-- ROUTE_CLEAR (R378). -/
def cmdRouteClear : Cmd :=
  { op := 0x0C02, lengthOk := lenIs 4
    check := fun s n p =>
      let i := le p 0 2
      firstFail [inRange i 16384 0, mustOwn s n 8 (i / 1024), routeFree s (i / 1024),
        need (1 ≤ le p 2 2 && i % 1024 + le p 2 2 ≤ 1024) (stBadParam 2)]
    run := fun s _ _ p =>
      let gone (i : Nat) : Bool := decide (le p 0 2 ≤ i) && decide (i < le p 0 2 + le p 2 2)
      (s.modRelay (fun r => { r with routesStaged := r.routesStaged.filter (fun e => !gone e.1) }), .done (stOk [])) }

/-- ROUTE_GET_RULE. -/
def cmdRouteGetRule : Cmd :=
  { op := 0x0C03, lengthOk := lenIs 4
    check := fun s n p => firstFail [inRange (le p 0 2) 16384 0, mayRead s n 8 (le p 0 2 / 1024), flag p 2]
    run := fun s _ _ p =>
      let t := if byteAt p 2 = 1 then s.relay.routesStaged else s.relay.routes
      (s, .done (stOk (tgetD t (le p 0 2) (zeros 40)))) }

/-- The routes that a swap makes active keep R388. -/
def swapFits (s : State) (mask : Nat) : Bool :=
  s.relay.routesStaged.all (fun e => !inParts mask 0 1024 e.1 || !routeValid e.2 || s.routeFits e.2)

/-- ROUTE_SWAP (R378, R388). -/
def cmdRouteSwap : Cmd :=
  { op := 0x0C04, lengthOk := lenIs 8
    check := fun s n p =>
      let m := le p 0 2
      firstFail [need ((maskList 16 m).all (fun i => s.owns n 8 i)) stNotOwner, partsFree 0x0C01 s.relay.parts m, flag p 2,
        need (swapFits s m) stTimingConflict]
    run := fun s n tag p =>
      let w : Swap := { mask := le p 0 2, instant := none, old := 0, swapped := false, slot := n, tag := tag }
      if byteAt p 2 = 1 then
        (s.modRelay (fun r => { r with
          parts := setParts r.parts w.mask .armed, swaps := r.swaps ++ [{ w with instant := some (le p 4 4) }] }), .accepted)
      else (s.swapRoutes w, .later) }

/-- ROUTE_GET_GEN. -/
def cmdRouteGetGen : Cmd :=
  { op := 0x0C05, lengthOk := lenIs 0, check := fun s n _ => mayReadDevice s n
    run := fun s _ _ _ => (s, .done (stOk (w32 s.generation ++ s.relay.parts.toList.flatMap (fun x => w8 x.code)))) }

/-- ROUTE_SET_TUNNEL (R382, R388): an open frame is first sent under the old record; sequence_num starts at 0 when TX_EN is
set. -/
def cmdRouteSetTunnel : Cmd :=
  { op := 0x0C06, lengthOk := lenIs 36
    check := fun s n p => firstFail [mustBeS0 n, between (byteAt p 4) 0 3 4, between (byteAt p 5) 0 7 5,
      between (byteAt p 6) 1 64 6, need (64 ≤ le p 8 2 && le p 8 2 ≤ 2044 && le p 8 2 % 4 == 0) (stBadParam 8),
      between (le p 10 2) 0 10000 10, budgetsFit s (0x200 + byteAt p 0) (fun _ => some (le p 10 2 * 10 ^ 6))]
    run := fun s _ _ p =>
      let t := byteAt p 0
      let s := s.sendTunnel t
      (s.modTunnel t (fun x => { x with
        record := slice p 4 3 ++ [0] ++ slice p 8 28
        txSeq := if bitOf (byteAt p 4) 0 && !x.txEn then 0 else x.txSeq }), .done (stOk [])) }

/-- ROUTE_GET_TUNNEL: the record, the sequence_num last sent and last received. Where none was received, the spec gives that
byte no value and it is free (log 22). -/
def cmdRouteGetTunnel : Cmd :=
  { op := 0x0C07, lengthOk := lenIs 4, check := fun s n _ => mayReadDevice s n
    run := fun s _ _ p =>
      let x := s.tunnel (byteAt p 0)
      let free := s.freeBytes 1
      match x.rxSeq with
      | some k => (s, .done (stOk (x.record ++ w8 ((x.txSeq + 255) % 256) ++ w8 k)))
      | none => (free.2, .done (stOk (x.record ++ w8 ((x.txSeq + 255) % 256) ++ free.1))) }

/-- ROUTE_SET_ENGINE (R390, R391). -/
def cmdRouteSetEngine : Cmd :=
  { op := 0x0C08, lengthOk := lenIs 4
    check := fun s n p =>
      let c := le p 0 2
      let e := byteAt p 2
      firstFail [need (relayCode c) (stBadParam 0), inRange e 12 2, mustBeS0 n,
        need ((s.engine e).state != .retired) (stWrongState 0x0C02 e 2),
        need (!(isChannel c && s.homeOf c != e && decide (4 ≤ s.channelsOf e))) stNoResource]
    run := fun s _ _ p => (s.setHome (le p 0 2) (byteAt p 2), .done (stOk [])) }

/-- Quarter job units of the second that ends now (R393). -/
def EngineRec.lastUnits (x : EngineRec) (tick : Nat) : Nat :=
  ((x.work.filter (fun w => decide (tick < w.1 + 800000000))).map (fun w => w.2)).sum

/-- ROUTE_GET_ENGINES. -/
def cmdRouteGetEngines : Cmd :=
  { op := 0x0C09, lengthOk := lenIs 0, check := fun s n _ => mayReadDevice s n
    run := fun s _ _ _ =>
      (s, .done (stOk ((List.range 12).flatMap (fun e =>
        w8 (s.engine e).state.code ++ w8 (s.channelsOf e) ++ w32 ((s.engine e).lastUnits s.tick / 4))))) }

/-- The relay counters of a kind (R395), and how many indices it has. -/
def relayKind (k : Nat) : Nat × List RelayCtr :=
  if k = 0 then (16384, [.hits, .formatDrop, .enqueueDrop, .lifetime, .segAsleep, .wakeFwd])
  else if k = 1 then (0x316, [.jobs, .noRoute, .fanoutLimit])
  else if k = 2 then (256, [.txFrames, .txMsgs, .tooLong, .rxFrames, .rxMsgs, .seqGap, .acfSkipped, .acfMalformed])
  else if k = 3 then (12, [.engineJobs, .selfTests, .transients])
  else (1, [.noTunnel])

/-- The objects of a counter command: kind, first and count, all of the kind's indices. -/
def indexList (p : Bytes) : List Nat := (List.range (le p 4 2)).map (fun k => le p 2 2 + k)

/-- The first index of a relay counter command. -/
def relayObject (p : Bytes) : Option Answer :=
  firstFail [inRange (byteAt p 0) 5 0, inRange (le p 2 2) (relayKind (byteAt p 0)).1 2,
    need (byteAt p 0 != 1 || relayCode (le p 2 2)) (stBadParam 2)]

/-- The range of a relay counter command; a range of sources names source codes only. -/
def relayRange (p : Bytes) : Option Answer :=
  firstFail [countIn (le p 2 2) (le p 4 2) 64 (relayKind (byteAt p 0)).1 2 4,
    need (byteAt p 0 != 1 || (indexList p).all relayCode) (stBadParam 4)]

/-- The counters that a relay counter command names. -/
def relayNamed (p : Bytes) : List Ctr :=
  (indexList p).flatMap (fun i => (relayKind (byteAt p 0)).2.map (fun c => Ctr.relay i c))

/-- Who may read or clear the counters of routes, sources and the rest. -/
def relayAll (s : State) (p : Bytes) (part : Nat → Option Answer) (other : Option Answer) (slot : Nat → Option Answer) :
    Option Answer :=
  let l := objectsIn (le p 2 2) (le p 4 2) (relayKind (byteAt p 0)).1
  if byteAt p 0 = 0 then firstFail (l.map (fun i => part (i / 1024)))
  else if byteAt p 0 = 1 then firstFail ((l.filter relayCode).map (fun c => slot (s.sourceOwner c)))
  else other

/-- ROUTE_GET_COUNTERS (R395). -/
def cmdRouteGetCounters : Cmd :=
  { op := 0x0C0A, lengthOk := lenIs 8
    check := fun s n p => firstFail [relayObject p,
      relayAll s p (mayRead s n 8) (mayReadDevice s n) (fun o => need (!(s.slot n).restricted || o == n) stNotOwner),
      relayRange p]
    run := fun s _ _ p => (s, .done (stOk (counterBytes s (relayNamed p)))) }

/-- ROUTE_CLEAR_COUNTERS: the owner of what is cleared (DEDUCED, log 44). -/
def cmdRouteClearCounters : Cmd :=
  { op := 0x0C0B, lengthOk := lenIs 8
    check := fun s n p => firstFail [relayObject p,
      relayAll s p (mustOwn s n 8) (mustBeS0 n) (fun o => need (o == n) stNotOwner), relayRange p]
    run := fun s _ _ p => (s.clearCtrs (fun k => (relayNamed p).contains k), .done (stOk [])) }

/-! ESC commands. -/

/-- ESC_GET_CAPS (R413, R538): R406 gives the self-test time as a range, in ns (log 22). -/
def cmdEscGetCaps : Cmd :=
  { op := 0x1400, lengthOk := lenIs 0, check := fun _ _ _ => none
    run := fun s _ _ _ => (s, .done (stOk ([4, 16, 1, 64, 1600000, 2400000].flatMap w32))) }

/-- ESC_SET_CONFIG (R412): MIN_ENGINES is tested on execution. The spec names no engine for a fault found then: it is free
(log 43). -/
def cmdEscSetConfig : Cmd :=
  { op := 0x1401, lengthOk := lenIs 8
    check := fun _ n p => firstFail [mustBeS0 n, between (byteAt p 0) 1 64 0, between (byteAt p 2) 1 12 2]
    run := fun s _ _ p =>
      let e := s.freeBits 8
      ((e.2.modEsc (fun x => { x with config := slice p 0 3 ++ zeros 5 })).checkCapacity e.1.toNat, .done (stOk [])) }

/-- ESC_GET_STATUS (R413). -/
def cmdEscGetStatus : Cmd :=
  { op := 0x1402, lengthOk := lenIs 0, check := fun s n _ => mayReadDevice s n
    run := fun s _ _ _ =>
      (s, .done (stOk (w8 s.esc.latchCode ++ w8 s.esc.cause ++ w8 s.esc.engine ++ [0] ++ w32 s.esc.seq ++ w64 s.esc.time
        ++ w8 s.inService ++ zeros 3))) }

/-- DATA_LEN is valid for FORMAT (R127, R412). -/
def safeLength (format len : Nat) : Bool :=
  if format = 8 then decide (1 ≤ len) && decide (len ≤ 8)
  else if format = 16 then decide (1 ≤ len) && decide (len ≤ 64)
  else if format % 4 = 0 then decide (len ≤ 8)
  else if format % 4 = 1 then fdLength len
  else decide (1 ≤ len) && decide (len ≤ 64)

/-- ESC_SET_SAFE (R409, R412). -/
def cmdEscSetSafe : Cmd :=
  { op := 0x1403, lengthOk := lenIs 76
    check := fun s n p => firstFail [inRange (le p 0 2) 16384 0, mustOwn s n 8 (le p 0 2 / 1024), between (byteAt p 2) 0 2 2,
      need (decide (byteAt p 3 < 32) && byteAt p 3 % 4 != 3) (stBadParam 3), need (decide (le p 4 4 < 2 ^ 31)) (stBadParam 4),
      need (byteAt p 2 != 2 || safeLength (byteAt p 3) (le p 8 2)) (stBadParam 8), between (le p 8 2) 0 64 8,
      need ((slice p (12 + le p 8 2) (64 - le p 8 2)).all (· == 0)) (stBadParam 12)]
    run := fun s _ _ p =>
      let r := slice p 0 10 ++ zeros 2 ++ padTo 64 (slice p 12 (le p 8 2))
      (s.modEsc (fun x => { x with safe := tset x.safe (le p 0 2) r }), .done (stOk [])) }

/-- ESC_GET_SAFE. -/
def cmdEscGetSafe : Cmd :=
  { op := 0x1404, lengthOk := lenIs 4
    check := fun s n p => firstFail [inRange (le p 0 2) 16384 0, mayRead s n 8 (le p 0 2 / 1024)]
    run := fun s _ _ p =>
      let i := le p 0 2
      (s, .done (stOk (tgetD s.esc.safe i (Esc.blankSafe i) ++ w8 (b2n (tget? s.esc.held i).isSome)))) }

/-- ESC_ACK_FAULT (R410). -/
def cmdEscAckFault : Cmd :=
  { op := 0x1405, lengthOk := lenIs 4
    check := fun s n p =>
      let wrong (k : Nat) : Answer := stWrongState 0x1401 0 k
      firstFail [mustBeS0 n, need (s.esc.latchCode == 1) (wrong s.esc.latchCode), need (!s.esc.capacity) (wrong 1),
        need (le p 0 4 == s.esc.seq) (wrong 1)]
    run := fun s _ _ _ =>
      (((s.modEsc (fun x => { x with latched := false })).count (.esc 0 .acks)).faultEvent, .done (stOk [])) }

/-- The grant of a self-test asked now would be awaited (R461): the power does not fit, or another self-test waits. -/
def State.testWaits (s : State) : Bool :=
  !s.fits GrantKind.selfTest.power || (s.power.queue ++ s.power.arrivals).any (fun a => a.kind == .selfTest)

/-- ESC_TEST_ENGINE (R413): answered with its result, or ST_ACCEPTED where the grant is awaited, and its result comes with the
DONE event (log 43). -/
def cmdEscTestEngine : Cmd :=
  { op := 0x1406, lengthOk := lenIs 4
    check := fun s n p =>
      let e := byteAt p 0
      firstFail [inRange e 12 0, mustBeS0 n, need ((s.engine e).state != .retired) (stWrongState 0x0C02 e 2),
        need ((s.engine e).state == .inService) stBusy]
    run := fun s n tag p =>
      ((s.modEngine (byteAt p 0) (fun x => { x with testFor := some (n, tag) })).beginTest (byteAt p 0) false,
        if s.testWaits then .accepted else .later) }

/-- ESC_INJECT (R413). -/
def cmdEscInject : Cmd :=
  { op := 0x1407, lengthOk := lenIs 4
    check := fun _ n p => firstFail [inRange (byteAt p 0) 12 0, mustBeS0 n, flag p 1]
    run := fun s _ _ p =>
      ((s.modEngine (byteAt p 0) (fun x =>
        if byteAt p 1 = 0 then { x with injectStd := true } else { x with injectEsc := true })).count (.esc 0 .injections),
       .done (stOk [])) }

/-- The counters of a kind (R415). -/
def escKind (k : Nat) : Nat × List EscCtr :=
  if k = 0 then (12, [.stdWindows, .stdMismatch, .escJobs, .escMismatch, .escTimeout, .escSnapshot, .replayedWrites])
  else if k = 1 then (16384, [.safeOutputs])
  else (1, [.faults, .acks, .injections])

/-- The object of an ESC counter command. -/
def escObject (p : Bytes) : Option Answer := firstFail [inRange (byteAt p 0) 3 0, inRange (le p 2 2) (escKind (byteAt p 0)).1 2]

/-- Its range. -/
def escRange (p : Bytes) : Option Answer := countIn (le p 2 2) (le p 4 2) 64 (escKind (byteAt p 0)).1 2 4

/-- The counters that an ESC counter command names. -/
def escNamed (p : Bytes) : List Ctr := (indexList p).flatMap (fun i => (escKind (byteAt p 0)).2.map (fun c => Ctr.esc i c))

/-- ESC_GET_COUNTERS (R415). -/
def cmdEscGetCounters : Cmd :=
  { op := 0x1408, lengthOk := lenIs 8
    check := fun s n p => firstFail [escObject p,
      if byteAt p 0 = 1 then firstFail ((objectsIn (le p 2 2) (le p 4 2) 16384).map (fun i => mayRead s n 8 (i / 1024))) else mayReadDevice s n,
      escRange p]
    run := fun s _ _ p => (s, .done (stOk (counterBytes s (escNamed p)))) }

/-- ESC_CLEAR_COUNTERS. -/
def cmdEscClearCounters : Cmd :=
  { op := 0x1409, lengthOk := lenIs 8
    check := fun _ n p => firstFail [escObject p, mustBeS0 n, escRange p]
    run := fun s _ _ p => (s.clearCtrs (fun k => (escNamed p).contains k), .done (stOk [])) }

/-! Events. -/

/-- RELAY_JOB_START (R373): `snapshot` says that an escorted main run reads an input outside its snapshot (R403). -/
def execRelayJobStart (e : Engine) (snapshot : Bool) (s : State) : Res :=
  let n := s.relay.nextJob
  let t := s.startJob e.val
  .next (match (t.engine e.val).job? n with
    | some j => if j.escorted && snapshot then t.escortedFault e.val j 2 else t
    | none => t)

/-- CHECK_RUN_END (R376, R397, R401): of the job of a source. `strikes` are the faults that struck the check run: it writes what the
main run wrote but for them. -/
def execCheckRunEnd (e : Engine) (source : Half) (strikes : List Strike) (s : State) : Res :=
  .next (if !s.running || (s.engine e.val).halted then s
    else match s.runningJob e.val source.toNat with
      | none => s
      | some j =>
        let s := s.replayWrites e.val j
        if j.escorted then s.escortedCheck e.val j strikes else s.standardCheck e.val j strikes)

/-- ESCORTED_TIMEOUT (R404): a halted engine's timer is suspended. -/
def execEscortedTimeout (e : Engine) (source : Half) (s : State) : Res :=
  .next (if !s.running || (s.engine e.val).halted then s
    else match s.runningJob e.val source.toNat with
      | none => s
      | some j => if j.escorted then s.escortedFault e.val j 1 else s)

/-- The engine's self-test runs: it has its grant. -/
def State.testing (s : State) (e : Nat) : Bool :=
  (s.engine e).state == .selfTest && s.power.grants.any (fun g => g.kind == .selfTest && g.requester == e)

/-- SELF_TEST_END (R406). -/
def execSelfTestEnd (e : Engine) (passed : Bool) (s : State) : Res :=
  .next (if s.testing e.val then (s.release .selfTest e.val).testEnd e.val passed else s)

/-- TUNNEL_WAIT_EXPIRY (R384). -/
def execTunnelWaitExpiry (t : Fin 256) (s : State) : Res := .next (s.sendTunnel t.val)

/-- TUNNEL_FRAME_RECEIVE (R385): a frame without FCS that reaches F26, with its ingress stamp. -/
def execTunnelFrameReceive (bytes : Bytes) (stamp : Nat) (s : State) : Res :=
  .next (if s.running then s.tunnelFrameIn bytes stamp else s)

/-- A debugger reaches the engines (R108, R111): JTAG is open, or unlocked in PRODUCTION. -/
def State.debugOpen (s : State) : Bool := s.boot.lcs == 1 || s.boot.lcs == 2 || s.boot.lcs == 4 || s.jtag.unlocked

/-- The debugger writes a main run (R411): the write is logged with the run's instruction count. -/
def State.debugPut (s : State) (e : Nat) (j : RJob) (p : RunPlace) (v : Word) : State :=
  let s := s.modJob e j.number (fun j => { j with
    log := j.log ++ [{ count := j.insns, place := p, value := v }]
    regs := match p with | .reg r => tset j.regs r v | .scratch _ => j.regs })
  match p with
  | .reg _ => s
  | .scratch off => s.modEngine e (fun x => { x with scratch := tset x.scratch (off % 0x2000 / 4) v })

/-- The debugger on a relay engine (R411): it reaches main runs whose check run has not ended. A step is one instruction of each. -/
def State.debugEngine (s : State) (e : Nat) (a : DebugAction) : State :=
  let x := s.engine e
  let on (ctx : Fin 4) (f : RJob → State) : State :=
    match x.jobs[ctx.val]? with
    | some j => if j.checked then s else f j
    | none => s
  match a with
  | .halt => s.modEngine e (fun x => { x with halted := true })
  | .release => s.modEngine e (fun x => { x with halted := false })
  | .step => if x.halted then s.modEngine e (fun x => { x with jobs := x.jobs.map (fun j => { j with insns := j.insns + 1 }) }) else s
  | .readReg ctx r => on ctx (fun j => s.emit (.debug (tgetD j.regs r 0)))
  | .writeReg ctx r v => on ctx (fun j => s.debugPut e j (.reg r) v)
  | .readMem ctx off => on ctx (fun _ => s.emit (.debug (tgetD x.scratch (off % 0x2000 / 4) 0)))
  | .writeMem ctx off v => on ctx (fun j => s.debugPut e j (.scratch (off % 0x2000)) v)

/-- A management core changed. -/
def State.modCore (s : State) (c : Nat) (f : Core → Core) : State :=
  { s with store := { s.store with cores := vmod s.store.cores c f } }

/-- The debugger on a management core (R111): halt, step and memory access. Its registers are not in the spec; a step runs firmware,
which the model does not hold (log 72). -/
def State.debugCore (s : State) (c : Nat) (a : DebugAction) : State :=
  let sram (off : Nat) : Bool := decide (0x400000 ≤ off) && decide (off + 4 ≤ 0x800000)
  let tcm (off : Nat) : Bool := decide (off + 4 ≤ 0x80000)
  match a with
  | .halt => s.modCore c (fun x => { x with halted := true })
  | .release => s.modCore c (fun x => { x with halted := false })
  | .step | .readReg _ _ | .writeReg _ _ _ => s
  | .readMem _ off =>
    if tcm off then s.emit (.debug (BitVec.ofNat 32 (leNat ((vget s.store.tcm c).readAll off 4))))
    else if sram off then s.emit (.debug (BitVec.ofNat 32 (leNat (s.store.sram.readAll (off - 0x400000) 4))))
    else s
  | .writeMem _ off v =>
    if tcm off then { s with store := { s.store with tcm := vmod s.store.tcm c (fun m => m.writeAll off (wordBytes v)) } }
    else if sram off then { s with store := { s.store with sram := s.store.sram.writeAll (off - 0x400000) (wordBytes v) } }
    else s

/-- DEBUGGER_WRITE (R111, R411): an access of the debugger, where the life-cycle state or an unlock lets it in. -/
def execDebuggerWrite (e : DebugTarget) (action : DebugAction) (s : State) : Res :=
  .next (if !s.debugOpen || !s.running then s
    else match e with
      | .core c => s.debugCore c.val action
      | .engine k => s.debugEngine k.val action)

/-- ROUTE_GET_CAPS. -/
def execRouteGetCaps (slot : Slot) (tag : Half) (payload : Bytes) (s : State) : Res :=
  .next (penyen cmdRouteGetCaps slot.val tag payload s)

/-- ROUTE_SET_RULE. -/
def execRouteSetRule (slot : Slot) (tag : Half) (payload : Bytes) (s : State) : Res :=
  .next (penyen cmdRouteSetRule slot.val tag payload s)

/-- ROUTE_CLEAR. -/
def execRouteClear (slot : Slot) (tag : Half) (payload : Bytes) (s : State) : Res :=
  .next (penyen cmdRouteClear slot.val tag payload s)

/-- ROUTE_GET_RULE. -/
def execRouteGetRule (slot : Slot) (tag : Half) (payload : Bytes) (s : State) : Res :=
  .next (penyen cmdRouteGetRule slot.val tag payload s)

/-- ROUTE_SWAP. -/
def execRouteSwap (slot : Slot) (tag : Half) (payload : Bytes) (s : State) : Res :=
  .next (penyen cmdRouteSwap slot.val tag payload s)

/-- ROUTE_GET_GEN. -/
def execRouteGetGen (slot : Slot) (tag : Half) (payload : Bytes) (s : State) : Res :=
  .next (penyen cmdRouteGetGen slot.val tag payload s)

/-- ROUTE_SET_TUNNEL. -/
def execRouteSetTunnel (slot : Slot) (tag : Half) (payload : Bytes) (s : State) : Res :=
  .next (penyen cmdRouteSetTunnel slot.val tag payload s)

/-- ROUTE_GET_TUNNEL. -/
def execRouteGetTunnel (slot : Slot) (tag : Half) (payload : Bytes) (s : State) : Res :=
  .next (penyen cmdRouteGetTunnel slot.val tag payload s)

/-- ROUTE_SET_ENGINE. -/
def execRouteSetEngine (slot : Slot) (tag : Half) (payload : Bytes) (s : State) : Res :=
  .next (penyen cmdRouteSetEngine slot.val tag payload s)

/-- ROUTE_GET_ENGINES. -/
def execRouteGetEngines (slot : Slot) (tag : Half) (payload : Bytes) (s : State) : Res :=
  .next (penyen cmdRouteGetEngines slot.val tag payload s)

/-- ROUTE_GET_COUNTERS. -/
def execRouteGetCounters (slot : Slot) (tag : Half) (payload : Bytes) (s : State) : Res :=
  .next (penyen cmdRouteGetCounters slot.val tag payload s)

/-- ROUTE_CLEAR_COUNTERS. -/
def execRouteClearCounters (slot : Slot) (tag : Half) (payload : Bytes) (s : State) : Res :=
  .next (penyen cmdRouteClearCounters slot.val tag payload s)

/-- ESC_GET_CAPS. -/
def execEscGetCaps (slot : Slot) (tag : Half) (payload : Bytes) (s : State) : Res :=
  .next (penyen cmdEscGetCaps slot.val tag payload s)

/-- ESC_SET_CONFIG. -/
def execEscSetConfig (slot : Slot) (tag : Half) (payload : Bytes) (s : State) : Res :=
  .next (penyen cmdEscSetConfig slot.val tag payload s)

/-- ESC_GET_STATUS. -/
def execEscGetStatus (slot : Slot) (tag : Half) (payload : Bytes) (s : State) : Res :=
  .next (penyen cmdEscGetStatus slot.val tag payload s)

/-- ESC_SET_SAFE. -/
def execEscSetSafe (slot : Slot) (tag : Half) (payload : Bytes) (s : State) : Res :=
  .next (penyen cmdEscSetSafe slot.val tag payload s)

/-- ESC_GET_SAFE. -/
def execEscGetSafe (slot : Slot) (tag : Half) (payload : Bytes) (s : State) : Res :=
  .next (penyen cmdEscGetSafe slot.val tag payload s)

/-- ESC_ACK_FAULT. -/
def execEscAckFault (slot : Slot) (tag : Half) (payload : Bytes) (s : State) : Res :=
  .next (penyen cmdEscAckFault slot.val tag payload s)

/-- ESC_TEST_ENGINE. -/
def execEscTestEngine (slot : Slot) (tag : Half) (payload : Bytes) (s : State) : Res :=
  .next (penyen cmdEscTestEngine slot.val tag payload s)

/-- ESC_INJECT. -/
def execEscInject (slot : Slot) (tag : Half) (payload : Bytes) (s : State) : Res :=
  .next (penyen cmdEscInject slot.val tag payload s)

/-- ESC_GET_COUNTERS. -/
def execEscGetCounters (slot : Slot) (tag : Half) (payload : Bytes) (s : State) : Res :=
  .next (penyen cmdEscGetCounters slot.val tag payload s)

/-- ESC_CLEAR_COUNTERS. -/
def execEscClearCounters (slot : Slot) (tag : Half) (payload : Bytes) (s : State) : Res :=
  .next (penyen cmdEscClearCounters slot.val tag payload s)

end Sys2Proof.Machine
end

