-- ==== Sys2Proof/Machine/PowerCmds.lean ====
section
/-! DEFINITION. Power domains, the grant tick, the guard, the memory test and the PWR commands (chapter 20 of the spec). -/

namespace Sys2Proof.Machine

/-! Domains (R457, R458). -/

/-- Some port of a range has ENABLE 1. -/
def State.anyEnabled (s : State) (lo hi : Nat) : Bool :=
  (List.range 25).any (fun p => decide (lo ≤ p) && decide (p ≤ hi) && (s.phy p).enabled)

/-- Some CAN channel is not OFF, or is to leave it. -/
def State.anyCan (s : State) : Bool :=
  s.can.toList.any (fun x => x.state != .off || x.wanted.any (fun w => w.code != 0))

/-- Some LIN channel or UART is not OFF, or is to leave it. -/
def State.anySerial (s : State) : Bool :=
  let want (l : List Wanted) : Bool := l.any (fun w => w.code != 0)
  s.lin.toList.any (fun x => x.state != 0 || want x.wanted) || s.uart.toList.any (fun x => x.state != 0 || want x.wanted)

/-- A slot is bound to a PCIe function. -/
def State.anyPcie (s : State) : Bool :=
  s.slots.toList.any (fun x => match x.binding with | .pcie _ => true | _ => false)

/-- The condition under which a domain is powered while firmware runs (R457), KEEP_ON included (R458). -/
def State.domainNeeded (s : State) (d : Nat) : Bool :=
  s.power.keepOn.getLsbD d ||
    (if d = 5 then s.boot.bootsel == 0 || s.boot.bootsel == 1 || s.anyPcie || s.anyEnabled 2 4
     else if d = 6 then s.anyEnabled 0 1
     else if d = 7 then s.anyEnabled 5 16
     else if d = 8 then s.anyEnabled 17 24
     else if d = 11 then s.anyCan || s.anySerial
     else if d = 12 then s.anyCan
     else true)

/-- PWS_DOMAINS bit d set or cleared (R469); B follows it (R459, R464). -/
def State.domainTo (s : State) (d : Nat) (on : Bool) : State :=
  let m := BitVec.ofNat 13 (setBit s.pws.domains.toNat d on)
  (({ s with pws := { s.pws with domains := m } } : State).powerChanged).checkBaseline

/-- Channels and links that waited for a domain or for the memory test (R458, R460). -/
def State.edgesWake (s : State) : State :=
  let s := forAll (List.range 16) (fun c s => s.applyWanted c) s
  let s := forAll (List.range 4) (fun c s => s.applyLin c) s
  forAll (List.range 6) (fun c s => s.applyUart c) s

/-- DOMAIN_UP (R458): links of the domain train, channels that wait for it leave OFF. -/
def execDomainUp (d : Fin 13) (s : State) : Res :=
  .next (if s.running && s.domainNeeded d.val && !s.pws.domains.getLsbD d.val then
      let s := s.domainTo d.val true
      let s := forAll ((List.range 25).filter (fun p => phyDomain p == d.val))
        (fun p s => if s.canTrain p then s.startTraining p 5 else s) s
      if 11 ≤ d.val then s.edgesWake else s
    else s)

/-- DOMAIN_OFF_TIMER (R458): the condition has been false for 1 s. -/
def execDomainOffTimer (d : Fin 13) (s : State) : Res :=
  .next (if s.running && !s.domainNeeded d.val && s.pws.domains.getLsbD d.val then
      let s := s.domainTo d.val false
      if d.val = 5 then s.pcieDown else s
    else s)

/-! The grant tick (R461 to R464). -/

/-- A request of this tick before a waiting one (R460, R461): by priority, then by arrival; on the same clock by port or engine
number. -/
def Ask.before (x y : Ask) : Bool :=
  decide (x.kind.priority < y.kind.priority)
    || (x.kind == y.kind && x.time == y.time && decide (x.requester < y.requester))

/-- A request put into the queue. -/
def insertAsk (x : Ask) : List Ask → List Ask
  | [] => [x]
  | y :: ys => if x.before y then x :: y :: ys else y :: insertAsk x ys

/-- A grant given (R459, R462): a training that waited for it starts. -/
def State.give (s : State) (a : Ask) : State :=
  let s := s.modPower (fun p => { p with
    grants := p.grants ++ [{ kind := a.kind, requester := a.requester, time := s.now, since := s.tick }] })
  let s := s.count (.pwr .grants)
  if a.kind = .train then
    if (s.phy a.requester).link = .grantWait then s.trainNow a.requester (s.phy a.requester).attemptCause else s.release .train a.requester
  else s

/-- The queue served head first (R461). -/
def State.serve (s : State) : Nat → State
  | 0 => s
  | k + 1 =>
    match s.power.queue with
    | [] => s
    | a :: as =>
      if s.fits a.kind.power then ((s.modPower (fun p => { p with queue := as })).give a).serve k else s

/-- The memory test ends (R460, R469, R537): `fail` is MEMTEST_FAIL where it failed. -/
def State.memTestEnd (s : State) (fail : Option Nat) : State :=
  let s : State := { s with memTest := match fail with
    | none => { result := 0, fail := 0xFFFFFFFF }
    | some v => { result := 1, fail := v } }
  let s := match fail with
    | none => s
    | some v => s.event 0 0x0F03 ([1, 0, 0, 0] ++ w32 v)
  s.edgesWake

/-- An overdue grant (R463). The region that a memory test had not tested is not named: it is free (log 45). -/
def State.overdue (s : State) (g : Grant) : State :=
  let s := (s.count (.pwr .overdue)).event 0 0x0F01
    (w8 g.kind.code ++ [0] ++ w16 g.requester ++ w16 (g.kind.power * 10))
  let s := s.release g.kind g.requester
  match g.kind with
  | .train =>
    if (s.phy g.requester).link = .training then s.trainingDone g.requester false 0 else s
  | .selfTest => if (s.engine g.requester).state = .selfTest then s.testEnd g.requester false else s
  | .memTest =>
    let v := s.freeBits 32
    v.2.memTestEnd (some v.1.toNat)

/-- Requests of this tick that are refused because the queue is full, from the last place upwards (R461): a training asks again
under R312, a test at the next tick. -/
def State.turnAway (s : State) (mine : List Ask) : Nat → State
  | 0 => s
  | k + 1 =>
    if s.power.queue.length ≤ 16 then s
    else
      match (s.power.queue.filter (fun a => mine.contains a)).getLast? with
      | none => s
      | some a =>
        let s := s.modPower (fun p => { p with queue := (p.queue.reverse.erase a).reverse })
        let s := if a.kind = .train then s.count (.phy a.requester .grantDefer) (b2n a.again)
          else s.ask a.kind a.requester false
        s.turnAway mine k

/-- GRANT_TICK (R461). -/
def State.grantTick (s : State) : State :=
  let s := match s.power.newCeiling with
    | none => s
    | some c =>
      ((s.modPower (fun p => { p with ceiling := c, newCeiling := none })).powerChanged).checkBaseline
  let s := forAll (s.power.grants.filter (fun g => decide (g.since + g.kind.ticks ≤ s.tick))) (fun g s => s.overdue g) s
  let mine := s.power.arrivals
  let s := s.modPower (fun p => { p with queue := p.arrivals.foldl (fun q a => insertAsk a q) p.queue, arrivals := [] })
  let before := s.granted
  let s := s.serve (s.power.queue.length + 1)
  let s := if s.granted = before then s else s.powerChanged
  let left := mine.filter (fun a => s.power.queue.contains a)
  let s := forAll (left.filter (fun a => a.kind == .train && !a.again)) (fun a s => s.count (.phy a.requester .grantDefer)) s
  let s := s.turnAway mine 32
  s.count (.pwr .queued) (left.filter (fun a => s.power.queue.contains a)).length

/-- GRANT_TICK: every 10 µs while firmware runs (R459). -/
def execGrantTick (s : State) : Res := .next (if s.running then s.grantTick else s)

/-- GUARD_CHECK (R465): the last ten package powers decide. -/
def execGuardCheck (s : State) : Res :=
  .next (if !s.running then s
    else
      let n := s.meas.history.length
      let sum := s.meas.history.foldl (· + ·) 0
      let c := s.power.ceiling * 10 * n
      let was := s.power.guard
      let on := if was then !decide (sum * 100 < c * 95) else decide (c < sum)
      let s := s.modPower (fun p => { p with measured := sum / (10 * n), guard := on })
      let s := s.count (.pwr .guardMs) (b2n on)
      if was == on then s else s.overCeiling (if on then 1 else 2))

/-- MEM_TEST_DONE (R460, R462). -/
def execMemTestDone (failed : Bool) (fail : Word) (s : State) : Res :=
  .next (if s.running && s.power.grants.any (fun g => g.kind == .memTest) then
    (s.release .memTest 0).memTestEnd (if failed then some fail.toNat else none) else s)

/-! PWR commands (R468). -/

/-- PWR_GET_CAPS (R538). -/
def cmdPwrGetCaps : Cmd :=
  { op := 0x0F00, lengthOk := lenIs 0, check := fun _ _ _ => none
    run := fun s _ _ _ => (s, .done (stOk ([13, 600, 1800, 10, 10000, 16, 10].flatMap w32))) }

/-- PWR_GET_STATUS. -/
def cmdPwrGetStatus : Cmd :=
  { op := 0x0F01, lengthOk := lenIs 0, check := fun s n _ => mayReadDevice s n
    run := fun s _ _ _ =>
      let p := s.power
      (s, .done (stOk (w16 p.ceiling ++ w16 s.baseline ++ w16 s.granted ++ w8 (b2n p.guard) ++ w8 p.queue.length
        ++ w16 p.measured ++ [0, 0] ++ w16 p.boardBudget ++ w16 (s.boardReserved / 100) ++ w16 s.pws.domains.toNat
        ++ [0, 0]))) }

/-- PWR_SET_CEILING (R464). -/
def cmdPwrSetCeiling : Cmd :=
  { op := 0x0F02, lengthOk := lenIs 4
    check := fun _ n p => firstFail [mustBeS0 n, between (le p 0 2) 600 1800 0]
    run := fun s _ _ p => (s.modPower (fun x => { x with newCeiling := some (le p 0 2) }), .done (stOk [])) }

/-- PWR_SET_BOARD_BUDGET (R466). -/
def cmdPwrSetBoardBudget : Cmd :=
  { op := 0x0F03, lengthOk := lenIs 4
    check := fun _ n p => firstFail [mustBeS0 n, between (le p 0 2) 10 10000 0]
    run := fun s _ _ p => (s.modPower (fun x => { x with boardBudget := le p 0 2 }), .done (stOk [])) }

/-- PWR_SET_DOMAIN (R458). -/
def cmdPwrSetDomain : Cmd :=
  { op := 0x0F04, lengthOk := lenIs 4
    check := fun _ n p => firstFail [need ([5, 6, 7, 8, 11, 12].contains (byteAt p 0)) (stBadParam 0), mustBeS0 n, flag p 1]
    run := fun s _ _ p =>
      (s.modPower (fun x => { x with
        keepOn := BitVec.ofNat 13 (setBit x.keepOn.toNat (byteAt p 0) (byteAt p 1 == 1)) }), .done (stOk [])) }

/-- One entry of PWR_GET_GRANTS. -/
def grantEntry (k : GrantKind) (state requester time : Nat) : Bytes :=
  w8 k.code ++ w8 state ++ w16 requester ++ w16 (k.power * 10) ++ [0, 0] ++ w64 time

/-- PWR_GET_GRANTS: grants, then the queue. -/
def cmdPwrGetGrants : Cmd :=
  { op := 0x0F05, lengthOk := lenIs 0, check := fun s n _ => mayReadDevice s n
    run := fun s _ _ _ =>
      (s, .done (stOk (s.power.grants.flatMap (fun g => grantEntry g.kind 0 g.requester g.time)
        ++ s.power.queue.flatMap (fun a => grantEntry a.kind 1 a.requester a.time)))) }

/-- The power counters in table order (R470). -/
def pwrCtrs : List Ctr :=
  [.grants, .queued, .denied, .overdue, .throttled, .baselineOver, .guardMs, .boardWaits].map Ctr.pwr

/-- PWR_GET_COUNTERS. -/
def cmdPwrGetCounters : Cmd :=
  { op := 0x0F06, lengthOk := lenIs 0, check := fun s n _ => mayReadDevice s n
    run := fun s _ _ _ => (s, .done (stOk (counterBytes s pwrCtrs))) }

/-- PWR_CLEAR_COUNTERS. -/
def cmdPwrClearCounters : Cmd :=
  { op := 0x0F07, lengthOk := lenIs 0, check := fun _ n _ => mustBeS0 n
    run := fun s _ _ _ => (s.clearCtrs (fun k => pwrCtrs.contains k), .done (stOk [])) }

/-- PWR_GET_CAPS. -/
def execPwrGetCaps (slot : Slot) (tag : Half) (payload : Bytes) (s : State) : Res :=
  .next (penyen cmdPwrGetCaps slot.val tag payload s)

/-- PWR_GET_STATUS. -/
def execPwrGetStatus (slot : Slot) (tag : Half) (payload : Bytes) (s : State) : Res :=
  .next (penyen cmdPwrGetStatus slot.val tag payload s)

/-- PWR_SET_CEILING. -/
def execPwrSetCeiling (slot : Slot) (tag : Half) (payload : Bytes) (s : State) : Res :=
  .next (penyen cmdPwrSetCeiling slot.val tag payload s)

/-- PWR_SET_BOARD_BUDGET. -/
def execPwrSetBoardBudget (slot : Slot) (tag : Half) (payload : Bytes) (s : State) : Res :=
  .next (penyen cmdPwrSetBoardBudget slot.val tag payload s)

/-- PWR_SET_DOMAIN. -/
def execPwrSetDomain (slot : Slot) (tag : Half) (payload : Bytes) (s : State) : Res :=
  .next (penyen cmdPwrSetDomain slot.val tag payload s)

/-- PWR_GET_GRANTS. -/
def execPwrGetGrants (slot : Slot) (tag : Half) (payload : Bytes) (s : State) : Res :=
  .next (penyen cmdPwrGetGrants slot.val tag payload s)

/-- PWR_GET_COUNTERS. -/
def execPwrGetCounters (slot : Slot) (tag : Half) (payload : Bytes) (s : State) : Res :=
  .next (penyen cmdPwrGetCounters slot.val tag payload s)

/-- PWR_CLEAR_COUNTERS. -/
def execPwrClearCounters (slot : Slot) (tag : Half) (payload : Bytes) (s : State) : Res :=
  .next (penyen cmdPwrClearCounters slot.val tag payload s)

end Sys2Proof.Machine
end

