-- ==== Sys2Proof/Machine/Time.lean ====
section
/-! DEFINITION. Steps and rates of the local clock, gPTP instances, the TIME commands and the time-driven rows (chapter 11 of
the spec). -/

namespace Sys2Proof.Machine

/-- Nominal increment, 1.25 ns in 2⁻³² ns (R267). -/
def nominalIncr : Nat := 0x140000000

/-- The ±500 ppm limit of the servo (R279). -/
def servoLimit : Nat := nominalIncr / 2000

/-- A TIME_IO output takes the level of its new position after a step (R274, R285). -/
def State.repositionIo (s : State) (n : Nat) : State :=
  let x := vget s.time.io n
  if x.running && x.inside s.now != x.inPulse then s.ioEdge n else s

/-- A tracked pair when the local clock steps (R274, R280): its update lies at the moved local instant, and the offset is less by the
step, so that domain time runs on unbroken. -/
def Gptp.moved (x : Gptp) (step : Int) : Gptp :=
  { x with ref := toTwos 64 ((x.ref : Int) + step), offset := x.offset - step * 65536 }

/-- A step of the local clock (R269, R272, R274): it applies with the next tick, and everything that runs on local time moves
with the count. -/
def State.stepClock (s : State) (step : Int) : State :=
  let s := s.fabricTick step
  let s := s.modTime (fun u => { u with
    stepped := true, stepLocked := true
    inst := vtab 4 (fun i => let x := vget u.inst i; if u.driving i then x else x.moved step) })
  let s := s.modNet (fun n => { n with red := { n.red with second := s.now / 1000000000 } })
  let s := s.eventOpen 0x0802 (w64 (toTwos 64 step) ++ w64 s.now ++ w16 s.time.epoch.toNat)
  let s := forAll (List.range 16) (fun n s =>
    if (vget s.time.alarms n).active.enable && decide (s.alarmDiff n < 0) then s.fireAlarm n true else s) s
  let s := forAll (List.range 25) (fun p s =>
    let g := s.pg p
    if g.state == .pending && decide (g.changeAt < s.now) then
      (((s.modPg p (fun g => { g with changeLate := true })).gateChange p).countOverrun p s.now).modPg p
        (fun g => g.reposition s.now)
    else s.modPg p (fun g => g.reposition s.now)) s
  let s := s.modNet (fun n => { n with sgates := n.sgates.map (fun g => g.reposition s.now) })
  let s := forAll (List.range 6) (fun n s => s.repositionIo n) s
  if s.cmu.arm && decide (diff32 s.cmu.atTime.toNat s.now < 0) then s.fireTimed true else s

/-! gPTP (R277 to R283). -/

/-- The domain time that a tracked pair gives at a local instant, in 2⁻¹⁶ ns (R280). -/
def Gptp.domainAt (x : Gptp) (t : Nat) : Int := 
  (t * 65536 : Nat) + x.offset + x.rate * signedOf 64 (toTwos 64 ((t : Int) - x.ref)) * 65536 / 2 ^ 32

/-- The driving instance serves the local clock (R279), its offset in 2⁻¹⁶ ns: one step per epoch, else the rate alone, within
±500 ppm; how the servo chooses a rate below the limit is free (log 26). -/
def State.servo (s : State) (i : Nat) (offset : Int) : State :=
  let th : Int := le (s.gptp i).record 16 4 * 65536
  let big := decide (th < offset) || decide (offset < -th)
  if big && !s.time.stepLocked then (s.count (.time (100 + i) .steps)).stepClock (-(offset / 65536))
  else
    let fr := s.freeNat
    let s := fr.2
    let incr := if big then (if 0 < offset then nominalIncr - servoLimit else nominalIncr + servoLimit)
      else nominalIncr - servoLimit + fr.1 % (2 * servoLimit + 1)
    s.modTime (fun u => { u with nextIncr := BitVec.ofNat 40 incr, heldFrac := BitVec.ofNat 32 incr })

/-- The delayAsymmetry that a Sync's domain time takes (R281): that of the slave port, where the configuration names it. -/
def State.syncAsymmetry (s : State) (x : Gptp) : Int :=
  if x.isStatic && decide (x.slavePort < 25) then (vget s.time.ports x.slavePort).asymmetry * 65536 else 0

/-- A port's mean link delay is within PDELAY_THRESH, so that the instance uses the port (R277). -/
def State.delayOk (s : State) (x : Gptp) (p : Nat) : Bool := decide ((vget s.time.ports p).linkDelay ≤ le x.record 12 2)

/-- An instance takes Syncs (R277): enabled, not its own grandmaster, and its slave port, where the configuration names it, a port
that it uses. -/
def State.takesSync (s : State) (i : Nat) : Bool :=
  let x := s.gptp i
  s.running && x.state != .disabled && !x.ownMaster && (!x.isStatic || s.delayOk x x.slavePort)

/-- SYNC_RECEIVE (R273, R278 to R281): the grandmaster, the domain time of the Sync in 2⁻¹⁶ ns and the rate of the domain
against the local clock in 2⁻³². -/
def State.syncReceive (s : State) (i : Nat) (gm : DWord) (domain : Nat) (rate : Int) : State :=
  let x := s.gptp i
  let domain : Int := domain + s.syncAsymmetry x
  let local16 : Int := (s.now * 65536 + s.time.frac / 65536 : Nat)
  let drives := s.time.driving i
  let offset : Int := if drives then local16 - domain else if x.ref = 0 then 0 else x.domainAt s.now - domain
  let s := s.count (.time (100 + i) .syncRx)
  let s := s.modGptp i (fun x => { x with gm := gm, lastOffset := offset / 65536 })
  let s := if drives && decide (x.gm ≠ gm) then s.newEpoch 2 else s
  let s := s.gptpTo i (if offset ≤ 65536000 ∧ -65536000 ≤ offset ∧ x.state ≠ .holdover then .locked else .acquiring)
  if drives then s.servo i offset
  else s.modGptp i (fun x => { x with ref := s.now, offset := domain - (s.now * 65536 : Nat), rate := rate })

/-- A gPTP message sent on a port through F27 (R283); its body is laid out by IEEE 802.1AS and is free here (log 12). A one-step
Sync gets its stamp as it leaves. -/
def State.sendGptp (s : State) (p : Nat) (len : Nat) (oneStep : Bool) : State :=
  let b := s.freeBytes len
  let src := beBytes 6 Config.managementMac.toNat
  b.2.modNet (fun n => { n with outbox := n.outbox ++
    [{ ingress := 27, bytes := beBytes 6 0x0180C200000E ++ src ++ beBytes 2 0x88F7 ++ b.1
       direct := some p, launch := none, tc := none, oneStep := oneStep }] })

/-- An instance is master on a port (R277): enabled, the port in its mask and within PDELAY_THRESH, and not its slave port. Where
BMCA decides (STATIC 0), the row's port is a MasterPort (log 26). -/
def State.masterOn (s : State) (i p : Nat) : Bool :=
  let x := s.gptp i
  s.running && x.state != .disabled && bitOf (le x.record 4 4) p && s.delayOk x p && (!x.isStatic || x.slavePort != p)

/-- SYNC_RECEIVE. -/
def execSyncReceive (i : Fin 4) (gm : DWord) (domain : Nat) (rate : Int) (s : State) : Res :=
  .next (if s.takesSync i then s.syncReceive i gm domain rate else s)

/-- SYNC_TIMEOUT (R278). -/
def execSyncTimeout (i : Fin 4) (s : State) : Res :=
  .next (if s.running ∧ !(s.gptp i).ownMaster ∧ ((s.gptp i).state = .acquiring ∨ (s.gptp i).state = .locked) then
    (s.count (.time (100 + i.val) .syncTimeouts)).gptpTo i .holdover else s)

/-- SYNC_TRANSMIT (R283): one-step for the driving instance; a tracked one sends Sync and Follow_Up. -/
def execSyncTransmit (i : Fin 4) (p : Port) (s : State) : Res :=
  .next (if s.masterOn i p then
    (if s.time.driving i then s.sendGptp p 44 true else (s.sendGptp p 44 false).sendGptp p 76 false) else s)

/-- PDELAY_EXCHANGE (R277): a measured mean link delay, or a lost exchange. -/
def execPdelayExchange (p : Port) (delay : Nat) (lost : Bool) (s : State) : Res :=
  .next (if !s.running then s else if lost then
    forAll ((List.range 4).filter (fun i => (s.gptp i).state != .disabled && bitOf (le (s.gptp i).record 4 4) p))
      (fun i s => s.count (.time (100 + i) .pdelayLost)) s
  else s.modTime (fun u => { u with ports := vmod u.ports p (fun x => { x with linkDelay := delay }) }))

/-- ALARM_FIRE (R276): on the first tick on which the difference is 0 or less. -/
def execAlarmFire (n : Fin 16) (s : State) : Res :=
  .next (if (vget s.time.alarms n).active.enable ∧ s.alarmDiff n ≤ 0 then s.fireAlarm n false else s)

/-- TIME_IO_EDGE (R284). -/
def execTimeIoEdge (n : Fin 6) (falling : Bool) (s : State) : Res :=
  .next (if s.bank33 ∧ (vget s.time.io n).active.function = 1 then s.captureEdge n falling else s)

/-- CAPTURE_FILTER_END (R284): the pin has held this level for FILTER_US. -/
def execCaptureFilterEnd (n : Fin 6) (high : Bool) (s : State) : Res :=
  match (vget s.time.io n).waiting with
  | some c => .next (if (vget s.time.io n).held s.tick then s.filterEnd n high c else s)
  | none => .next s

/-- TIME_IO_PULSE_EDGE (R275, R285): the local clock has passed the next edge of a running output. -/
def execTimeIoPulseEdge (n : Fin 6) (s : State) : Res := .next (s.repositionIo n)

/-! Commands (R286). -/

/-- TIME_GET_CAPS: instances, pins, alarms, and the resolutions of R281 by table row (R538). How 0.1 ns is written is not stated: the entries are
free (log 22). -/
def cmdTimeGetCaps : Cmd :=
  { op := 0x0800, lengthOk := lenIs 0
    check := fun _ _ _ => none
    run := fun s _ _ _ =>
      let r := s.freeBytes 28
      (r.2, .done (stOk ([4, 6, 16, 7].flatMap w32 ++ r.1))) }

/-- TIME_GET_NOW. -/
def cmdTimeGetNow : Cmd :=
  { op := 0x0801, lengthOk := lenIs 0
    check := fun s n _ => mayReadDevice s n
    run := fun s _ _ _ =>
      let u := s.time
      (s, .done (stOk (w64 u.ns ++ w32 u.frac ++ w16 u.epoch.toNat ++ w8 u.source.toNat ++ w8 u.driver.toNat))) }

/-- TIME_SET_SOURCE (R273, R286); a disabled instance cannot drive (log 25). -/
def cmdTimeSetSource : Cmd :=
  { op := 0x0802, lengthOk := lenIs 4
    check := fun s n p => firstFail [need (byteAt p 0 != 1 || decide (byteAt p 1 < 4)) (stBadParam 1), mustBeS0 n,
      need (byteAt p 0 != 1 || (s.gptp (byteAt p 1)).state != .disabled) (stWrongState 0x0801 (byteAt p 1) 0),
      between (byteAt p 0) 0 2 0]
    run := fun s _ _ p =>
      let src := BitVec.ofNat 2 (byteAt p 0)
      let drv := if byteAt p 0 = 1 then BitVec.ofNat 2 (byteAt p 1) else s.time.driver
      let same := s.time.source == src && s.time.driver == drv
      let s := s.modTime (fun u => { u with source := src, driver := drv })
      let s := if same then s else s.newEpoch 1
      (s, .done (stOk (w16 s.time.epoch.toNat))) }

/-- TIME_NEW_EPOCH (R273). -/
def cmdTimeNewEpoch : Cmd :=
  { op := 0x0803, lengthOk := lenIs 0
    check := fun _ n _ => mustBeS0 n
    run := fun s _ _ _ =>
      let s := s.newEpoch 3
      (s, .done (stOk (w16 s.time.epoch.toNat))) }

/-- SOURCE is HOST (R286). -/
def hostDrives (s : State) : Option Answer := need (s.time.source == 2) (stWrongState 0x0800 0 s.time.source.toNat)

/-- TIME_STEP (R272, R286). -/
def cmdTimeStep : Cmd :=
  { op := 0x0804, lengthOk := lenIs 8
    check := fun s n _ => firstFail [mustBeS0 n, hostDrives s, need (!s.time.stepLocked) stLocked]
    run := fun s _ _ p =>
      let s := s.stepClock (signedOf 64 (le p 0 8))
      (s, .done (stOk (w64 s.now))) }

/-- TIME_SET_RATE (R271, R286). -/
def cmdTimeSetRate : Cmd :=
  { op := 0x0805, lengthOk := lenIs 8
    check := fun s n _ => firstFail [mustBeS0 n, hostDrives s]
    run := fun s _ _ p =>
      let v := byteAt p 0 * 2 ^ 32 + le p 4 4
      (s.modTime (fun u => { u with nextIncr := BitVec.ofNat 40 v, heldFrac := BitVec.ofNat 32 v }), .done (stOk [])) }

/-- TIME_SET_RATE: an increment whose integer part is 0 is undefined (R267), and the machine stops. -/
def execTimeSetRate (slot : Slot) (tag : Half) (payload : Bytes) (s : State) : Res :=
  let s' := penyen cmdTimeSetRate slot.val tag payload s
  if s'.time.nextIncr.toNat / 2 ^ 32 = 0 ∧ s.time.nextIncr.toNat / 2 ^ 32 ≠ 0 then .fault .zeroIncrement else .next s'

/-- Another enabled instance serves this domain (R277). -/
def State.domainTaken (s : State) (i d : Nat) : Bool :=
  (List.range 4).any (fun j => j != i && (s.gptp j).state != .disabled && byteAt (s.gptp j).record 0 == d)

/-- TIME_SET_DOMAIN (R277, R278). -/
def cmdTimeSetDomain : Cmd :=
  { op := 0x0806, lengthOk := lenIs 28
    check := fun s n p =>
      let i := byteAt p 0
      let sync := signedOf 8 (byteAt p 13)
      let pd := signedOf 8 (byteAt p 14)
      firstFail [inRange i 4 0, mustBeS0 n,
        need ((s.gptp i).state == .disabled) (stWrongState 0x0801 i (s.gptp i).state.code),
        need (decide (byteAt p 4 ≤ 127) && !s.domainTaken i (byteAt p 4)) (stBadParam 4), flag p 5,
        need (decide (byteAt p 6 ≤ 24) || byteAt p 6 == 0xFF) (stBadParam 6),
        need (decide (le p 8 4 < 2 ^ 25)) (stBadParam 8), need (-7 ≤ sync ∧ sync ≤ 0) (stBadParam 13),
        need (-3 ≤ pd ∧ pd ≤ 3) (stBadParam 14), between (byteAt p 15) 2 255 15, between (le p 16 2) 1 10000 16,
        between (le p 20 4) 100 1000000000 20]
    run := fun s _ _ p =>
      (s.modGptp (byteAt p 0) (fun x => { x with record := slice p 4 14 ++ [0, 0] ++ slice p 20 4 ++ zeros 4 }),
       .done (stOk [])) }

/-- An instance that is enabled as its own grandmaster is LOCKED under the device's own identity (R277, R278, log 26); where it drives the
clock and its grandmaster changes by that, an epoch begins (R273). -/
def State.ownGrandmaster (s : State) (i : Nat) : State :=
  let changes := s.time.driving i && (s.gptp i).gm != Config.clockIdentity
  let s := (s.modGptp i (fun x => { x with gm := Config.clockIdentity, lastOffset := 0 })).gptpTo i .locked
  if changes then s.newEpoch 2 else s

/-- TIME_ENABLE_DOMAIN (R273, R277, R278). -/
def cmdTimeEnableDomain : Cmd :=
  { op := 0x0807, lengthOk := lenIs 4
    check := fun s n p => firstFail [inRange (byteAt p 0) 4 0, mustBeS0 n, flag p 1,
      need (byteAt p 1 == 0 || !s.domainTaken (byteAt p 0) (byteAt (s.gptp (byteAt p 0)).record 0)) (stBadParam 0)]
    run := fun s _ _ p =>
      let i := byteAt p 0
      let x := s.gptp i
      let s :=
        if byteAt p 1 = 0 then s.gptpTo i .disabled
        else if x.state ≠ .disabled then s
        else if x.ownMaster then s.ownGrandmaster i
        else (s.modGptp i (fun x => { x with ref := 0, offset := 0, rate := 0, lastOffset := 0 })).gptpTo i .acquiring
      (s, .done (stOk (w8 (s.gptp i).state.code))) }

/-- TIME_GET_DOMAIN: the fields in order, then the mean link delay of P0 to P24 in ns, 4 bytes each (log 22). -/
def cmdTimeGetDomain : Cmd :=
  { op := 0x0808, lengthOk := lenIs 4
    check := fun s n p => firstFail [inRange (byteAt p 0) 4 0, mayReadDevice s n]
    run := fun s _ _ p =>
      let x := s.gptp (byteAt p 0)
      (s, .done (stOk (w8 x.state.code ++ w64 x.gm.toNat ++ w64 x.ref ++ w64 (toTwos 64 (x.offset / 65536))
        ++ w16 (x.offset % 65536).toNat ++ w32 (toTwos 32 x.rate) ++ w64 (toTwos 64 x.lastOffset)
        ++ s.time.ports.toList.flatMap (fun y => w32 y.linkDelay)))) }

/-- TIME_SET_PORT (R281, R282). -/
def cmdTimeSetPort : Cmd :=
  { op := 0x0809, lengthOk := lenIs 8
    check := fun s n p =>
      let a := signedOf 32 (le p 4 4)
      firstFail [inRange (byteAt p 0) 25 0, mustOwn s n 1 (byteAt p 0), flag p 1,
        need (-100000 ≤ a ∧ a ≤ 100000) (stBadParam 4)]
    run := fun s _ _ p =>
      (s.modTime (fun u => { u with ports := vmod u.ports (byteAt p 0) (fun x => { x with
        tcEn := byteAt p 1 == 1, asymmetry := signedOf 32 (le p 4 4) }) }), .done (stOk [])) }

/-- TIME_SET_ALARM (R276): the caller's own alarm. -/
def cmdTimeSetAlarm : Cmd :=
  { op := 0x080A, lengthOk := lenIs 8
    check := fun s _ p => firstFail [flag p 0, flag p 1, commitFree s (byteAt p 0) 0]
    run := fun s n _ p =>
      let r : AlarmRegs := { time := BitVec.ofNat 32 (le p 4 4), enable := byteAt p 1 == 1 }
      ((s.modTime (fun u => { u with alarms := vmod u.alarms n (fun a => { a with shadow := r }) })).maybeCommit
        (byteAt p 0) 0, .done (stOk [])) }

/-- The six shadowed registers of a TIME_IO pin in address order (R284, R286). COUNT is RSV on a PERIODIC pin: a write of it is
dropped (R9). -/
def ioOf (b : Bytes) : IoRegs :=
  let c := le b 0 4
  { filter := BitVec.ofNat 14 (bitsOf c 16 14), polarity := bitOf c 6, edge := BitVec.ofNat 2 (bitsOf c 4 2)
    function := BitVec.ofNat 3 (bitsOf c 0 3), start := BitVec.ofNat 64 (le b 4 8), period := BitVec.ofNat 32 (le b 12 4)
    width := BitVec.ofNat 32 (le b 16 4), count := if bitsOf c 0 3 = 2 then 0 else BitVec.ofNat 16 (le b 20 2) }

/-- TIME_SET_IO (R284 to R286). -/
def cmdTimeSetIo : Cmd :=
  { op := 0x080B, lengthOk := lenIs 28
    check := fun s n p =>
      let r := ioOf (slice p 4 24)
      firstFail [inRange (byteAt p 0) 6 0, mustOwn s n 12 (byteAt p 0), flag p 1,
        need (decide (r.filter.toNat ≤ 10000) && decide (r.edge.toNat ≤ 2) && decide (r.function.toNat ≤ 3)) (stBadParam 4),
        need (100 ≤ r.period.toNat) (stBadParam 16),
        need (10 ≤ r.width.toNat && decide (r.width.toNat + 10 ≤ r.period.toNat)) (stBadParam 20),
        need (r.function != 3 || r.count != 0) (stBadParam 24), commitFree s (byteAt p 1) 0]
    run := fun s _ _ p =>
      let r := ioOf (slice p 4 24)
      ((s.modTime (fun u => { u with io := vmod u.io (byteAt p 0) (fun x => { x with shadow := r }) })).maybeCommit
        (byteAt p 1) 0, .done (stOk [])) }

/-- TIME_READ_CAPTURES: captures popped. -/
def cmdTimeReadCaptures : Cmd :=
  { op := 0x080C, lengthOk := lenIs 4
    check := fun s n p => firstFail [inRange (byteAt p 0) 6 0, mustOwn s n 12 (byteAt p 0), between (byteAt p 1) 1 16 1]
    run := fun s _ _ p =>
      let l := (vget s.time.io (byteAt p 0)).captures.take (byteAt p 1)
      (s.modTime (fun u => { u with io := vmod u.io (byteAt p 0) (fun x => { x with
        captures := x.captures.drop (byteAt p 1) }) }), .done (stOk (l.flatMap Capture.bytes))) }

/-- The counters of R287 by kind. -/
def timeCtrs (kind i : Nat) : List Ctr :=
  if kind = 0 then [.time i .tcCorrected]
  else if kind = 1 then [TimeCtr.syncRx, .syncTimeouts, .pdelayLost, .steps].map (Ctr.time (100 + i))
  else [TimeCtr.captures, .capOverflow, .pulses].map (Ctr.time (200 + i))

/-- TIME_GET_COUNTERS. -/
def cmdTimeGetCounters : Cmd :=
  { op := 0x080D, lengthOk := lenIs 4
    check := fun s n p => firstFail [between (byteAt p 0) 0 2 0, inRange (byteAt p 1) ([25, 4, 6].getD (byteAt p 0) 0) 1,
      (if byteAt p 0 = 0 then mayRead s n 1 (byteAt p 1) else if byteAt p 0 = 1 then mayReadDevice s n
       else mayRead s n 12 (byteAt p 1))]
    run := fun s _ _ p => (s, .done (stOk (counterBytes s (timeCtrs (byteAt p 0) (byteAt p 1))))) }

/-- TIME_GET_CAPS. -/
def execTimeGetCaps (slot : Slot) (tag : Half) (payload : Bytes) (s : State) : Res :=
  .next (penyen cmdTimeGetCaps slot.val tag payload s)

/-- TIME_GET_NOW. -/
def execTimeGetNow (slot : Slot) (tag : Half) (payload : Bytes) (s : State) : Res :=
  .next (penyen cmdTimeGetNow slot.val tag payload s)

/-- TIME_SET_SOURCE. -/
def execTimeSetSource (slot : Slot) (tag : Half) (payload : Bytes) (s : State) : Res :=
  .next (penyen cmdTimeSetSource slot.val tag payload s)

/-- TIME_NEW_EPOCH. -/
def execTimeNewEpoch (slot : Slot) (tag : Half) (payload : Bytes) (s : State) : Res :=
  .next (penyen cmdTimeNewEpoch slot.val tag payload s)

/-- TIME_STEP. -/
def execTimeStep (slot : Slot) (tag : Half) (payload : Bytes) (s : State) : Res :=
  .next (penyen cmdTimeStep slot.val tag payload s)

/-- TIME_SET_DOMAIN. -/
def execTimeSetDomain (slot : Slot) (tag : Half) (payload : Bytes) (s : State) : Res :=
  .next (penyen cmdTimeSetDomain slot.val tag payload s)

/-- TIME_ENABLE_DOMAIN. -/
def execTimeEnableDomain (slot : Slot) (tag : Half) (payload : Bytes) (s : State) : Res :=
  .next (penyen cmdTimeEnableDomain slot.val tag payload s)

/-- TIME_GET_DOMAIN. -/
def execTimeGetDomain (slot : Slot) (tag : Half) (payload : Bytes) (s : State) : Res :=
  .next (penyen cmdTimeGetDomain slot.val tag payload s)

/-- TIME_SET_PORT. -/
def execTimeSetPort (slot : Slot) (tag : Half) (payload : Bytes) (s : State) : Res :=
  .next (penyen cmdTimeSetPort slot.val tag payload s)

/-- TIME_SET_ALARM. -/
def execTimeSetAlarm (slot : Slot) (tag : Half) (payload : Bytes) (s : State) : Res :=
  .next (penyen cmdTimeSetAlarm slot.val tag payload s)

/-- TIME_SET_IO. -/
def execTimeSetIo (slot : Slot) (tag : Half) (payload : Bytes) (s : State) : Res :=
  .next (penyen cmdTimeSetIo slot.val tag payload s)

/-- TIME_READ_CAPTURES. -/
def execTimeReadCaptures (slot : Slot) (tag : Half) (payload : Bytes) (s : State) : Res :=
  .next (penyen cmdTimeReadCaptures slot.val tag payload s)

/-- TIME_GET_COUNTERS. -/
def execTimeGetCounters (slot : Slot) (tag : Half) (payload : Bytes) (s : State) : Res :=
  .next (penyen cmdTimeGetCounters slot.val tag payload s)

end Sys2Proof.Machine
end

