-- ==== Sys2Proof/Machine/Life.lean ====
section
/-! DEFINITION. What a cold start loses and what retention sleep keeps, and the pins and causes of the always-on domain
(R47, R51, R89, R486, R489, R511 to R518). -/

namespace Sys2Proof.Machine

/-! Pins of PD0. -/

/-- PD0's pins and monitors changed. -/
def State.modPd0 (s : State) (f : Pd0 → Pd0) : State := { s with pd0 := f s.pd0 }

/-- INH0 driven or released (R516). -/
def State.inh0To (s : State) (on : Bool) : State :=
  if s.pd0.inh0 = on then s else (s.modPd0 (fun p => { p with inh0 := on })).emit (.pin 1 on)

/-- INH1 driven or released (R486, R491); the change of PWS_RAILS sets POWER (R38). -/
def State.inh1To (s : State) (on : Bool) : State :=
  if s.pd0.inh1 = on then s
  else
    let s := (s.modPd0 (fun p => { p with inh1 := on })).emit (.pin 2 on)
    if s.pd0.die then s.setCauseAll 6 else s

/-- PD0 asserts INH0 (R516); INH1 follows it at once where its mode is 0 and its delay 0 (R491). -/
def State.assertInh (s : State) : State :=
  let s := s.inh0To true
  if s.sleep.inhMode = 2 ∨ (s.sleep.inhMode = 0 ∧ s.sleep.inhDelay = 0) then s.inh1To true else s

/-- A bit of PWS_RESET_CAUSE set (R47): 0 POR, 1 RESET_N, 2 WATCHDOG, 3 SOFTWARE, 4 BROWNOUT, 5 THERMAL. -/
def State.setResetCause (s : State) (bit : Nat) : State :=
  { s with pws := { s.pws with resetCause := s.pws.resetCause ||| (1#6 <<< bit) } }

/-! Cold starts. -/

/-- A LIN channel after a cold start: its wake-detector enable stays in PD0 (R489). -/
def LinChan.cold (x : LinChan) : LinChan :=
  let r := LinChan.resetRecord
  { LinChan.reset with record := splice r 1 (w8 (setBit (byteAt r 1) 1 (bitOf (byteAt x.record 1) 1))) }

/-- Sleep after a cold start: what R489 keeps in PD0. -/
def Sleep.cold (x : Sleep) : Sleep :=
  { Sleep.reset with
    pins := x.pins, canWake := x.canWake, decoders := x.decoders, nm := x.nm, hostFlags := x.hostFlags
    hostTargets := x.hostTargets, inhMode := x.inhMode, inhDelay := x.inhDelay, inhHold := x.inhHold
    wakeDue := x.wakeDue, recType := x.recType, recOutcome := x.recOutcome, recSrc := x.recSrc, recId := x.recId
    recData := x.recData, recEntered := x.recEntered, sinceTick := x.sinceTick, recSlept := x.recSlept
    recWoken := x.recWoken }

/-- The digital die is held in reset, or without power, and starts cold next (R89): every block is at its reset state, the fuses
as programmed take effect (R101, R109), the retention marker is cleared (R91), and PD0 keeps what is its own (R47, R408, R489). -/
def State.coldState (s : State) : State :=
  { State.reset with
    pending := s.pending, tick := s.tick, fresh := s.fresh, out := s.out
    pws := { Pws.reset with
      wakeSource := s.pws.wakeSource, wakeIndex := s.pws.wakeIndex, resetCause := s.pws.resetCause }
    boot := { Boot.reset with
      bootsel := s.boot.bootsel, secver := s.boot.secverFused, keyrev := s.boot.keyrevFused, lcs := s.boot.lcsFused
      secverFused := s.boot.secverFused, keyrevFused := s.boot.keyrevFused, lcsFused := s.boot.lcsFused }
    retSeal := { s.retSeal with marker := false }
    pd0 := { s.pd0 with die := false }
    board := { Board.reset with gpio := s.board.gpio.map (fun g => { (default : Gpio) with level := g.level, settled := g.level }) }
    net := { Net.reset with phys := vtab 25 (fun p => { Phy.reset p with wakeEn := (s.phy p).wakeEn }) }
    crypt := { Crypt.reset with starts := s.crypt.starts }
    lin := s.lin.map LinChan.cold
    esc := { s.esc with config := Esc.resetConfig, testing := none, safe := [], held := [] }
    sleep := s.sleep.cold }

/-- A reset of the digital die while the board stays up (R89, R516): INH0 and INH1 stay as they are, and PWS_WAKE_SRC reads a cold
start. -/
def State.resetDie (s : State) (cause : Nat) : State :=
  let s := s.coldState.setResetCause cause
  { s with pws := { s.pws with wakeSource := 0, wakeIndex := 0 } }

/-! Retention sleep: what firmware keeps (R51 and the chapters' own rules) stays, everything else of the die is lost. -/

/-- A slot through retention sleep (R51, R76). -/
def SlotRec.suspend (x : SlotRec) : SlotRec :=
  { SlotRec.reset with
    state := x.state, binding := x.binding, restricted := x.restricted, tags := x.tags, ethRx := x.ethRx, ethTx := x.ethTx
    jobs := x.jobs.filter (fun j => j.op == 0x1001 && !j.finished), stats := x.stats }

/-- The time unit through retention sleep (R268, R270): every register is reset; the count, the increment and the epoch are kept
beside, to be put back at the resume. The gPTP instances are firmware's. -/
def TimeUnit.suspend (u : TimeUnit) : TimeUnit :=
  { TimeUnit.reset with
    kept := { ns := u.ns, frac := u.frac, incr := u.incr, epoch := u.epoch }, inst := u.inst, ports := u.ports }

/-- The buffer empty, its parameters kept. -/
def Buffer.empty (b : Buffer) : Buffer :=
  let f : Int := 126976 - Buffer.reserves b.reserve
  { b with usedRes := Vector.replicate 28 0, resMax := Vector.replicate 28 0, free := f, sharedMin := f, headroomMax := 0 }

/-- An egress queue empty, its parameters kept. -/
def Queue.empty (q : Queue) : Queue :=
  { q with depth := 0, depthHigh := 0, credit := 0, tag := none, fprev := 0, waiting := [], shaperHeld := none }

/-- A meter with full buckets (R224). -/
def Meter.full (m : Meter) (tick : Nat) : Meter :=
  { m with c := (m.cfg.cbs * meterUnit : Int), e := (m.cfg.ebs * meterUnit : Int), last := tick }

/-- Redundancy after a resume (R299). -/
def Red.resume (r : Red) : Red :=
  { r with
    gens := r.gens.map (fun e => (e.1, { e.2 with next := 0 }))
    recs := r.recs.map (fun e => (e.1, { e.2 with takeAny := true, history := 0 }))
    state := if r.state = .disabled then .disabled else .onA, onB := false, wtrSince := 0
    members := Vector.replicate 2 { (default : Member) with faulty := true }, retired := [] }

/-- The Ethernet side through retention sleep. DESIGN CHOICE (log 47): the configuration is kept; frames in flight, learned
addresses and conversations are lost. -/
def Net.suspend (n : Net) (tick : Nat) : Net :=
  { n with
    outbox := [], inbox := [], fdb := n.fdb.filter (fun e => !e.2.dynamic), rx := Vector.replicate 25 default, frames := [], waybills := []
    stats := { provHigh := 0, waybillsLow := 65536, heldFrames := n.stats.heldFrames }
    customs := { n.customs with convs := [], buckets := [] }
    buffer := n.buffer.empty, queues := n.queues.map Queue.empty, fabric := default
    egress := n.egress.map (fun e => { (default : Egress) with linkHold := e.linkHold, linkHoldShadow := e.linkHoldShadow })
    meters := n.meters.map (fun e => (e.1, e.2.full tick))
    gates := n.gates.map (fun g => { g with status := .disabled, attempts := 0, hold := false })
    red := n.red.resume, pcieUp := false, ringTurn := 0, f25Free := 0 }

/-- A CAN channel through retention sleep (R327): its state, with empty queues and FIFOs and error counters of 0. -/
def CanChan.suspend (x : CanChan) : CanChan :=
  { CanChan.reset with
    record := x.record, state := x.state, retx := x.retx, filters := x.filters, kept := x.state, nextSeq := x.nextSeq
    detect := x.detect.map (fun d => { d with current := 0 }) }

/-- A LIN channel through retention sleep. -/
def LinChan.suspend (x : LinChan) : LinChan :=
  { x with
    wanted := [], entry := 0, running := 0, selected := none, resume := none, awaiting := none, sleepDue := false
    resuming := false, fifo := default }

/-- A UART through retention sleep. -/
def UartChan.suspend (x : UartChan) : UartChan := { x with wanted := [], queue := [], sending := false, receiving := false, fifo := default }

/-- The relay complex through retention sleep. -/
def Relay.suspend (r : Relay) : Relay :=
  { r with
    tunnels := r.tunnels.map (fun e => (e.1, { e.2 with rxSeq := none, open_ := none }))
    engines := r.engines.map (fun x => { x with
      jobs := [], inWindow := 0, sigMain := signStart, sigCheck := signStart, scratch := [], transients := [], halted := false, work := [] })
    waiting := [], vout := [] }

/-- The die loses power in retention sleep. -/
def State.suspend (s : State) : State :=
  { s with
    hiu := { Hiu.reset with kept := s.hiu.permit }
    cmu := default
    pws := { Pws.reset with
      domains := 3, wakeSource := s.pws.wakeSource, wakeIndex := s.pws.wakeIndex, resetCause := s.pws.resetCause }
    boot := { s.boot with
      state := .powerUp, owned := false, sealFail := false, resumed := false, go := false, last := false, first := false, len := 0
      result := 0, bootEvt := false, released := false }
    store := { (default : Store) with sram := s.store.sram }
    jtag := { s.jtag with challenge := none, unlocked := false }
    pd0 := { s.pd0 with die := false }
    spiLast := Vector.replicate 2 0
    pcie := Pcie.reset
    slots := s.slots.map SlotRec.suspend
    lastServed := 15
    ram := []
    board := { s.board with gpio := s.board.gpio.map (fun g => { g with since := none, floating := true }) }
    time := s.time.suspend
    net := s.net.suspend s.tick
    crypt := { s.crypt with cdi := Crypt.reset.cdi, ctxs := [], retired := [], rngGood := true }
    power := { Power.reset with
      boardBudget := s.power.boardBudget, keepOn := s.power.keepOn, keptCeiling := s.power.newCeiling.getD s.power.ceiling }
    can := s.can.map CanChan.suspend
    lin := s.lin.map LinChan.suspend
    uart := s.uart.map UartChan.suspend
    relay := s.relay.suspend
    meas := { (default : Meas) with partners := s.meas.partners } }

end Sys2Proof.Machine
end

