-- ==== Sys2Proof/Machine/SleepOps.lean ====
section
/-! DEFINITION. The sleep sequence, wakes and their outcomes (R475 to R489). -/

namespace Sys2Proof.Machine

/-- Device sleep state codes (R481); past the point of no return nothing reads it. -/
def Phase.code : Phase → Nat
  | .awake => 0 | .indicate => 1 | .quiet => 2 | .prepare => 3 | .sleeping => 4

/-- A change of device sleep state (R481, R492): causes 0 command, 1 Drover, 2 wake, 3 timeout. -/
def State.phaseTo (s : State) (ph : Phase) (cause : Nat) : State :=
  if s.sleep.phase = ph then s
  else
    let s := s.modSleep (fun x => { x with phase := ph })
    s.event 0 0x1001 (w8 ph.code ++ w8 cause ++ zeros 6 ++ w64 (s.segMask .going))

/-- The cause of a change that the request itself brings: a command, or the Drover. -/
def State.requestCause (s : State) : Nat := if s.sleep.request.isSome then 0 else 1

/-- Every segment code in order. -/
def segCodes : List Nat := (List.range 64).filter segReal

/-- A UART is quiet as far as the state shows (R483). -/
def State.uartsQuiet (s : State) : Bool := s.uart.toList.all (fun x => x.queue.isEmpty && !x.sending)

/-- The T1 coefficients of a port are stored in PREPARE (R308, R485): its link is up, or was up until this sleep put it to sleep. -/
def State.storeCoeffs (s : State) (p : Nat) : State :=
  let x := s.phy p
  if isT1 p && (x.link == .up || (x.link == .asleep && x.mayFast && bitOf s.sleep.moved (segOfPort p))) then
    s.modPhy p (fun x => { x with stored := some x.rate })
  else s

/-- A camera port goes OFF at sleep entry; one that was POWERED comes back as its segment wakes (R317). -/
def State.podlAsleep (s : State) (p : Nat) : State :=
  (s.modPodl p (fun x => { x with wasOn := x.wasOn || x.state == .powered })).podlTo p .off 0

/-- PREPARE (R485, R467, R308): forwarding stops, P0 to P4 go down, grants end, camera ports go OFF, and coefficients are
stored. The sleep was asked for: the links go down by command (R322). -/
def State.prepareActions (s : State) : State :=
  let s := forAll (List.range 25) (fun p s => s.storeCoeffs p) s
  let s := forAll (List.range 5) (fun p s => if (s.phy p).link = .disabled then s else s.linkDown p .down 0 0) s
  let had := !s.power.grants.isEmpty
  let s := s.modPower (fun p => { p with grants := [], queue := [], arrivals := [] })
  let s := if had then s.powerChanged else s
  forAll (List.range 25) (fun p s => if hasPodl p then s.podlAsleep p else s) s

/-- The sequence moves on when its indications are enqueued and when all is quiet (R483). -/
def State.sleepAdvance (s : State) : State :=
  let s := if s.sleep.phase = .indicate ∧ s.sleep.nmLeft.toList.all (· == 0) then s.phaseTo .quiet s.requestCause else s
  if s.sleep.phase = .quiet ∧ segCodes.all (fun n => s.segState n == .asleep) ∧ s.uartsQuiet then
    (s.phaseTo .prepare s.requestCause).prepareActions
  else s

/-- A sleep begins (R481, R482): every segment that is AWAKE sends its indication. -/
def State.beginSleep (s : State) (deep force : Bool) (quietMs timeoutMs : Nat) (request : Option (Nat × Half)) : State :=
  let s := s.modSleep (fun x => { x with
    deep := deep, force := force, quietMs := quietMs, timeoutMs := timeoutMs, request := request
    moved := s.segMask .awake
    cameras := maskOf 12 (fun k => (s.podlOf (k + 5)).state == .powered), wakeMask := 0, wakeDue := false })
  let s := s.phaseTo .indicate s.requestCause
  forAll segCodes (fun n s => s.sleepSegment n 0) s

/-- The outcome of a sleep reaches its requester (R484, R488): a DONE event, or the ledger for the Drover, whose
action took effect at sleep entry (R507). -/
def State.sleepOutcome (s : State) (status src : Nat) (result : Bytes) : State :=
  match s.sleep.request with
  | some (n, tag) => (s.modSleep (fun x => { x with request := none })).finishJob n tag 0x1001 (BitVec.ofNat 16 status) result
  | none =>
    match s.drover.sleeping with
    | none => s
    | some i =>
      let s := s.modDrov (fun d => { d with sleeping := none })
      if status = 0 then s.ledgerAt i (s.mandate i) { (default : Decision) with action := 12 } s.sleep.recEntered
      else s.ledger i { action := 12, outcome := 4, measured := 0, before := src, after := 0 }

/-- A segment that the sequence moved returns (R487): a LIN slave drives no wake. -/
def State.returnSegment (s : State) (n src : Nat) : State :=
  if 16 ≤ n ∧ n < 20 ∧ !(s.linCh (n - 16)).master ∧ (s.linCh (n - 16)).state = 2 then
    ((s.count (.sleep .segmentWakes)).linWake (n - 16) 0).segWoke n src
  else s.wakeSegment n 0 src

/-- What still needs its grant asks again (R467): the self-tests under way, and the memory test that has not ended. -/
def State.askAgain (s : State) : State :=
  let s := forAll ((List.range 12).filter (fun e => (s.engine e).state == .selfTest)) (fun e s => s.ask .selfTest e false) s
  if s.memTest.result = 2 then s.ask .memTest 0 false else s

/-- The device returns to AWAKE (R480, R487): the segments that the sequence moved and those the wake concerns come back, the
cameras are switched on again, and P0 to P4 train again. Outcomes of the record: 1 aborted, 2 timed out. -/
def State.sleepReturn (s : State) (outcome cause src wakes : Nat) : State :=
  let x := s.sleep
  let back := x.moved ||| wakes
  let s := s.modSleep (fun x => { x with
    recType := b2n x.deep, recOutcome := outcome, recSrc := src, recWoken := back, nmLeft := Vector.replicate 16 0 })
  let s := s.phaseTo .awake cause
  let s := if x.phase = .prepare then s.askAgain else s
  let s := forAll (maskList 64 wakes) (fun n s => s.wakeSegment n 1 src) s
  let s := forAll (maskList 64 (x.moved &&& (2 ^ 64 - 1))) (fun n s => s.returnSegment n src) s
  let s := forAll (List.range 12) (fun k s =>
    if bitOf x.cameras k then
      let s := if (s.podlOf (k + 5)).state = .off ∧ !(s.podlOf (k + 5)).hostOff then s.podlOn (k + 5) else s
      s.modPodl (k + 5) (fun p => { p with wasOn := false })
    else s) s
  let s := forAll (List.range 5) (fun p s => if s.canTrain p then s.startTraining p (if cause = 0 then 0 else 5) else s) s
  s.modSleep (fun x => { x with moved := 0, cameras := 0 })

/-- The sequence is aborted (R484, R487). -/
def State.sleepAbort (s : State) (cause src wakes : Nat) : State :=
  ((s.count (.sleep .aborts)).sleepReturn 1 cause src wakes).sleepOutcome 0x0301 src (w16 src)

/-- TIMEOUT_MS has passed (R483). -/
def State.sleepTimeout (s : State) : State :=
  if s.sleep.force then
    let s := s.count (.sleep .forced)
    let s := forAll (List.range 16) (fun c s => (s.canFlush c 0xFF).2) s
    let s := forAll (List.range 6) (fun c s => s.modUart c (fun x => { x with queue := [], sending := false })) s
    let s := s.modSleep (fun x => { x with nmLeft := Vector.replicate 16 0 })
    let s := forAll segCodes (fun n s => if s.segState n = .asleep then s else s.segAsleep n) s
    (s.phaseTo .prepare 3).prepareActions
  else
    let left := s.segMask .going
    let s := (s.count (.sleep .timeouts)).sleepReturn 2 3 0 0
    s.sleepOutcome 0x0106 0 (w64 left)

/-- The counter of a wake source (R493). -/
def wakeCtr (source : Nat) : SleepCtr :=
  if source = 1 then .wakesPin else if source = 2 then .wakesCanFrame else if source = 3 then .wakesCanPattern
  else if source = 4 then .wakesLin else if source = 5 then .wakesTc10 else .wakesHost

/-- The 32.768 kHz clocks that PD0 has counted in the last sleep (R268): with the crystal the exact number, without it any within 2 %
of that (R528, log 48). -/
def State.sleptClocks (s : State) : Nat × State :=
  let exact := (s.tick - s.sleep.sinceTick) * 16 / 390625
  if s.pd0.crystal then (exact, s)
  else
    let r := s.freeNat
    (exact - exact / 50 + r.1 % (2 * (exact / 50) + 1), r.2)

/-- A wake reaches the sleeping device (R475, R480, R486, R489): the first one is reported, and INH0 is asserted, or will be when
its millisecond has ended. -/
def State.deviceWake (s : State) (source index wakes : Nat) (frame : Option (Nat × Bytes)) : State :=
  let first := !s.pd0.waking
  let s := s.modSleep (fun x => { x with wakeMask := x.wakeMask ||| wakes })
  if !first then s
  else
    let s : State := { s with pws := { s.pws with wakeSource := BitVec.ofNat 8 source, wakeIndex := BitVec.ofNat 8 index } }
    let s := s.modPd0 (fun p => { p with waking := true })
    let slept := s.sleptClocks
    let s := slept.2.modSleep (fun x => { x with
      recSrc := source + 256 * index, recSlept := slept.1
      recId := match frame with | some f => f.1 | none => x.recId
      recData := match frame with | some f => padTo 8 f.2 | none => x.recData })
    if s.sleep.inhHold then s.modSleep (fun x => { x with wakeDue := true }) else s.assertInh

/-- A wake is registered (R475 to R487): awake, it wakes the segment it came on; before the point of no return it aborts the
sleep; afterwards it wakes the device. `seg` is its segment, `wakes` the segments it concerns. -/
def State.registerWake (s : State) (source index : Nat) (seg : Option Nat) (wakes : Nat) (frame : Option (Nat × Bytes)) :
    State :=
  let src := source + 256 * index
  match s.sleep.phase with
  | .sleeping => (s.deviceWake source index wakes frame).count (.sleep (wakeCtr source))
  | .awake =>
    match seg with
    | none => s
    | some n =>
      if s.segState n = .awake then s else (s.count (.sleep (wakeCtr source))).wakeSegment n 1 src
  | _ =>
    match seg with
    | none => (s.count (.sleep (wakeCtr source))).sleepAbort 2 src wakes
    | some n =>
      if s.segState n = .awake then s else (s.count (.sleep (wakeCtr source))).sleepAbort 2 src wakes

/-- The 40-byte wake record (R489). -/
def Sleep.wakeRecord (x : Sleep) : Bytes :=
  w8 x.recType ++ w8 x.recOutcome ++ w16 x.recSrc ++ w32 x.recId ++ padTo 8 x.recData ++ w64 x.recEntered ++ w64 x.recSlept
    ++ w64 x.recWoken

/-- A level-mode pin that is active (R476). -/
def WakePin.active (x : WakePin) : Bool :=
  byteAt x.record 0 == 1 && ((byteAt x.record 1 == 3 && x.level) || (byteAt x.record 1 == 4 && !x.level))

/-- The GPIO outputs become high-impedance (R85). -/
def State.floatPins (s : State) : State :=
  forAll ((List.range 8).filter (fun k => (vget s.board.gpio k).direction != 0)) (fun k s => s.emit (.pinFloat (16 + k))) s

/-- The pin records are applied again at resume (R85): outputs take the level they last had, and an input starts from the level it is
at. DESIGN CHOICE, log 71. -/
def State.applyPins (s : State) : State :=
  let s : State := { s with board := { s.board with gpio := s.board.gpio.map (fun g => { g with floating := false, settled := g.level }) } }
  forAll ((List.range 8).filter (fun k => (vget s.board.gpio k).direction != 0))
    (fun k s => s.emit (.pin (16 + k) (vget s.board.gpio k).out)) s

/-- Firmware's state stored in retention SRAM above IMAGE_SIZE (R99), and the length of the sealed region, at most 4 MiB (R103). -/
def State.storeState (s : State) (kept : Bytes) : Nat × State :=
  let kept := kept.take (4194304 - s.boot.received)
  (s.boot.received + kept.length, { s with store := { s.store with sram := s.store.sram.writeAll s.boot.received kept } })

/-- The device sleeps (R102, R486): PD0 latches the commit, releases INH0 and, unless it is held on, INH1; retention is sealed,
and after deep sleep the start is cold. `kept` is the state that firmware retains. -/
def State.commitSleep (s : State) (kept : Bytes) : State :=
  let deep := s.sleep.deep
  let r := if deep then (0, s) else s.storeState kept
  let s := r.2
  let s := s.count (.sleep .sleeps)
  let key := firmwareKey s.rootKey "MRC-SEAL" (beBytes 4 (s.retSeal.counter + 1).toNat)
  let s : State := if deep then s else { s with retSeal :=
    { marker := true, tag := cmac key (s.store.sram.readAll 0 r.1), length := r.1, counter := s.retSeal.counter + 1 } }
  let s := s.modSleep (fun x => { x with
    recType := b2n deep, recOutcome := 0, recSrc := 0, recEntered := s.now, sinceTick := s.tick, recSlept := 0, recWoken := 0
    recId := 0, recData := zeros 8, inhHold := true, wakeDue := false, wakeMask := 0 })
  let s := s.modPd0 (fun p => { p with waking := false })
  let s := s.floatPins
  let s := if deep then s.coldState else s.suspend
  let s := s.modSleep (fun x => { x with phase := .sleeping })
  let s := s.inh0To false
  if s.sleep.inhMode = 2 then s else s.inh1To false

/-- The millisecond of released INH0 ends (R486). -/
def State.inhHoldEnd (s : State) : State :=
  let due := s.sleep.wakeDue
  let s := s.modSleep (fun x => { x with inhHold := false, wakeDue := false })
  if due then s.assertInh else s

/-- The local clock after retention sleep (R268, R270): the value at sleep entry and the counted clocks of 30,517.578125 ns; firmware
puts the increment and the epoch back. -/
def State.restoreClock (s : State) : State :=
  let r := s.sleptClocks
  r.2.modTime (fun u =>
    let k := u.kept
    let total := k.ns * 2 ^ 32 + k.frac + r.1 * 1953125 * 2 ^ 26
    { u with
      ns := total / 2 ^ 32 % 2 ^ 64, frac := total % 2 ^ 32, run := true, incr := k.incr, nextIncr := k.incr
      heldFrac := k.incr.setWidth 32, epoch := k.epoch })

/-- Lists that run on local time take their position at the restored clock (R248, R268). -/
def State.repositionAll (s : State) : State :=
  let s := forAll (List.range 25) (fun p s =>
    let g := s.pg p
    let s := if g.state == .pending && decide (g.changeAt < s.now) then
        (s.modPg p (fun g => { g with changeLate := true })).gateChange p
      else s
    s.modPg p (fun g => g.reposition s.now)) s
  s.modNet (fun n => { n with sgates := n.sgates.map (fun g => g.reposition s.now) })

/-- After a retention resume the first attempt of every T1 port may be fast, and no command began it (R309, R322). -/
def State.linksResume (s : State) : State :=
  s.modNet (fun n => { n with phys := n.phys.map (fun x => { x with mayFast := true, byCommand := false }) })

/-- Firmware resumes from retention (R80, R104, R268, R273, R278, R452, R464, R467, R480, R488, R492). -/
def State.resumeFirmware (s : State) : State :=
  let s : State := { s with hiu := { s.hiu with permit := s.hiu.kept } }
  let s := s.modPower (fun p => { p with ceiling := p.keptCeiling })
  let s := { s with boot := { s.boot with resumed := true } }.bootStateTo .running
  let s := (s.modCrypt (fun c => { c with starts := c.starts + 1 })).drawMasks
  let s := (s.restoreClock.newEpoch 0).repositionAll.gptpResume.redResume.linksResume.applyPins
  let s := s.setCauseAll 9
  let wakes := s.sleep.wakeMask
  let s := s.modSleep (fun x => { x with recWoken := wakes, wakeMask := 0, moved := 0, cameras := 0 })
  let s := s.modPd0 (fun p => { p with waking := false })
  let s := s.phaseTo .awake 2
  let s := forAll (maskList 64 wakes) (fun n s => s.wakeSegment n 1 s.sleep.recSrc) s
  s.askAgain.sleepOutcome 0 0 s.sleep.wakeRecord

end Sys2Proof.Machine
end

