-- ==== Sys2Proof/Machine/SleepCmds.lean ====
section
/-! DEFINITION. The SLEEP commands and the wake and sleep events (chapter 21 of the spec; R313, R314, R364). -/

namespace Sys2Proof.Machine

/-! Events of the wake detectors. -/

/-- PD0 has power and the device sleeps. -/
def State.sleeping (s : State) : Bool := s.pd0.vbatGood && s.sleep.phase == .sleeping

/-- PD0 watches segment `n` (R472, R475). -/
def State.watches (s : State) (n : Nat) : Bool := s.sleeping || (s.running && s.segState n == .asleep)

/-- A wake on the wire of segment `n`. -/
def State.wireWake (s : State) (source index n : Nat) (frame : Option (Nat × Bytes)) : State :=
  s.registerWake source index (some n) (2 ^ n) frame

/-- A counted change of a wake pin (R476): an edge of its mode, or its level held. -/
def WakePin.counts (x : WakePin) (level : Bool) : Bool :=
  let m := byteAt x.record 1
  byteAt x.record 0 == 1 &&
    ((level != x.level && (m == 2 || (m == 0 && level) || (m == 1 && !level))) || (m == 3 && level) || (m == 4 && !level))

/-- WAKE_PIN_EVENT (R476, R484): awake, the change is reported; otherwise it is a wake. -/
def execWakePinEvent (pin : Fin 4) (level : Bool) (s : State) : Res :=
  .next (if !s.pd0.vbatGood then s
    else
      let x := vget s.sleep.pins pin.val
      let s := s.modSleep (fun z => { z with pins := vmod z.pins pin.val (fun y => { y with level := level }) })
      if !x.counts level then s
      else if s.sleep.phase = .awake then
        (if s.running then s.event 0 0x1003 (w8 pin.val ++ w8 (b2n level)) else s)
      else s.registerWake 1 pin.val none (le x.record 4 8) none)

/-- HOST_WAKE (R477): path 0 PCIe, 1 SPI0, 2 SPI1. -/
def execHostWake (path : Fin 3) (s : State) : Res :=
  .next (if s.pd0.vbatGood && bitOf s.sleep.hostFlags path.val then s.registerWake 6 path.val none s.sleep.hostTargets none
    else s)

/-- The selective-wake record of a channel (R478). -/
def State.wakeRec (s : State) (c : Nat) : Bytes := vget s.sleep.canWake c

/-- The decoder of a channel changed. -/
def State.modDecoder (s : State) (c : Nat) (f : Decoder → Decoder) : State :=
  s.modSleep (fun x => { x with decoders := vmod x.decoders c f })

/-- CAN_WAKE_PATTERN (R474, R478): it wakes, starts the decoder, or is counted on a channel in Standby. -/
def execCanWakePattern (c : CanCh) (s : State) : Res :=
  .next (if s.watches c.val then
      (if byteAt (s.wakeRec c.val) 0 = 1 then s.wireWake 3 c.val c.val none
       else if byteAt (s.wakeRec c.val) 0 = 2 then s.modDecoder c.val (fun d => { d with running := true })
       else s)
    else if s.running && (s.canCh c.val).state == .off then s.count (.sleep .wupStandby)
    else s)

/-- A decoded frame matches the record (R478): identifier under the mask over bits [29:0], DLC, and data under the mask. -/
def wakeMatches (r : Bytes) (id dlc : Nat) (data : Bytes) : Bool :=
  ((id ^^^ le r 4 4) &&& le r 8 4 &&& (2 ^ 30 - 1)) == 0 && dlc == byteAt r 3 &&
    (dlc == 0 || (List.range 8).any (fun k => byteAt data k &&& byteAt r (12 + k) != 0))

/-- The decoder of a channel runs on its wire: started by a wake pattern, or the segment is GOING, where a matching frame is a
wake too (R484; DEDUCED, log 52). -/
def State.decodes (s : State) (c : Nat) : Bool :=
  byteAt (s.wakeRec c) 0 == 2 &&
    ((s.watches c && (vget s.sleep.decoders c).running) || (s.running && s.segState c == .going))

/-- CAN_WAKE_FRAME (R478): a classical frame decoded without error. -/
def execCanWakeFrame (c : CanCh) (id : Nat) (dlc : Fin 9) (data : Bytes) (s : State) : Res :=
  .next (if !s.decodes c.val then s
    else
      let s := s.modDecoder c.val (fun d => { d with errors := d.errors - 1 })
      if wakeMatches (s.wakeRec c.val) id dlc.val (data.take dlc.val) then
        s.wireWake 2 c.val c.val (some (id, data.take dlc.val))
      else s)

/-- WAKE_DECODING_ERROR (R478): with ERR_WAKE the counter that passes 31 wakes; FD_PASSIVE skips FD and XL frames. -/
def execWakeDecodingError (c : CanCh) (fd : Bool) (s : State) : Res :=
  .next (if !(s.watches c.val && (vget s.sleep.decoders c.val).running && byteAt (s.wakeRec c.val) 0 == 2) then s
    else
      let flags := byteAt (s.wakeRec c.val) 2
      if fd && bitOf flags 0 then s
      else
        let s := s.modDecoder c.val (fun d => { d with errors := d.errors + 1 })
        if bitOf flags 1 ∧ (vget s.sleep.decoders c.val).errors = 32 then s.wireWake 3 c.val c.val none else s)

/-- WAKE_DECODER_IDLE (R478). -/
def execWakeDecoderIdle (c : CanCh) (s : State) : Res :=
  .next (s.modDecoder c.val (fun d => { d with running := false }))

/-- LIN_WAKE_DETECT (R364): the detector's enable is bit 1 of FLAGS. -/
def execLinWakeDetect (c : LinCh) (s : State) : Res :=
  .next (if s.watches (16 + c.val) && bitOf (byteAt (s.linCh c.val).record 1) 1 then
    (s.count (.lin c.val .wakes)).wireWake 4 c.val (16 + c.val) none else s)

/-- A port with TC10 (R313). -/
def hasTc10 (p : Nat) : Bool := decide (5 ≤ p)

/-- TC10_SLEEP_REQUEST (R313): accepted with ACCEPT_SLEEP set. -/
def execTc10SleepRequest (p : Port) (s : State) : Res :=
  .next (if hasTc10 p.val && s.isUp p.val && (s.phy p.val).acceptSleep then s.portSleep p.val 2 3 else s)

/-- TC10_WAKE_DETECT (R314). -/
def execTc10WakeDetect (p : Port) (s : State) : Res :=
  .next (if hasTc10 p.val && s.watches (segOfPort p.val) && (s.phy p.val).wakeEn then
    (s.count (.phy p.val .tc10WakeRx)).wireWake 5 p.val (segOfPort p.val) none else s)

/-! Events of the sleep sequence. -/

/-- NM_REPEAT (R482): INTERVAL_MS has passed on a channel with frames to come. -/
def execNmRepeat (c : CanCh) (s : State) : Res :=
  .next (if s.segState c.val = .going ∧ 0 < vget s.sleep.nmLeft c.val then (s.sendNm c.val).sleepAdvance else s)

/-- SEGMENT_QUIET (R483). -/
def execSegmentQuiet (n : Fin 64) (s : State) : Res :=
  .next (if segReal n.val ∧ s.segState n.val = .going ∧ s.segQuiet n.val then (s.segAsleep n.val).sleepAdvance else s)

/-- SLEEP_TIMEOUT (R483): something is still not quiet. -/
def execSleepTimeout (s : State) : Res :=
  .next (if s.sleep.phase = .indicate ∨ s.sleep.phase = .quiet then s.sleepTimeout else s)

/-- PREPARE_DONE (R102, R485, R486): `sram` is the state that firmware has stored for its resume. -/
def execPrepareDone (sram : Bytes) (s : State) : Res :=
  .next (if s.sleep.phase = .prepare then s.commitSleep sram else s)

/-- INH0_HOLD_END (R486). -/
def execInh0HoldEnd (s : State) : Res := .next (if s.pd0.vbatGood ∧ s.sleep.inhHold then s.inhHoldEnd else s)

/-- INH1_DELAY_EXPIRY (R491). -/
def execInh1DelayExpiry (s : State) : Res :=
  .next (if s.pd0.vbatGood ∧ s.pd0.inh0 ∧ s.sleep.inhMode = 0 then s.inh1To true else s)

/-! Commands. -/

/-- Reserved bits of a segment mask are 0 (R471). -/
def maskOk (m : Nat) : Bool := m &&& Sleep.allSegments == m

/-- SLEEP_GET_CAPS (R538). -/
def cmdSleepGetCaps : Cmd :=
  { op := 0x1000, lengthOk := lenIs 0, check := fun _ _ _ => none
    run := fun s _ _ _ => (s, .done (stOk ([40, 4, 10, 10000, 100, 60000].flatMap w32))) }

/-- SLEEP_REQUEST (R481). -/
def cmdSleepRequest : Cmd :=
  { op := 0x1001, lengthOk := lenIs 8
    check := fun s n p => firstFail [mustBeS0 n, need (s.sleep.phase == .awake) (stWrongState 0x1001 0 s.sleep.phase.code),
      flag p 0, flag p 1, between (le p 2 2) 10 10000 2, between (le p 4 2) 100 60000 4]
    run := fun s n tag p =>
      (s.beginSleep (byteAt p 0 == 1) (byteAt p 1 == 1) (le p 2 2) (le p 4 2) (some (n, tag)), .accepted) }

/-- The first level-mode pin that is active (R484). -/
def State.activePin (s : State) : Option Nat := (List.range 4).find? (fun k => (vget s.sleep.pins k).active)

/-- A sleep has just begun: an active level-mode pin aborts it, and what is quiet already moves on (R483, R484). -/
def State.sleepBegun (s : State) : State :=
  match s.activePin with
  | some k => s.registerWake 1 k none (le (vget s.sleep.pins k).record 4 8) none
  | none => s.sleepAdvance

/-- SLEEP_REQUEST. -/
def execSleepRequest (slot : Slot) (tag : Half) (payload : Bytes) (s : State) : Res :=
  let t := penyen cmdSleepRequest slot.val tag payload s
  .next (if s.sleep.phase = .awake ∧ t.sleep.phase = .indicate then t.sleepBegun else t)

/-- SLEEP_CANCEL (R484): a wake by host access with INDEX 0xFF, which concerns host access's targets (R477, R480). With no sleep in progress: ST_WRONG_STATE (log 25). -/
def cmdSleepCancel : Cmd :=
  { op := 0x1002, lengthOk := lenIs 0
    check := fun s n _ => firstFail [mustBeS0 n, need (s.sleep.phase != .awake) (stWrongState 0x1001 0 s.sleep.phase.code)]
    run := fun s _ _ _ => ((s.count (.sleep .wakesHost)).sleepAbort 0 commandWake s.sleep.hostTargets, .done (stOk [])) }

/-- SLEEP_GET_STATUS. -/
def cmdSleepGetStatus : Cmd :=
  { op := 0x1003, lengthOk := lenIs 0, check := fun s n _ => mayReadDevice s n
    run := fun s _ _ _ =>
      (s, .done (stOk (w8 s.sleep.phase.code ++ w8 (maskOf 4 (fun k => (vget s.sleep.pins k).level)) ++ [0, 0]
        ++ w64 (s.segMask .going) ++ w64 (s.segMask .asleep)))) }

/-- SLEEP_SEGMENT (R473): QUIET_MS concerns putting to sleep. -/
def cmdSleepSegment : Cmd :=
  { op := 0x1004, lengthOk := lenIs 16
    check := fun s n p => firstFail [need (maskOk (le p 0 8)) (stBadParam 0),
      need ((maskList 64 (le p 0 8)).all (fun k => s.owns n (segResource k).1 (segResource k).2)) stNotOwner,
      flag p 8, if byteAt p 8 = 1 then between (le p 12 2) 10 10000 12 else none]
    run := fun s n tag p =>
      if byteAt p 8 = 1 then
        let s := forAll (maskList 64 (le p 0 8)) (fun k s => s.sleepSegment k 0) s
        let j : SegJob := { mask := le p 0 8, slot := n, tag := tag, quiet := le p 12 2 }
        (s.modSleep (fun x => { x with jobs := x.jobs ++ [j] }), .accepted)
      else
        let s := s.wakeSegments (le p 0 8) 0 commandWake
        (s, .done (stOk (w64 (s.segMask .asleep)))) }

/-- SLEEP_SEGMENT: where every named segment is ASLEEP already, its work is done. -/
def execSleepSegment (slot : Slot) (tag : Half) (payload : Bytes) (s : State) : Res :=
  .next (penyen cmdSleepSegment slot.val tag payload s).segSettle

/-- SLEEP_SET_PIN (R476). -/
def cmdSleepSetPin : Cmd :=
  { op := 0x1005, lengthOk := lenIs 16
    check := fun _ n p => firstFail [inRange (byteAt p 0) 4 0, mustBeS0 n, flag p 4, between (byteAt p 5) 0 4 5,
      between (le p 6 2) 10 10000 6, need (maskOk (le p 8 8)) (stBadParam 8)]
    run := fun s _ _ p =>
      (s.modSleep (fun x => { x with
        pins := vmod x.pins (byteAt p 0) (fun y => { y with record := slice p 4 12 }) }), .done (stOk [])) }

/-- SLEEP_SET_CAN_WAKE (R478): bits above those of the fields are 0. -/
def cmdSleepSetCanWake : Cmd :=
  { op := 0x1006, lengthOk := lenIs 36
    check := fun s n p => firstFail [inRange (byteAt p 0) 16 0, mustOwn s n 2 (byteAt p 0), between (byteAt p 4) 0 2 4,
      between (byteAt p 5) 0 3 5, between (byteAt p 6) 0 3 6, between (byteAt p 7) 0 8 7, between (le p 8 4) 0 (2 ^ 30 - 1) 8,
      between (le p 12 4) 0 (2 ^ 30 - 1) 12]
    run := fun s _ _ p =>
      (s.modSleep (fun x => { x with canWake := vset x.canWake (byteAt p 0) (slice p 4 20 ++ zeros 12) }), .done (stOk [])) }

/-- SLEEP_SET_NM (R482). -/
def cmdSleepSetNm : Cmd :=
  { op := 0x1007, lengthOk := lenIs 28
    check := fun s n p => firstFail [inRange (byteAt p 0) 16 0, mustOwn s n 2 (byteAt p 0), between (byteAt p 4) 0 16 4,
      between (byteAt p 5) 0 7 5, between (le p 6 2) 1 1000 6, need (canIdOk (le p 8 4)) (stBadParam 8),
      need (decide (byteAt p 12 < 32) && decide (byteAt p 12 % 4 ≤ 1)) (stBadParam 12), between (byteAt p 13) 0 8 13]
    run := fun s _ _ p =>
      (s.modSleep (fun x => { x with nm := vset x.nm (byteAt p 0) (slice p 4 18 ++ zeros 6) }), .done (stOk [])) }

/-- SLEEP_SET_HOST_WAKE (R477). -/
def cmdSleepSetHostWake : Cmd :=
  { op := 0x1008, lengthOk := lenIs 12
    check := fun _ n p => firstFail [mustBeS0 n, between (byteAt p 0) 0 7 0, need (maskOk (le p 4 8)) (stBadParam 4)]
    run := fun s _ _ p =>
      (s.modSleep (fun x => { x with hostFlags := byteAt p 0, hostTargets := le p 4 8 }), .done (stOk [])) }

/-- SLEEP_SET_INH (R491): INH1 takes the level of its mode. -/
def cmdSleepSetInh : Cmd :=
  { op := 0x1009, lengthOk := lenIs 4
    check := fun _ n p => firstFail [mustBeS0 n, between (byteAt p 0) 0 2 0, between (le p 2 2) 0 10 2]
    run := fun s _ _ p =>
      let s := s.modSleep (fun x => { x with inhMode := byteAt p 0, inhDelay := le p 2 2 })
      (s.inh1To (byteAt p 0 == 2 || (byteAt p 0 == 0 && s.pd0.inh0)), .done (stOk [])) }

/-- SLEEP_GET_WAKE_RECORD. -/
def cmdSleepGetWakeRecord : Cmd :=
  { op := 0x100A, lengthOk := lenIs 0, check := fun s n _ => mayReadDevice s n
    run := fun s _ _ _ => (s, .done (stOk s.sleep.wakeRecord)) }

/-- The sleep counters in table order (R493). -/
def sleepCtrs : List Ctr :=
  [.sleeps, .aborts, .timeouts, .forced, .wakesPin, .wakesCanFrame, .wakesCanPattern, .wakesLin, .wakesTc10, .wakesHost,
    .wupStandby, .segmentWakes].map Ctr.sleep

/-- SLEEP_GET_COUNTERS. -/
def cmdSleepGetCounters : Cmd :=
  { op := 0x100B, lengthOk := lenIs 0, check := fun s n _ => mayReadDevice s n
    run := fun s _ _ _ => (s, .done (stOk (counterBytes s sleepCtrs))) }

/-- SLEEP_CLEAR_COUNTERS: S0's, as counters of no slot's resource (DEDUCED, log 44). -/
def cmdSleepClearCounters : Cmd :=
  { op := 0x100C, lengthOk := lenIs 0, check := fun _ n _ => mustBeS0 n
    run := fun s _ _ _ => (s.clearCtrs (fun k => sleepCtrs.contains k), .done (stOk [])) }

/-- SLEEP_GET_CAPS. -/
def execSleepGetCaps (slot : Slot) (tag : Half) (payload : Bytes) (s : State) : Res :=
  .next (penyen cmdSleepGetCaps slot.val tag payload s)

/-- SLEEP_CANCEL. -/
def execSleepCancel (slot : Slot) (tag : Half) (payload : Bytes) (s : State) : Res :=
  .next (penyen cmdSleepCancel slot.val tag payload s)

/-- SLEEP_GET_STATUS. -/
def execSleepGetStatus (slot : Slot) (tag : Half) (payload : Bytes) (s : State) : Res :=
  .next (penyen cmdSleepGetStatus slot.val tag payload s)

/-- SLEEP_SET_PIN. -/
def execSleepSetPin (slot : Slot) (tag : Half) (payload : Bytes) (s : State) : Res :=
  .next (penyen cmdSleepSetPin slot.val tag payload s)

/-- SLEEP_SET_CAN_WAKE. -/
def execSleepSetCanWake (slot : Slot) (tag : Half) (payload : Bytes) (s : State) : Res :=
  .next (penyen cmdSleepSetCanWake slot.val tag payload s)

/-- SLEEP_SET_NM. -/
def execSleepSetNm (slot : Slot) (tag : Half) (payload : Bytes) (s : State) : Res :=
  .next (penyen cmdSleepSetNm slot.val tag payload s)

/-- SLEEP_SET_HOST_WAKE. -/
def execSleepSetHostWake (slot : Slot) (tag : Half) (payload : Bytes) (s : State) : Res :=
  .next (penyen cmdSleepSetHostWake slot.val tag payload s)

/-- SLEEP_SET_INH. -/
def execSleepSetInh (slot : Slot) (tag : Half) (payload : Bytes) (s : State) : Res :=
  .next (penyen cmdSleepSetInh slot.val tag payload s)

/-- SLEEP_GET_WAKE_RECORD. -/
def execSleepGetWakeRecord (slot : Slot) (tag : Half) (payload : Bytes) (s : State) : Res :=
  .next (penyen cmdSleepGetWakeRecord slot.val tag payload s)

/-- SLEEP_GET_COUNTERS. -/
def execSleepGetCounters (slot : Slot) (tag : Half) (payload : Bytes) (s : State) : Res :=
  .next (penyen cmdSleepGetCounters slot.val tag payload s)

/-- SLEEP_CLEAR_COUNTERS. -/
def execSleepClearCounters (slot : Slot) (tag : Half) (payload : Bytes) (s : State) : Res :=
  .next (penyen cmdSleepClearCounters slot.val tag payload s)

end Sys2Proof.Machine
end

