-- ==== Sys2Proof/Machine/Boot.lean ====
section
/-! DEFINITION. The boot ROM (chapter 04 of the spec): its registers, the landing buffer, the image checks, and the start of
firmware. -/

namespace Sys2Proof.Machine

/-- The boot ROM's state changed. -/
def State.modBoot (s : State) (f : Boot → Boot) : State := { s with boot := f s.boot }

/-! Registers (R48). -/

/-- BOOT_STATE as it reads. -/
def State.bootStateReg (s : State) : Nat :=
  b2n s.boot.owned * 2 ^ 13 + s.boot.owner.val * 2 ^ 8 + s.boot.state.code
/-- BOOT_STRAPS as it reads. -/
def State.bootStrapsReg (s : State) : Nat := b2n s.boot.sealFail * 8 + b2n s.boot.resumed * 4 + s.boot.bootsel.toNat
/-- BOOT_XFER as it reads. -/
def State.bootXferReg (s : State) : Nat :=
  b2n s.boot.go * 2 ^ 31 + b2n s.boot.last * 2 ^ 30 + b2n s.boot.first * 2 ^ 29 + s.boot.len.toNat
/-- BOOT_FW_VER as it reads: 0 until RUNNING. -/
def State.fwVerReg (s : State) : Nat := if s.running then s.boot.fwVersion.toNat else 0

/-! The image (R99, R100). -/

/-- The size of the landing buffer and of the largest chunk (R48). -/
def landingSize : Nat := 262144

/-- Load-map entry `i`: SEG_OFFSET, SEG_SIZE, TARGET. -/
def segOf (h : Bytes) (i : Nat) : Nat × Nat × Nat := (le h (32 + 12 * i) 4, le h (36 + 12 * i) 4, le h (40 + 12 * i) 4)

/-- The digest of load-map entry `i`. -/
def digestOf (h : Bytes) (i : Nat) : Bytes := slice h (128 + 32 * i) 32

/-- A used entry lies inside the image and fits its target (R99). -/
def segFits (h : Bytes) (i : Nat) : Bool :=
  let (off, size, tgt) := segOf h i
  let n := le h 16 4
  let ty := tgt / 2 ^ 28
  let a := tgt % 2 ^ 28
  decide (off + size ≤ n) &&
    (if ty = 1 ∨ ty = 2 then decide (a + size ≤ 524288)
     else if ty = 3 then decide (a + size ≤ 262144)
     else ty == 4 && decide (n ≤ a) && decide (a + size ≤ 4194304))

/-- Two entries overlap in the image. -/
def segsOverlap (h : Bytes) (i j : Nat) : Bool :=
  let a := segOf h i
  let b := segOf h j
  decide (a.1 < b.1 + b.2.1) && decide (b.1 < a.1 + a.2.1)

/-- Check 2 of R100. -/
def formatOk (h : Bytes) (lcs : Nat) : Bool :=
  let n := byteAt h 21
  le h 4 2 == 2 && le h 6 2 == 512 && le h 12 4 / 2 ^ 24 == 2 && decide (le h 22 2 ≤ 1)
    && decide (1 ≤ n) && decide (n ≤ 8) && decide (byteAt h 20 ≤ 3) && decide (le h 8 4 ≤ 64)
    && (List.range n).all (segFits h)
    && (List.range 8).all (fun i => decide (i < n) || (slice h (32 + 12 * i) 12 == zeros 12 && digestOf h i == zeros 32))
    && (List.range n).all (fun i => (List.range i).all (fun j => !segsOverlap h i j))
    && !(bitOf (le h 22 2) 0 && lcs == 3)

/-- Checks 1 to 6 of R100 on the header of a first chunk: the code of the first failure. -/
def State.headerCode (s : State) (h : Bytes) : Option Nat :=
  let k := byteAt h 20
  if le h 0 4 ≠ 0x4C43524D then some 0x10
  else if !formatOk h s.boot.lcs.toNat then some 0x11
  else if le h 16 4 < 1024 ∨ 3670016 < le h 16 4 then some 0x12
  else if s.boot.keyrev.getLsbD k then some 0x15
  else if Config.sha256 (slice h 384 64) ≠ Config.vendorKeyHash (Fin.ofNat 4 k) then some 0x14
  else if le h 8 4 < s.boot.secver.toNat then some 0x16
  else none

/-- Check 8 of R100: every segment that completes between two lengths of the image has its digest; one that is complete with the first
chunk, an empty one too, is checked there. -/
def digestsOk (image : Bytes) (before : Nat) : Bool :=
  (List.range (byteAt image 21)).all (fun i =>
    let (off, size, _) := segOf image i
    !((decide (before < off + size) || before == 0) && decide (off + size ≤ image.length))
      || beBytes 32 (Config.sha256 (slice image off size)).toNat == digestOf image i)

/-- Checks 7 and 9 of R100: the ECDSA signature over SHA-256 of bytes 0 to 447. -/
def signatureOk (image : Bytes) : Bool :=
  Config.ecdsaVerify (slice image 384 64) (Config.sha256 (image.take 448)) (slice image 448 64)

/-- The image bytes received so far (R99). -/
def State.image (s : State) : Bytes := s.store.sram.readAll 0 s.boot.received

/-- The memories changed. -/
def State.modStore (s : State) (f : Store → Store) : State := { s with store := f s.store }

/-- Segment `i` of the stored image copied to its target (R99). -/
def Store.loadSeg (x : Store) (header : Bytes) (i : Nat) : Store :=
  let g := segOf header i
  let data := x.sram.readAll g.1 g.2.1
  let ty := g.2.2 / 2 ^ 28
  let a := g.2.2 % 2 ^ 28
  if ty = 1 ∨ ty = 2 then { x with tcm := vmod x.tcm (ty - 1) (fun m => m.writeAll a data) }
  else if ty = 3 then { x with microcode := x.microcode.writeAll a data }
  else if ty = 4 then { x with sram := x.sram.writeAll a data }
  else x

/-- The segments whose targets lose power in sleep, or all of them, are loaded, and both cores are released at their entries (R99, R100,
R104). -/
def Store.load (x : Store) (all : Bool) : Store :=
  let h := x.sram.readAll 0 512
  let sel := (List.range (byteAt h 21)).filter (fun i => all || (segOf h i).2.2 / 2 ^ 28 != 4)
  let x := sel.foldl (fun x i => x.loadSeg h i) x
  { x with cores := vtab 2 (fun k => { running := true, entry := BitVec.ofNat 32 (le h (24 + 4 * k) 4), halted := false }) }

/-! The download (R93 to R96). -/

/-- A download ends with a code (R91, R94, R96, R100): the bytes are discarded, OWNED clears, WAIT_IMAGE. -/
def State.bootFail (s : State) (code : Nat) : State :=
  (s.modBoot (fun b => { b with result := BitVec.ofNat 8 code, received := 0, owned := false, go := false })).bootStateTo .waitImage

/-- The checks of R96 on a GO: `have_` bytes are in, `size` is IMAGE_SIZE. -/
def sequenceBad (first last : Bool) (len have_ size : Nat) : Bool :=
  len == 0 || decide (landingSize < len) || (first && decide (len < 512)) || decide (size < have_ + len)
    || (last && decide (have_ + len < size))

/-- A GO from a transport that may write BOOT_XFER (R91, R93, R96): FIRST claims the buffer or restarts the download. The checks of
R96 are made at once. -/
def State.bootGo (s : State) (t : Transport) : State :=
  let b := s.boot
  let len := b.len.toNat
  if b.state = .waitImage ∧ !b.first then s.bootFail 0x17
  else
    let s := if b.first then s.modBoot (fun b => { b with received := 0 }) else s
    let s := if b.state = .waitImage ∧ 512 ≤ len then
        (s.modBoot (fun b => { b with owned := true, owner := t })).bootStateTo .receiving
      else s
    let size := if b.first then leNat (s.ram.readAll 16 4) else leNat (s.store.sram.readAll 16 4)
    if sequenceBad b.first b.last len s.boot.received size then s.bootFail 0x17
    else s.modBoot (fun b => { b with go := true })

/-- A refusal by ownership is answered ST_BUSY in the SPI status word (R93, R98). -/
def State.spiBusy (s : State) (t : Transport) : State :=
  if t.val < 16 then s else { s with spiLast := vset s.spiLast (t.val - 16) 0x0106 }

/-- BOOT_XFER and the landing buffer are refused to a transport (R48, R535). -/
def State.bootRefused (s : State) (t : Transport) : Bool :=
  match s.boot.state with
  | .waitImage => false
  | .receiving => s.boot.owned && s.boot.owner != t
  | _ => true

/-- The refusal itself (R48, R93, R535). -/
def State.bootRefuse (s : State) (t : Transport) (addr : Nat) : State :=
  let s := if s.boot.owned && s.boot.owner != t && !s.running then s.spiBusy t else s
  s.permErr t addr

/-- A write of BOOT_XFER (R48, R93, R95, R96). -/
def State.bootXferWrite (s : State) (t : Transport) (addr v : Nat) : State :=
  if s.bootRefused t then s.bootRefuse t addr
  else if s.boot.go then s
  else
    let s := s.modBoot (fun b => { b with last := bitOf v 30, first := bitOf v 29, len := BitVec.ofNat 19 v })
    if bitOf v 31 then s.bootGo t else s

/-- Bytes written to the landing buffer before firmware runs (R95, R535): a change while GO reads 1 is undefined. -/
def State.landingWrite (s : State) (t : Transport) (off : Nat) (data : Bytes) : Res :=
  if s.bootRefused t then .next (s.bootRefuse t (0x100000 + off))
  else if s.boot.go && s.ram.readAll off data.length != data then .fault .landingBufferChanged
  else .next { s with ram := s.ram.writeAll off data }

/-- The signature check, which runs in parallel from the first chunk, has ended by now (R100): free (log 10). -/
def State.signatureKnown (s : State) : Bool × State := let r := s.freeNat; (r.1 % 2 == 1, r.2)

/-- A chunk is copied and hashed (R99, R100): header checks on the first, a signature found bad meanwhile, digests as segments
complete, and VERIFYING after the last. -/
def State.chunkDone (s : State) : State :=
  let b := s.boot
  let old := b.received
  let data := s.ram.readAll 0 b.len.toNat
  let s := s.modStore (fun x => { x with sram := x.sram.writeAll old data })
  let s := s.modBoot (fun b => { b with go := false, received := old + data.length })
  let image := s.image
  match if b.first then s.headerCode image else none with
  | some c => s.bootFail c
  | none =>
    let bad := if signatureOk image then (false, s) else s.signatureKnown
    if bad.1 then bad.2.bootFail 0x14
    else if !digestsOk image old then bad.2.bootFail 0x13
    else if b.last then bad.2.bootStateTo .verifying
    else bad.2

/-- VERIFYING ends (R100): with every check passed the segments are at their targets, the landing buffer is zeroed, OK is set and the
cores are released at their entries. -/
def State.verifyDone (s : State) : State :=
  let m := s.image
  if !signatureOk m then s.bootFail 0x14
  else
    let s : State := { s with ram := s.ram.filter (fun c => decide (landingSize ≤ c.1)) }
    (s.modStore (fun x => x.load true)).modBoot (fun b => { b with
      result := 1, released := true, runSecver := le m 8 4, runKey := byteAt m 20, fwVersion := BitVec.ofNat 32 (le m 12 4)
      deliveredBy := b.owner })

/-! Firmware starts (R29, R50, R112, R273, R453, R460). -/

/-- The boot record of DIAG_GET_BOOT_RECORD, as read now (R112). Each register is taken as 4 bytes and the fields that follow in
their natural widths (DEDUCED, log 22). -/
def State.bootRecord (s : State) : Bytes :=
  w32 s.bootStateReg ++ w32 s.bootStrapsReg ++ w32 s.boot.result.toNat ++ w32 s.boot.secver.toNat ++ w32 s.boot.keyrev.toNat
    ++ w32 s.boot.lcs.toNat ++ w32 s.retSeal.counter.toNat ++ w32 s.pws.resetCause.toNat ++ w32 s.boot.runSecver ++ w8 s.boot.runKey

/-- The binding to the transport that delivered the image. -/
def Transport.binding (t : Transport) : Binding :=
  if h : t.val < 16 then .pcie ⟨t.val, h⟩ else .spi (Fin.ofNat 2 (t.val - 16))

/-- Firmware starts after a cold start: it binds S0, permits S0's writes, opens the first epoch, draws the masks and asks for the
memory test. -/
def State.firmwareStart (s : State) : State :=
  let s := s.modBoot (fun b => { b with record := s.bootRecord })
  let s := s.modSlot 0 (fun x => { x with state := .opened, binding := Transport.binding s.boot.deliveredBy })
  let s : State := { s with hiu := { s.hiu with permit := 1 } }
  let s := s.bootStateTo .running
  let s := s.newEpoch 0
  let s := (s.modCrypt (fun c => { c with starts := c.starts + 1 })).drawMasks
  let s := s.modKeys (fun k => { k with startup := true })
  s.ask .memTest 0 false

/-! The start of the digital die (R91, R517, R519). -/

/-- The die may start: rails good, RESET_N high, INH0 asserted, VBAT present. -/
def State.dieMayStart (s : State) : Bool :=
  !s.pd0.die && s.pd0.rails == 0x7F && s.pd0.resetN && s.pd0.inh0 && s.pd0.vbatGood

/-- The die starts: BOOTSEL is sampled, and the ROM leaves POWER_UP (R91). The clock of a cold start runs from here (R267); of a
resume, from the restored value. -/
def State.dieStart (s : State) (straps : BitVec 2) (fuses : Bool) : State :=
  let s := s.modPd0 (fun p => { p with die := true })
  let s := s.modBoot (fun b => { b with bootsel := straps })
  if s.boot.lcs = 0 ∨ s.boot.lcs = 5 ∨ !fuses then s.bootStateTo .halted
  else if s.retSeal.marker then s.bootStateTo .resumeCheck
  else
    let s := s.modPd0 (fun p => { p with waking := false })
    let s := s.modSleep (fun x => { x with phase := .awake, wakeMask := 0 })
    (s.modTime (fun u => { u with run := true })).bootStateTo .waitImage

/-- The size of the retention SRAM (R16, R103). -/
def sramSize : Nat := 4194304

/-- The seal check of RESUME_CHECK (R104) over the sealed region of the retention SRAM; `disturbed` are cells of it that have changed in
sleep. A match reloads the TCMs; otherwise all retention SRAM is zeroed. -/
def State.sealCheck (s : State) (disturbed : List (Nat × Byte)) : State :=
  let key := firmwareKey s.rootKey "MRC-SEAL" (beBytes 4 s.retSeal.counter.toNat)
  let s := s.modStore (fun x => { x with
    sram := (disturbed.filter (fun c => decide (c.1 < sramSize))).foldl (fun m c => m.write c.1 c.2) x.sram })
  if cmac key (s.store.sram.readAll 0 s.retSeal.length) = s.retSeal.tag then
    let s := (s.modStore (fun x => x.load false)).modBoot (fun b => { b with resumed := true })
    (s.modBoot (fun b => { b with record := s.bootRecord })).resumeFirmware
  else
    let was := s
    let s := s.coldState
    let s := (s.modPd0 (fun p => { p with die := true })).modBoot (fun b => { b with
      bootsel := was.boot.bootsel, sealFail := true, state := .resumeCheck, bootEvt := was.boot.bootEvt })
    let s := s.modPd0 (fun p => { p with waking := false })
    let s := s.modSleep (fun x => { x with phase := .awake, wakeMask := 0 })
    (s.modTime (fun u => { u with run := true })).bootStateTo .waitImage

/-- CHUNK_DONE. -/
def execChunkDone (s : State) : Res :=
  .next (if s.boot.go ∧ s.boot.state = .receiving then s.chunkDone else s)

/-- BOOT_OWNER_TIMEOUT (R94). -/
def execBootOwnerTimeout (s : State) : Res :=
  .next (if s.boot.state = .receiving ∧ !s.boot.go then s.bootFail 0x17 else s)

/-- VERIFY_DONE. -/
def execVerifyDone (s : State) : Res :=
  .next (if s.boot.state = .verifying ∧ !s.boot.released then s.verifyDone else s)

/-- FIRMWARE_START (R50, R100). -/
def execFirmwareStart (s : State) : Res :=
  .next (if s.boot.state = .verifying ∧ s.boot.released then s.firmwareStart else s)

/-- DIE_START: the straps as sampled, and the outcome of the fuse integrity check (R91, R517). -/
def execDieStart (straps : BitVec 2) (fuses : Bool) (s : State) : Res :=
  .next (if s.dieMayStart then s.dieStart straps fuses else s)

/-- SEAL_CHECK_DONE. -/
def execSealCheckDone (disturbed : List (Nat × Byte)) (s : State) : Res :=
  .next (if s.pd0.die ∧ s.boot.state = .resumeCheck then s.sealCheck disturbed else s)

end Sys2Proof.Machine
end

