-- ==== Sys2Proof/Machine/CryptCmds.lean ====
section
/-! DEFINITION. The CRYPT commands (chapter 18 of the spec). -/

namespace Sys2Proof.Machine

/-- CRYPT_GET_CAPS (R436, R538): numbers of associations, profiles and contexts, the suites of R421, and the limits of R431 row by row. A
row that is no one range of 32-bit numbers has no stated entry: it is free (log 22). -/
def cmdCryptGetCaps : Cmd :=
  { op := 0x0D00, lengthOk := lenIs 0, check := fun _ _ _ => none
    run := fun s _ _ _ =>
      let r := s.freeBytes 40
      let f (k : Nat) : Bytes := slice r.1 (8 * k) 8
      let row (a b : Nat) : Bytes := w32 a ++ w32 b
      (r.2, .done (stOk ([512, 256, 32, 4, 0, 1, 2, 3, 10].flatMap w32 ++ row 1 1048576 ++ f 0 ++ row 0 65536 ++ f 1 ++ f 2 ++ f 3
        ++ row 12 12 ++ row 12 16 ++ row 4 16 ++ f 4))) }

/-- An external port of a payload and its owner. -/
def cryptPort (s : State) (n : Nat) (p : Bytes) : Option Answer :=
  firstFail [inRange (byteAt p 0) 25 0, mustOwn s n 1 (byteAt p 0)]

/-- CRYPT_SET_PORT (R420); bit 0 of CLEAR_MASK is always 1. -/
def cmdCryptSetPort : Cmd :=
  { op := 0x0D01, lengthOk := lenIs 12
    check := fun s n p => firstFail [cryptPort s n p, flag p 4, need (byteAt p 5 == 0 || byteAt p 5 == 2) (stBadParam 5),
      between (byteAt p 6) 0 3 6, between (byteAt p 7) 0 15 7]
    run := fun s _ _ p =>
      let pol := splice (slice p 4 8) 3 (w8 (setBit (byteAt p 7) 0 true))
      (s.modMac (byteAt p 0) (fun m => { m with policy := pol }), .done (stOk [])) }

/-- CRYPT_SET_MKA (R424, R436): S0's; a CAK is named only for MKA_EN 1. -/
def cmdCryptSetMka : Cmd :=
  { op := 0x0D02, lengthOk := lenIs 44
    check := fun _ n p =>
      let en := byteAt p 1 == 1
      firstFail [inRange (byteAt p 0) 25 0, mustBeS0 n, flag p 1, between (byteAt p 2) 0 3 2,
        inRange (le p 4 2) 512 4, inRange (le p 6 2) 512 6, need (le p 6 2 + le p 8 2 ≤ 512) (stBadParam 8),
        need (!en || (decide (1 ≤ byteAt p 10) && decide (byteAt p 10 ≤ 32))) (stBadParam 10)]
    run := fun s _ _ p =>
      let en := byteAt p 1 == 1
      let r := if en then s.useKey none (le p 4 2) 4 [6, 7] else (none, s)
      match r with
      | (some a, s) => (s, .done a)
      | (none, s) =>
        let s := s.modMac (byteAt p 0) (fun m => { m with
          mkaEn := en, mkaSuite := byteAt p 2, mkaPriority := byteAt p 3, cak := le p 4 2, sakFirst := le p 6 2
          sakCount := le p 8 2, ckn := slice p 12 (min 32 (byteAt p 10)) })
        (if s.linkUp (byteAt p 0) then s.sendMka (byteAt p 0) else s, .done (stOk [])) }

/-- The owner of an association's port; a CANsec association is S0's (R421, R436). -/
def ownsSaPort (s : State) (n port : Nat) : Option Answer := if port < 25 then mustOwn s n 1 port else mustBeS0 n

/-- The caller owns the association that stands there, if one does. -/
def ownsSa (s : State) (n i : Nat) : Option Answer :=
  match tget? s.crypt.sas i with
  | none => none
  | some a => ownsSaPort s n (byteAt a.record 0)

/-- Host writes to the associations of a port under MKA are locked (R424). -/
def saLocked (s : State) (port : Nat) : Option Answer :=
  need (!(decide (port < 25) && (vget s.crypt.ports port).mkaEn)) stLocked

/-- The wrong-state answer of an association (R421). -/
def saWrong (s : State) (i : Nat) : Answer := stWrongState 0x0D01 i (saCode (tget? s.crypt.sas i))

/-- The ranges of an association record at payload offset 4 (R421). -/
def saRanges (p : Bytes) : Option Answer :=
  let suite := byteAt p 7
  firstFail [flag p 5, between (byteAt p 6) 0 3 6, between suite 0 3 7, need (le p 8 2 < 512) (stBadParam 8),
    need (1 ≤ le p 20 8 && (decide (2 ≤ suite) || decide (le p 20 8 < 2 ^ 32))) (stBadParam 20)]

/-- CRYPT_INSTALL_SA (R421, R436): written only while FREE or INSTALLED. -/
def cmdCryptInstallSa : Cmd :=
  { op := 0x0D03, lengthOk := lenIs 52
    check := fun s n p =>
      let i := le p 0 2
      let port := byteAt p 4
      firstFail [inRange i 512 0, need (decide (port < 25) || port == 0xFF) (stBadParam 4), ownsSaPort s n port,
        ownsSa s n i, saLocked s port, saLocked s (byteAt (tgetD s.crypt.sas i default).record 0),
        need (decide (saCode (tget? s.crypt.sas i) ≤ 1) && !s.isActiveSa i) (saWrong s i), saRanges p]
    run := fun s n _ p =>
      let tx := byteAt p 5 == 1
      match s.useKey (some n) (le p 8 2) (if tx then 1 else 2) [byteAt p 7 % 2] with
      | (some a, s) => (s, .done a)
      | (none, s) => (s.installSa (le p 0 2) (splice (slice p 4 48) 6 [0, 0]) false, .done (stOk [])) }

/-- CRYPT_SET_TX_AN (R422, R425): the association that is left becomes INSTALLED. -/
def cmdCryptSetTxAn : Cmd :=
  { op := 0x0D04, lengthOk := lenIs 4
    check := fun s n p => firstFail [cryptPort s n p, saLocked s (byteAt p 0), between (byteAt p 1) 0 3 1,
      need (s.saOf (byteAt p 0) 1 (byteAt p 1)).isSome (stBadParam 1)]
    run := fun s _ _ p =>
      match s.saOf (byteAt p 0) 1 (byteAt p 1) with
      | none => (s, .done (stBadParam 1))
      | some i =>
        let a := tgetD s.crypt.sas i default
        if a.state = .exhausted then (s, .done stExhausted)
        else if a.state = .stale then (s.staleUse stKeyStale, .done stKeyStale)
        else (s.selectSa (byteAt p 0) i, .done (stOk (w64 a.pn))) }

/-- CRYPT_DELETE_SA (R421, R436): not the association its port transmits from (log 46). -/
def cmdCryptDeleteSa : Cmd :=
  { op := 0x0D05, lengthOk := lenIs 4
    check := fun s n p =>
      let i := le p 0 2
      let a := tget? s.crypt.sas i
      let inUse := match a with | some a => a.state == .inUse | none => false
      firstFail [inRange i 512 0, ownsSa s n i,
        match a with | some a => saLocked s (byteAt a.record 0) | none => none,
        need (!(inUse && s.isActiveSa i)) (saWrong s i)]
    run := fun s _ _ p =>
      match tget? s.crypt.sas (le p 0 2) with
      | none => (s, .done (stOk []))
      | some _ => (s.freeSa (le p 0 2), .done (stOk [])) }

/-- CRYPT_GET_SA (R436): the record with its present PN, and the state. -/
def cmdCryptGetSa : Cmd :=
  { op := 0x0D06, lengthOk := lenIs 4
    check := fun s n p =>
      let i := le p 0 2
      firstFail [inRange i 512 0,
        match tget? s.crypt.sas i with
        | none => none
        | some a => if byteAt a.record 0 < 25 then mayRead s n 1 (byteAt a.record 0) else mayReadDevice s n]
    run := fun s _ _ p =>
      let a := tget? s.crypt.sas (le p 0 2)
      let rec_ := match a with | none => zeros 48 | some a => splice a.record 16 (w64 a.pn)
      (s, .done (stOk (rec_ ++ w8 (saCode a)))) }

/-- A profile record is of a CMAC kind. -/
def cmacKind (kind : Nat) : Bool := kind == 1 || kind == 2

/-- The association a CANsec profile names suits it (R426, R429): PORT 0xFF, and receive for CANSEC_CHECK. -/
def profileSa (s : State) (p : Bytes) : Option Answer :=
  match tget? s.crypt.sas (le p 28 2) with
  | none => some (stBadParam 28)
  | some a => need (byteAt a.record 0 == 0xFF && byteAt a.record 1 == b2n (byteAt p 4 == 4)) (stBadParam 28)

/-- The ranges of a profile record at payload offset 4 (R426). -/
def profileRanges (s : State) (p : Bytes) : Option Answer :=
  let kind := byteAt p 4
  let mac := cmacKind kind
  let fv := byteAt p 21
  if kind = 0 then none
  else firstFail [between kind 0 4 4, between (byteAt p 5) 0 3 5,
    need (relayCode (le p 6 2) || (kind % 2 == 1 && le p 6 2 == 0xFFFF)) (stBadParam 6), need (le p 8 4 < 2 ^ 30) (stBadParam 8),
    need (le p 12 4 < 2 ^ 30) (stBadParam 12), need (!mac || decide (le p 16 2 < 512)) (stBadParam 16),
    between (byteAt p 20) 0 60 20, need (if mac then [8, 16, 24, 32].contains fv else fv == 0) (stBadParam 21),
    need (if mac then [24, 32, 40, 48, 56, 64].contains (byteAt p 22) else byteAt p 22 == 0) (stBadParam 22),
    need (!mac || decide (byteAt p 20 + (fv + byteAt p 22) / 8 ≤ 64)) (stBadParam 20),
    need (!mac || (decide (1 ≤ le p 24 4) && decide (le p 24 4 ≤ 2 ^ (fv - 1)))) (stBadParam 24),
    if mac then need (le p 28 2 == 0xFFFF) (stBadParam 28) else profileSa s p]

/-- CRYPT_SET_PROFILE (R426): S0's; KIND 0 leaves the profile unused. -/
def cmdCryptSetProfile : Cmd :=
  { op := 0x0D07, lengthOk := lenIs 44
    check := fun s n p => firstFail [mustBeS0 n, profileRanges s p]
    run := fun s _ _ p =>
      let i := byteAt p 0
      let kind := byteAt p 4
      let r := if cmacKind kind then s.useKey none (le p 16 2) (if kind = 1 then 2 else 1) [2, 3] else (none, s)
      match r with
      | (some a, s) => (s, .done a)
      | (none, s) =>
        let x : Profile := { record := slice p 4 40, fv := le p 36 8, stale := false }
        (s.modCrypt (fun c => { c with
          profiles := if kind = 0 then tdel c.profiles i else tset c.profiles i x }), .done (stOk [])) }

/-- CRYPT_GET_PROFILE (R426, R436). -/
def cmdCryptGetProfile : Cmd :=
  { op := 0x0D08, lengthOk := lenIs 4, check := fun s n _ => mayReadDevice s n
    run := fun s _ _ p =>
      (s, .done (stOk (match tget? s.crypt.profiles (byteAt p 0) with
        | none => zeros 40
        | some x => splice x.record 32 (w64 x.fv)))) }

/-! Host contexts (R430 to R432). -/

/-- States of R431. -/
def ctxCode : Option HostCtx → Nat
  | none => 0
  | some x => match x.state with
    | .aad => 1 | .data => 2 | .invalid => 3

/-- The lowest free context. -/
def State.freeCtx (s : State) : Option Nat := (List.range 32).find? (fun i => (tget? s.crypt.ctxs i).isNone)

/-- A context written. -/
def State.setCtx (s : State) (i : Nat) (x : HostCtx) : State := s.modCrypt (fun c => { c with ctxs := tset c.ctxs i x })

/-- A context freed. -/
def State.dropCtx (s : State) (i : Nat) : State := s.modCrypt (fun c => { c with ctxs := tdel c.ctxs i })

/-- The contexts of an unbound slot are lost (R430). -/
def State.dropCtxs (s : State) (n : Nat) : State :=
  s.modCrypt (fun c => { c with ctxs := c.ctxs.filter (fun e => e.2.holder != n) })

/-- A limit of R431 is broken: the context becomes INVALID. -/
def State.breakCtx (s : State) (i : Nat) (x : HostCtx) : State × Reply :=
  ((s.setCtx i { x with state := .invalid }).count (.crypt 0 .lengthLimit), .done stLengthLimit)

/-- The context field of a payload: in range, the caller's own, and not FREE or INVALID (R431, R436). -/
def usesCtx (s : State) (n : Nat) (p : Bytes) : Option Answer :=
  let i := byteAt p 0
  let x := tget? s.crypt.ctxs i
  firstFail [inRange i 32 0,
    match x with | some x => need (x.holder == n) stNotOwner | none => none,
    need (ctxCode x == 1 || ctxCode x == 2) (stWrongState 0x0D02 i (ctxCode x))]

/-- A step of a host context: one whose key slot has gone stale refuses it (R450, R456). -/
def ctxStep (s : State) (p : Bytes) (f : HostCtx → State × Reply) : State × Reply :=
  let x := tgetD s.crypt.ctxs (byteAt p 0) default
  if x.stale then (s.staleUse stKeyStale, .done stKeyStale) else f x

/-- CRYPT_OPEN (R430, R431): the key is latched. -/
def cmdCryptOpen : Cmd :=
  { op := 0x0D09, lengthOk := lenIs 20
    check := fun _ _ p => firstFail [between (byteAt p 0) 0 3 0, inRange (le p 2 2) 512 2]
    run := fun s n _ p =>
      let mode := byteAt p 0
      let i := le p 2 2
      if !tagLenOk mode (byteAt p 16) then (s.count (.crypt 0 .lengthLimit), .done stLengthLimit)
      else
        match s.freeCtx with
        | none => (s, .done stNoResource)
        | some c =>
          match s.useKey (some n) i (modeUse mode) (modeAlgs mode) with
          | (some a, s) => (s, .done a)
          | (none, s) =>
            let k := s.keyOf i
            let x : HostCtx :=
              { holder := n, mode := mode, state := .aad, keySlot := i, epoch := k.writes, key := k.key, iv := slice p 4 12
                tagLen := byteAt p 16, chain := Chain.start (decide (mode ≤ 1)) (slice p 4 12), stale := false }
            ((s.setCtx c x).count (.crypt 0 .hostOps), .done (stOk (w8 c))) }

/-- The largest total of an operation's data (R431). -/
def dataLimit (mode : Nat) : Nat := if mode ≤ 1 then 2 ^ 36 - 32 else 2 ^ 40

/-- An update that breaks a limit of R431: additional data after data or after a partial block, or too much of it; data that are
not whole blocks, or too many. -/
def updateBreaks (x : HostCtx) (aad : Bool) (n : Nat) : Bool :=
  decide (1048576 < n) ||
    (if aad then x.state == .data || x.chain.aadLen % 16 != 0 || decide (65536 < x.chain.aadLen + n)
     else n % 16 != 0 || decide (dataLimit x.mode < x.chain.dataLen + n))

/-- The context after an update, and its output. -/
def updateCtx (x : HostCtx) (aad : Bool) (d : Bytes) : HostCtx × Bytes :=
  if aad then ({ x with chain := x.chain.aad x.key d }, [])
  else if x.mode ≤ 1 then
    let r := x.chain.gcm x.key (x.mode == 0) d
    ({ x with state := .data, chain := r.1 }, r.2)
  else ({ x with state := .data, chain := x.chain.mac x.key d }, [])

/-- The PCIe function of a slot. -/
def State.functionOf (s : State) (n : Nat) : Option Nat :=
  match (s.slot n).binding with
  | .pcie f => some f.val
  | _ => none

/-- Bytes written into the memory of a slot's PCIe function. -/
def State.dmaOut (s : State) (n addr : Nat) (b : Bytes) : State :=
  match s.functionOf n with
  | none => s
  | some f => if b.isEmpty then s else s.emit (.hostWrite f addr b)

/-- A run of more than 64 KiB asks the Tollgate for 1,000 mW (R430); a refusal is counted. -/
def State.burst (s : State) (n : Nat) : Bool × State :=
  if n ≤ 65536 then (true, s)
  else
    let r := s.immediate 100
    (r.1, if r.1 then r.2 else r.2.count (.crypt 0 .grantDenied))

/-- CRYPT_UPDATE (R430, R431, R436): data inline, or in host memory, whose bytes are free (log 2). -/
def cmdCryptUpdate : Cmd :=
  { op := 0x0D0A
    lengthOk := fun p => if byteAt p 2 = 0 then p.length == 28 else decide (4 ≤ p.length)
    check := fun s n p =>
      let x := tgetD s.crypt.ctxs (byteAt p 0) default
      firstFail [usesCtx s n p, flag p 1, need (byteAt p 1 == 0 || decide (x.mode ≤ 1)) (stBadParam 1), flag p 2,
        need (byteAt p 2 == 1 || (s.functionOf n).isSome) (stBadParam 2)]
    run := fun s n _ p => ctxStep s p (fun x =>
      let i := byteAt p 0
      let aad := byteAt p 1 == 1
      let inl := byteAt p 2 == 1
      let len := if inl then p.length - 4 else le p 4 4
      if updateBreaks x aad len then s.breakCtx i x
      else if inl then
        let r := updateCtx x aad (p.drop 4)
        (s.setCtx i r.1, .done (stOk r.2))
      else
        let g := s.burst len
        if !g.1 then (g.2, .done stGrantDenied)
        else
          let d := g.2.freeBytes len
          let r := updateCtx x aad d.1
          ((d.2.setCtx i r.1).dmaOut n (le p 20 8) r.2, .done (stOk []))) }

/-- FLAGS of a result (R419, R436). -/
def keyFlags (s : State) (slot epoch : Nat) : Bytes := w16 (if (s.keyOf slot).writes = epoch then 0 else 4)

/-- CRYPT_FINAL (R431, R436): output, tag and FLAGS; the context is freed. -/
def cmdCryptFinal : Cmd :=
  { op := 0x0D0B, lengthOk := fun p => decide (4 ≤ p.length), check := usesCtx
    run := fun s _ _ p => ctxStep s p (fun x =>
      let i := byteAt p 0
      let want := if x.mode % 2 = 1 then x.tagLen else 0
      let len := p.length - 4 - want
      if p.length < 4 + want then (s, .done stBadLength)
      else if dataLimit x.mode < x.chain.dataLen + len then s.breakCtx i x
      else
        let s := s.dropCtx i
        match x.chain.final x.mode x.key (slice p 4 len) (p.drop (4 + len)) with
        | .badTag => (s, .done stAuthFail)
        | .ok out tag => (s, .done (stOk (out ++ tag.take x.tagLen ++ keyFlags s x.keySlot x.epoch)))) }

/-- The 64-byte context record (R432). -/
def HostCtx.record (x : HostCtx) : Bytes :=
  w8 x.mode ++ w8 (ctxCode (some x)) ++ w16 x.keySlot ++ w32 x.epoch ++ w64 x.chain.aadLen ++ w64 x.chain.dataLen
    ++ blockBytes x.chain.chain ++ blockBytes x.chain.ghash ++ w8 x.holder ++ zeros 7

/-- CRYPT_SAVE (R432): the record, wrapped, or clear where the key slot allows it; the context is freed. -/
def cmdCryptSave : Cmd :=
  { op := 0x0D0C, lengthOk := lenIs 4
    check := fun s n p =>
      let x := tgetD s.crypt.ctxs (byteAt p 0) default
      firstFail [usesCtx s n p, flag p 1,
        need (byteAt p 1 == 0 || bitOf (s.keyOf x.keySlot).flags 0) stKeyAttr]
    run := fun s _ _ p => ctxStep s p (fun x =>
      let i := byteAt p 0
      let b := if byteAt p 1 = 1 then x.record else padTo 72 (Config.kwWrap (Config.engineKey s.crypt.starts) x.record)
      (s.dropCtx i, .done (stOk b))) }

/-- A context record's own ranges. -/
def ctxRecordOk (b : Bytes) : Option Answer :=
  firstFail [between (byteAt b 0) 0 3 0, between (byteAt b 1) 1 2 1, inRange (le b 2 2) 512 2]

/-- CRYPT_RESTORE (R432). The record does not hold the tag length, which is then free among those of R431 (log 46). -/
def cmdCryptRestore : Cmd :=
  { op := 0x0D0D, lengthOk := fun p => p.length == 64 || p.length == 72, check := fun _ _ _ => none
    run := fun s n _ p =>
      let b := if p.length = 64 then some p else (Config.kwUnwrap (Config.engineKey s.crypt.starts) p).map (padTo 64)
      match b with
      | none => (s, .done stAuthFail)
      | some b =>
        match firstFail [ctxRecordOk b, need (byteAt b 56 == n) stNotOwner,
            need (le b 4 4 == (s.keyOf (le b 2 2)).writes) stKeyStale] with
        | some a => (s.staleUse a, .done a)
        | none =>
          match s.freeCtx with
          | none => (s, .done stNoResource)
          | some c =>
            let mode := byteAt b 0
            match s.useKey (some n) (le b 2 2) (modeUse mode) (modeAlgs mode) with
            | (some a, s) => (s, .done a)
            | (none, s) =>
              let t := s.freeNat
              let x : HostCtx :=
                { holder := n, mode := mode, state := if byteAt b 1 = 1 then .aad else .data, keySlot := le b 2 2
                  epoch := le b 4 4, key := (s.keyOf (le b 2 2)).key, iv := slice b 24 12
                  tagLen := if mode ≤ 1 then 12 + t.1 % 5 else 4 + t.1 % 13
                  chain := { aadLen := le b 8 8, dataLen := le b 16 8, chain := toBlock (slice b 24 16)
                             ghash := toBlock (slice b 40 16) }, stale := false }
              (t.2.setCtx c x, .done (stOk (w8 c))) }

/-- The expected tag that follows the data of a single-shot verification. -/
def oneTag (p : Bytes) : Nat := if byteAt p 0 = 1 ∨ byteAt p 0 = 3 then byteAt p 16 else 0

/-- The length limits of a single-shot operation (R431). -/
def oneLimits (p : Bytes) : Bool :=
  let mode := byteAt p 0
  let n := le p 24 4
  if mode = 4 then decide (16 ≤ n) && decide (n ≤ 4096) && n % 8 == 0
  else if mode = 5 then decide (24 ≤ n) && decide (n ≤ 4104) && n % 8 == 0
  else tagLenOk mode (byteAt p 16) && decide (1 ≤ n) && decide (n ≤ 1048576) && decide (le p 20 4 ≤ 65536)

/-- A single-shot operation on its data: its output and tag, or a failed check. -/
def oneShot (mode : Nat) (key iv aad d expected : Bytes) : FinalOut :=
  if mode = 4 then .ok (padTo (d.length + 8) (Config.kwWrap key d)) []
  else if mode = 5 then
    match Config.kwUnwrap key d with
    | none => .badTag
    | some o => .ok (padTo (d.length - 8) o) []
  else
    let c := Chain.start (decide (mode ≤ 1)) iv
    (if mode ≤ 1 then c.aad key aad else c).final mode key d expected

/-- CRYPT_ONESHOT (R430, R431, R436). Inline, the additional data, the data and a verification's expected tag follow one
another; from host memory they are free bytes (log 2). -/
def cmdCryptOneshot : Cmd :=
  { op := 0x0D0E
    lengthOk := fun p =>
      if byteAt p 1 = 0 then p.length == 52 else p.length == 28 + le p 20 4 + le p 24 4 + oneTag p
    check := fun s n p =>
      let mode := byteAt p 0
      firstFail [between mode 0 5 0, flag p 1, need (byteAt p 1 == 1 || (s.functionOf n).isSome) (stBadParam 1),
        inRange (le p 2 2) 512 2, need (decide (mode ≤ 1) || le p 20 4 == 0) (stBadParam 20)]
    run := fun s n _ p =>
      let mode := byteAt p 0
      let i := le p 2 2
      let inl := byteAt p 1 == 1
      let na := le p 20 4
      let nd := le p 24 4
      if !oneLimits p then (s.count (.crypt 0 .lengthLimit), .done stLengthLimit)
      else
        match s.useKey (some n) i (if 4 ≤ mode then 3 else modeUse mode) (if 4 ≤ mode then [4, 5] else modeAlgs mode) with
        | (some a, s) => (s, .done a)
        | (none, s) =>
          let k := s.keyOf i
          if 4 ≤ mode ∧ !k.hostWrap then (s, .done stKeyAttr)
          else
            let g := s.burst nd
            if !g.1 then (g.2, .done stGrantDenied)
            else
              let d := if inl then (p.drop 28, g.2) else g.2.freeBytes (na + nd + oneTag p)
              let s := d.2.count (.crypt 0 .hostOps)
              match oneShot mode k.key (slice p 4 12) (d.1.take na) (slice d.1 na nd) (d.1.drop (na + nd)) with
              | .badTag => (s, .done stAuthFail)
              | .ok out tag =>
                let t := tag.take (byteAt p 16)
                if inl then (s, .done (stOk (out ++ t ++ w16 0)))
                else (s.dmaOut n (le p 36 8) out, .done (stOk (t ++ w16 0))) }

/-- CRYPT_BREAK_LOCK (R434): S0's. -/
def cmdCryptBreakLock : Cmd :=
  { op := 0x0D0F, lengthOk := lenIs 0, check := fun _ n _ => mustBeS0 n
    run := fun s _ _ _ => (s.cdiRelease, .done (stOk [])) }

/-- The cipher counters of one index in table order (R438). -/
def cryptCtrs (kind i : Nat) : List Ctr :=
  if kind = 0 then
    [CryptCtr.txProtected, .txClear, .txHeldNoSa, .rxOk, .rxClear, .rxBadIcv, .rxReplay, .rxNoSa, .rxUntagged,
      .rxTaggedDisabled].map (.crypt i ·)
  else if kind = 1 then [CryptCtr.verified, .authFail, .replay, .generated, .exhausted].map (.crypt i ·)
  else [CryptCtr.hostOps, .grantDenied, .lengthLimit, .rngHealthFail].map (.crypt 0 ·)

/-- The number of indices of a counter kind. -/
def cryptScope (kind : Nat) : Nat := if kind = 0 then 25 else if kind = 1 then 256 else 1

/-- The indices that a counter payload names. -/
def cryptRange (p : Bytes) : List Nat := (List.range (le p 4 2)).map (fun k => le p 2 2 + k)

/-- The range checks of a counter payload, with one check more for each index. -/
def cryptCtrCheck (p : Bytes) (one : Nat → Option Answer) : Option Answer :=
  let k := cryptScope (byteAt p 0)
  firstFail [between (byteAt p 0) 0 2 0, inRange (le p 2 2) k 2, firstFail ((objectsIn (le p 2 2) (le p 4 2) k).map one),
    countIn (le p 2 2) (le p 4 2) 64 k 2 4]

/-- CRYPT_GET_COUNTERS (R436, R438). -/
def cmdCryptGetCounters : Cmd :=
  { op := 0x0D10, lengthOk := lenIs 8
    check := fun s n p => cryptCtrCheck p (fun i => if byteAt p 0 = 0 then mayRead s n 1 i else mayReadDevice s n)
    run := fun s _ _ p => (s, .done (stOk ((cryptRange p).flatMap (fun i => counterBytes s (cryptCtrs (byteAt p 0) i))))) }

/-- CRYPT_CLEAR_COUNTERS (R436): port counters are cleared by the port's owner, the others by S0. -/
def cmdCryptClearCounters : Cmd :=
  { op := 0x0D11, lengthOk := lenIs 8
    check := fun s n p => cryptCtrCheck p (fun i => if byteAt p 0 = 0 then mustOwn s n 1 i else mustBeS0 n)
    run := fun s _ _ p =>
      let l := (cryptRange p).flatMap (fun i => cryptCtrs (byteAt p 0) i)
      (s.clearCtrs (fun k => l.contains k), .done (stOk [])) }

/-- CRYPT_GET_CAPS. -/
def execCryptGetCaps (slot : Slot) (tag : Half) (payload : Bytes) (s : State) : Res :=
  .next (penyen cmdCryptGetCaps slot.val tag payload s)

/-- CRYPT_SET_PORT. -/
def execCryptSetPort (slot : Slot) (tag : Half) (payload : Bytes) (s : State) : Res :=
  .next (penyen cmdCryptSetPort slot.val tag payload s)

/-- CRYPT_SET_MKA. -/
def execCryptSetMka (slot : Slot) (tag : Half) (payload : Bytes) (s : State) : Res :=
  .next (penyen cmdCryptSetMka slot.val tag payload s)

/-- CRYPT_INSTALL_SA. -/
def execCryptInstallSa (slot : Slot) (tag : Half) (payload : Bytes) (s : State) : Res :=
  .next (penyen cmdCryptInstallSa slot.val tag payload s)

/-- CRYPT_SET_TX_AN. -/
def execCryptSetTxAn (slot : Slot) (tag : Half) (payload : Bytes) (s : State) : Res :=
  .next (penyen cmdCryptSetTxAn slot.val tag payload s)

/-- CRYPT_DELETE_SA. -/
def execCryptDeleteSa (slot : Slot) (tag : Half) (payload : Bytes) (s : State) : Res :=
  .next (penyen cmdCryptDeleteSa slot.val tag payload s)

/-- CRYPT_GET_SA. -/
def execCryptGetSa (slot : Slot) (tag : Half) (payload : Bytes) (s : State) : Res :=
  .next (penyen cmdCryptGetSa slot.val tag payload s)

/-- CRYPT_SET_PROFILE. -/
def execCryptSetProfile (slot : Slot) (tag : Half) (payload : Bytes) (s : State) : Res :=
  .next (penyen cmdCryptSetProfile slot.val tag payload s)

/-- CRYPT_GET_PROFILE. -/
def execCryptGetProfile (slot : Slot) (tag : Half) (payload : Bytes) (s : State) : Res :=
  .next (penyen cmdCryptGetProfile slot.val tag payload s)

/-- CRYPT_OPEN. -/
def execCryptOpen (slot : Slot) (tag : Half) (payload : Bytes) (s : State) : Res :=
  .next (penyen cmdCryptOpen slot.val tag payload s)

/-- CRYPT_UPDATE. -/
def execCryptUpdate (slot : Slot) (tag : Half) (payload : Bytes) (s : State) : Res :=
  .next (penyen cmdCryptUpdate slot.val tag payload s)

/-- CRYPT_FINAL. -/
def execCryptFinal (slot : Slot) (tag : Half) (payload : Bytes) (s : State) : Res :=
  .next (penyen cmdCryptFinal slot.val tag payload s)

/-- CRYPT_SAVE. -/
def execCryptSave (slot : Slot) (tag : Half) (payload : Bytes) (s : State) : Res :=
  .next (penyen cmdCryptSave slot.val tag payload s)

/-- CRYPT_RESTORE. -/
def execCryptRestore (slot : Slot) (tag : Half) (payload : Bytes) (s : State) : Res :=
  .next (penyen cmdCryptRestore slot.val tag payload s)

/-- CRYPT_ONESHOT. -/
def execCryptOneshot (slot : Slot) (tag : Half) (payload : Bytes) (s : State) : Res :=
  .next (penyen cmdCryptOneshot slot.val tag payload s)

/-- CRYPT_BREAK_LOCK. -/
def execCryptBreakLock (slot : Slot) (tag : Half) (payload : Bytes) (s : State) : Res :=
  .next (penyen cmdCryptBreakLock slot.val tag payload s)

/-- CRYPT_GET_COUNTERS. -/
def execCryptGetCounters (slot : Slot) (tag : Half) (payload : Bytes) (s : State) : Res :=
  .next (penyen cmdCryptGetCounters slot.val tag payload s)

/-- CRYPT_CLEAR_COUNTERS. -/
def execCryptClearCounters (slot : Slot) (tag : Half) (payload : Bytes) (s : State) : Res :=
  .next (penyen cmdCryptClearCounters slot.val tag payload s)

end Sys2Proof.Machine
end

