-- ==== Sys2Proof/Machine/Meas.lean ====
section
/-! DEFINITION. Measurements, partner records and the MEAS commands (R424 for MKA; R494 to R499, R508). -/

namespace Sys2Proof.Machine

/-- The measurements changed. -/
def State.modMeas (s : State) (f : Meas → Meas) : State := { s with meas := f s.meas }

/-! Samples. -/

/-- The highest of the six sensors, the first of equals: its index and value (R47). -/
def hottest (t : List Int) : Nat × Int :=
  (List.range 6).foldl (fun (b : Nat × Int) k => if b.2 < t.getD k (-160) then (k, t.getD k (-160)) else b)
    (0, t.getD 0 (-160))

/-- Running firmware adapts the core voltage (R520): by at most 10 mV in 1 ms, within 720 to 800 mV; the spec does not say by how much
(free, log 54). -/
def State.adaptVdd (s : State) : State :=
  let v := s.freeNat
  let next := max 720 (min 800 (s.pws.setpoint.toNat + v.1 % 21 - 10))
  { v.2 with pws := { v.2.pws with setpoint := BitVec.ofNat 10 next } }

/-- MEASUREMENT_SAMPLE (R47, R494, R495): the die sensors convert whenever the die runs; the rest while PD3 has power and firmware
runs. A camera port that is not driven reads no current, and one above 1.5 A reads 1,500 mA (R525). -/
def State.sample (s : State) (x : Sample) : State :=
  if !s.pd0.die then s
  else
    let h := hottest x.temps
    let s : State := { s with pws := { s.pws with sensor := BitVec.ofNat 3 h.1, tjMax := BitVec.ofInt 16 h.2 } }
    let s := if s.running then s.adaptVdd else s
    if !(s.running && s.pws.domains.getLsbD 3) then s
    else
      let low := if s.meas.vbatLow = 0 then x.vbat else min s.meas.vbatLow x.vbat
      let s := s.modMeas (fun m => { m with
        vbat := x.vbat, vbatLow := low, rails := vtab 7 (fun k => x.rails.getD k 0)
        powers := vtab 7 (fun k => x.powers.getD k 0), temps := vtab 6 (fun k => x.temps.getD k 0)
        history := (((List.range 7).map (fun k => x.powers.getD k 0)).foldl (· + ·) 0 :: m.history).take 10 })
      forAll (List.range 12) (fun k s => s.modPodl (k + 5) (fun p => { p with
        current := if p.state.drives then min 1500 (x.currents.getD k 0) else 0 })) s

/-- MEASUREMENT_SAMPLE. -/
def execMeasurementSample (x : Sample) (s : State) : Res := .next (s.sample x)

/-! Partners. -/

/-- The partner record of a port. -/
def State.partner (s : State) (p : Nat) : Partner := vget s.meas.partners p

/-- The partner record of a port changed. -/
def State.modPartner (s : State) (p : Nat) (f : Partner → Partner) : State :=
  s.modMeas (fun m => { m with partners := vmod m.partners p f })

/-- MEAS_PARTNER to the port's owner and to S0 (R498): causes 0 identity changed, 1 LLDP lost. -/
def State.partnerEvent (s : State) (p cause : Nat) : State := s.eventTwo (s.ownerOf 1 p) 0 0x1101 (w8 p ++ w8 cause)

/-- LLDP_RECEIVE (R498): a first identity changes the empty record too (DEDUCED, log 50). -/
def execLldpReceive (p : Port) (chassis portId : Bytes) (ttl : Nat) (s : State) : Res :=
  .next (if !(s.running && s.isUp p.val) then s
    else
      let c := chassis.take 16
      let i := portId.take 16
      let x := s.partner p.val
      let same := x.chassis == c && x.portId == i
      let s := s.modPartner p.val (fun x => { x with
        lldpSeen := true, chassis := c, portId := i, ttl := ttl % 65536, heard := s.tick
        changed := if same ∧ x.lldpSeen then x.changed else s.now })
      if same then s else (s.partnerEvent p.val 0).sendLldp p.val)

/-- LLDP has been lost for three times its TTL (R498). -/
def Partner.lost (x : Partner) (tick : Nat) : Bool := x.lldpSeen && decide (x.heard + 3 * x.ttl * 800000000 ≤ tick)

/-- LLDP_TTL_EXPIRY (R498): the identity goes with the information (DEDUCED, log 50). -/
def execLldpTtlExpiry (p : Port) (s : State) : Res :=
  .next (if s.running && (s.partner p.val).lost s.tick then
      let s := s.modPartner p.val (fun x => { x with
        lldpSeen := false, chassis := [], portId := [], ttl := 0, changed := s.now })
      s.partnerEvent p.val 1
    else s)

/-- Seconds until the LLDP information ages out; a second is 800,000,000 fabric ticks. -/
def Partner.ttlLeft (x : Partner) (tick : Nat) : Nat :=
  if x.lldpSeen then (x.heard + x.ttl * 800000000 - tick) / 800000000 else 0

/-- The 48-byte partner record (R499). Whether the partner supports TC10, and the PLCA nodes heard, reach firmware in ways the
spec does not give: they are free while the link is up. -/
def State.partnerBytes (s : State) (p : Nat) : Bytes × State :=
  let x := s.partner p
  let up := s.isUp p
  let a := s.freeBits 1
  let b := a.2.freeBits 8
  let tc10 := up && decide (5 ≤ p) && a.1 == 1
  let nodes := if up ∧ 23 ≤ p then b.1.toNat else 0
  let role := if isT1 p then byteAt (s.phy p).mode 2 else 0xFF
  (w8 (b2n x.lldpSeen + 2 * b2n tc10 + 4 * b2n (up && (s.phy p).fastResult == 1) + 8 * b2n x.mkaPeer)
    ++ w8 (if up then rateCode p (s.phy p).rate else 0) ++ w8 role ++ w8 nodes ++ w8 x.chassis.length ++ w8 x.portId.length
    ++ w16 (x.ttlLeft s.tick) ++ padTo 16 x.chassis ++ padTo 16 x.portId ++ w64 x.changed, b.2)

/-! MKA. -/

/-- An MKA action on a port (R424): only on the port's own associations and on the key slots set aside for it; the SAK becomes
an imported child of the CAK's slot (log 46). -/
def State.mkaDo (s : State) (p : Nat) : MkaAction → State
  | .install sa key record value =>
    let m := vget s.crypt.ports p
    let old := tget? s.crypt.sas sa
    let tx := byteAt record 1 == 1
    let mine := match old with | none => true | some a => a.mka && byteAt a.record 0 == p && a.state == .installed
    let cak := s.keyOf m.cak
    if decide (sa < 512) && mine && byteAt record 0 == p && decide (byteAt record 1 ≤ 1) && decide (byteAt record 2 ≤ 3)
        && byteAt record 3 == m.mkaSuite && le record 4 2 == key && decide (m.sakFirst ≤ key)
        && decide (key < m.sakFirst + m.sakCount) && record.length == 48 && decide ((s.keyOf key).writes < 2 ^ 32 - 1) then
      let k : KeySlot :=
        { state := .valid, use := if tx then 1 else 2, alg := m.mkaSuite % 2, flags := 2, mask := 0, parent := m.cak
          depth := cak.depth + 1, writes := (s.keyOf key).writes + 1, label := [], context := [], value := padTo 32 value }
      (s.rewriteKey key k).installSa sa record true
    else s
  | .activate an =>
    match s.saOf p 1 an with
    | none => s
    | some i =>
      let a := tgetD s.crypt.sas i default
      if a.mka && a.state != .exhausted && a.state != .stale then s.selectSa p i else s
  | .delete sa =>
    match tget? s.crypt.sas sa with
    | none => s
    | some a => if a.mka && byteAt a.record 0 == p && !s.isActiveSa sa then s.freeSa sa else s
  | .peer live =>
    { s with meas := { s.meas with partners := vmod s.meas.partners p (fun x =>
      { x with mkaPeer := live, changed := if x.mkaPeer == live then x.changed else s.now }) } }

/-- MKA_FRAME_RECEIVE (R424): what the frame makes firmware do, while MKA_EN is set. -/
def execMkaFrameReceive (p : Port) (action : MkaAction) (s : State) : Res :=
  .next (if s.running && (vget s.crypt.ports p.val).mkaEn then (s.mkaDo p.val action).sendMka p.val else s)

/-! MEAS commands (R508). -/

/-- MEAS_GET_CAPS (R494, R538): a count and the range of each row, in the units of MEAS_READ and of the results. The row of
the partners states no range: 0 and 0 (DEDUCED, log 22). -/
def cmdMeasGetCaps : Cmd :=
  { op := 0x1100, lengthOk := lenIs 0, check := fun _ _ _ => none
    run := fun s _ _ _ =>
      (s, .done (stOk ([10, 0, 60000, 0, 6000, 0, 20000, toTwos 32 (-160), 600, 0, 1500, 0, 7, 0, 1000, 0, 400, 200, 10000,
        0, 0].flatMap w32))) }

/-- The camera currents from port `p` on, `k` of them. -/
def State.currents (s : State) (p : Nat) : Nat → List Nat × State
  | 0 => ([], s)
  | k + 1 =>
    let c := s.podlCurrent p
    let r := c.2.currents (p + 1) k
    (c.1 :: r.1, r.2)

/-- The values of one kind (R508). -/
def State.measured (s : State) (kind : Nat) : List Nat × State :=
  match kind with
  | 0 => ([s.meas.vbat], s)
  | 1 => (s.meas.rails.toList, s)
  | 2 => (s.meas.powers.toList, s)
  | 3 => (s.meas.temps.toList.map (toTwos 32), s)
  | 4 => s.currents 5 12
  | 5 => ((List.range 25).map (fun p => (s.phy p).sqi), s)
  | _ => (s.meas.load.toList, s)

/-- MEAS_READ. -/
def cmdMeasRead : Cmd :=
  { op := 0x1101, lengthOk := lenIs 4
    check := fun s n p => firstFail [inRange (byteAt p 0) 7 0, mayReadDevice s n]
    run := fun s _ _ p => let m := s.measured (byteAt p 0); (m.2, .done (stOk (m.1.flatMap w32))) }

/-- MEAS_RUN_TDR (R496): what the cable returns is free within the ranges of the result. -/
def cmdMeasRunTdr : Cmd :=
  { op := 0x1102, lengthOk := lenIs 4
    check := fun s n p => firstFail [need (isT1 (byteAt p 0)) (stBadParam 0), mustOwn s n 1 (byteAt p 0),
      need ((s.phy (byteAt p 0)).link == .down || (s.phy (byteAt p 0)).link == .disabled)
        (stWrongState 0x0301 (byteAt p 0) (s.phy (byteAt p 0)).link.code),
      between (byteAt p 1) 50 90 1]
    run := fun s _ _ _ =>
      let a := s.freeNat
      let b := a.2.freeBits 1
      let c := b.2.freeNat
      let st := a.1 % 5
      (c.2, .done (stOk (w8 st ++ w8 b.1.toNat ++ w16 (if st = 0 then 0 else c.1 % 401) ++ zeros 4))) }

/-- MEAS_RUN_TERM (R497): the resistance and what disturbs it are free; OPEN says that it is above 1,000 Ω. -/
def cmdMeasRunTerm : Cmd :=
  { op := 0x1103, lengthOk := lenIs 4
    check := fun s n p => firstFail [inRange (byteAt p 0) 16 0, mustOwn s n 2 (byteAt p 0),
      need ((s.canCh (byteAt p 0)).state == .off) (stWrongState 0x0A01 (byteAt p 0) (s.canCh (byteAt p 0)).state.code)]
    run := fun s _ _ _ =>
      let r := s.freeBits 32
      let f := r.2.freeBits 6
      (f.2, .done (stOk (w32 r.1.toNat ++ w8 (setBit f.1.toNat 1 (decide (10000 < r.1.toNat))) ++ zeros 3))) }

/-- MEAS_GET_PARTNER. -/
def cmdMeasGetPartner : Cmd :=
  { op := 0x1104, lengthOk := lenIs 4
    check := fun s n p => firstFail [inRange (byteAt p 0) 25 0, mayRead s n 1 (byteAt p 0)]
    run := fun s _ _ p => let b := s.partnerBytes (byteAt p 0); (b.2, .done (stOk b.1)) }

/-- MEAS_GET_CAPS. -/
def execMeasGetCaps (slot : Slot) (tag : Half) (payload : Bytes) (s : State) : Res :=
  .next (penyen cmdMeasGetCaps slot.val tag payload s)

/-- MEAS_READ. -/
def execMeasRead (slot : Slot) (tag : Half) (payload : Bytes) (s : State) : Res :=
  .next (penyen cmdMeasRead slot.val tag payload s)

/-- MEAS_RUN_TDR. -/
def execMeasRunTdr (slot : Slot) (tag : Half) (payload : Bytes) (s : State) : Res :=
  .next (penyen cmdMeasRunTdr slot.val tag payload s)

/-- MEAS_RUN_TERM. -/
def execMeasRunTerm (slot : Slot) (tag : Half) (payload : Bytes) (s : State) : Res :=
  .next (penyen cmdMeasRunTerm slot.val tag payload s)

/-- MEAS_GET_PARTNER. -/
def execMeasGetPartner (slot : Slot) (tag : Half) (payload : Bytes) (s : State) : Res :=
  .next (penyen cmdMeasGetPartner slot.val tag payload s)

end Sys2Proof.Machine
end

