-- ==== Sys2Proof/Machine/Drover.lean ====
section
/-! DEFINITION. The Drover: mandates, the loop, actions and their returns (R500 to R506). -/

namespace Sys2Proof.Machine

/-- One loop lasts 20 ms (R505). -/
def loopMs : Nat := 20

/-- `n` loops have lasted this many ms. -/
def lasted (n ms : Nat) : Bool := decide (ms ≤ n * loopMs)

/-- A decision that was taken. -/
def decided (action measured before after : Nat) : Decision :=
  { action := action, outcome := 0, measured := measured, before := before, after := after }

/-! Deferral (R506). -/

/-- Every shadow of a block equals its active copy. -/
def State.blockClean (s : State) (block : Nat) : Bool :=
  match block with
  | 0 => s.time.io.toList.all (fun x => x.active == x.shadow) && s.time.alarms.toList.all (fun x => x.active == x.shadow)
  | 1 => s.net.fwd.toList.all (fun x => x.active == x.shadow)
      && s.net.phys.toList.all (fun x => x.mode == x.modeShadow && x.plca == x.plcaShadow)
  | 2 => s.net.queues.toList.all (fun q => q.cfg == q.cfgShadow)
  | 3 => s.net.queues.toList.all (fun q => q.timing == q.timingShadow)
      && s.net.egress.toList.all (fun e => e.linkHold == e.linkHoldShadow)
  | 4 => s.net.meters.all (fun m => m.2.cfg == m.2.shadow)
  | 5 => s.net.filters.all (fun f => f.2.active == f.2.shadow) && s.net.sgates.toList.all (fun g => g.active == g.shadow)
  | _ => s.net.buffer.reserve == s.net.buffer.reserveShadow && s.net.buffer.alpha == s.net.buffer.alphaShadow
      && s.net.queues.toList.all (fun q => q.caps == q.capsShadow)

/-- The commit of a block's group must wait: a timed commit of it is armed, or another shadow of it differs. -/
def State.commitWaits (s : State) (block : Nat) : Bool :=
  s.armedFor block ||
    (List.range 7).any (fun b => s.groupOf b == s.groupOf block && !s.blockClean b)

/-- The swap of a CAN partition must wait: it is ARMED or RETIRING, or its staging holds unswapped writes. -/
def State.swapWaits (s : State) (part : Nat) : Bool :=
  let c := s.net.customs
  let here (t : Tbl Bytes) : Tbl Bytes := t.filter (fun e => e.1 / 1024 == part)
  vget c.parts (16 + part) != .idle || here c.canRules != here c.canStaged

/-- An action deferred: one ledger entry for each episode. -/
def State.deferAction (s : State) (i action measured : Nat) : State :=
  if (s.mandate i).deferred then s
  else
    (s.modMandate i (fun m => { m with deferred := true })).ledger i
      { action := action, outcome := 1, measured := measured, before := 0, after := 0 }

/-- The state of a mandate whose action was taken. -/
def State.acting (s : State) (i : Nat) (st : MandateState) : State :=
  s.modMandate i (fun m => { m with state := st, deferred := false, streak := 0, calm := 0, touched := false })

/-- An action that was taken: its state and its ledger entry. -/
def State.acted (s : State) (i : Nat) (st : MandateState) (d : Decision) : State := (s.acting i st).ledger i d

/-- Camera ports switched on: the state, and the ledger entry when the power comes (R466, R507). -/
def State.actedPorts (s : State) (i : Nat) (st : MandateState) (d : Decision) (ports : Nat) : State :=
  let waits := maskOf 17 (fun p => hasPodl p && bitOf ports p && (s.podlOf p).state == .inrushWait)
  (s.acting i st).ledgerPorts i d waits

/-- The owner has written the resource while the action was in effect (R504). -/
def State.endedByHost (s : State) (i action : Nat) : State :=
  (s.modMandate i (fun m => { m with
    state := .watching, deferred := false, streak := 0, calm := 0, touched := false })).ledger i
      { action := action, outcome := 3, measured := 0, before := 0, after := 0 }

/-! Kind 1, CAN_METER (R502). -/

/-- RATE and METER_MODE of a CAN rule written through staging and a swap of its partition (R188, R501). -/
def State.meterTo (s : State) (i rate mode : Nat) : State :=
  let r := (s.mandate i).resource
  let rule := tgetD s.net.customs.canRules r (zeros 32)
  let new := splice (splice rule 20 (w32 rate)) 17 (w8 mode)
  let s := s.modCustoms (fun c => { c with canStaged := tset c.canStaged r new })
  let s := s.swapCustoms
    { mask := 2 ^ (16 + r / 1024), instant := none, old := 0, swapped := false, slot := 16, tag := 0 }
  s.modMandate i (fun m => { m with mine := new })

/-- One update of the baseline, in units of 2⁻³² frame/s, rounded down (log 51). -/
def baselineNext (b h learn : Nat) (seeded : Bool) : Nat :=
  if seeded then ((b : Int) + ((h * 2 ^ 32 : Nat) - (b : Int)) * 2 / (100 * learn : Nat)).toNat else h * 2 ^ 32

/-- TIGHT × b as a RATE in milliframes/s, at least MIN_RATE and within the range of RATE. -/
def Mandate.tightRate (m : Mandate) : Nat := min 100000000 (max (m.param 4) (m.param 3 * m.baseline * 10 / 2 ^ 32))

/-- The action in effect is no longer the Drover's: the rule has been written and swapped. -/
def State.meterTaken (s : State) (m : Mandate) : Bool :=
  let c := s.net.customs
  tgetD c.canRules m.resource (zeros 32) != m.mine || (m.touched && !s.swapWaits (m.resource / 1024))

/-- RATE and METER_MODE return to the owner's values. -/
def State.meterBack (s : State) (i measured : Nat) : State :=
  let m := s.mandate i
  let now := le m.mine 20 4
  (s.meterTo i m.before m.beforeMode).acted i .watching (decided 2 measured now m.before)

/-- One loop of a CAN_METER mandate. -/
def State.loopMeter (s : State) (i : Nat) (act : Bool) : State :=
  let m := s.mandate i
  let hits := s.ctr (.cust m.resource .canHits)
  let h := (if hits < m.last then hits else hits - m.last) * 50
  let next := baselineNext m.baseline h (m.param 0) m.seeded
  let excess := decide (m.param 1 * next < h * 100 * 2 ^ 32)
  let tight := decide (h * 100 * 2 ^ 32 ≤ m.param 3 * m.baseline)
  let s := s.modMandate i (fun m => { m with last := hits })
  match m.state with
  | .acting =>
    let s := s.modMandate i (fun m => { m with calm := if tight then m.calm + 1 else 0 })
    if s.meterTaken m then s.endedByHost i 1
    else if act ∧ lasted (s.mandate i).calm (m.param 5 * 1000) then
      (if s.swapWaits (m.resource / 1024) then s.deferAction i 2 h else s.meterBack i h)
    else s
  | .learning =>
    s.modMandate i (fun m => { m with
      baseline := next, seeded := true, learned := m.learned + 1
      state := if lasted (m.learned + 1) (m.param 0 * 1000) then .watching else .learning })
  | _ =>
    let s := s.modMandate i (fun m => { m with
      baseline := next, seeded := true
      streak := if excess then m.streak + 1 else 0, deferred := m.deferred && excess })
    if act ∧ m.param 2 ≤ (s.mandate i).streak then
      if s.swapWaits (m.resource / 1024) then s.deferAction i 1 h
      else
        let rule := tgetD s.net.customs.canRules m.resource (zeros 32)
        let s := s.modMandate i (fun x => { x with
          before := le rule 20 4, beforeMode := byteAt rule 17 })
        let rate := (s.mandate i).tightRate
        (s.meterTo i rate 1).acted i .acting (decided 1 h (le rule 20 4) rate)
    else s

/-! Kind 2, QUARANTINE. -/

/-- The partner's identity differs from the one recorded at the grant (log 50). -/
def State.strange (s : State) (m : Mandate) : Bool :=
  let x := s.partner m.resource
  m.param 1 == 1 && x.lldpSeen && !(m.chassis.isEmpty && m.portId.isEmpty) && (x.chassis != m.chassis || x.portId != m.portId)

/-- One loop of a QUARANTINE mandate. -/
def State.loopQuarantine (s : State) (i : Nat) (act : Bool) : State :=
  let m := s.mandate i
  let p := m.resource
  let drops := s.ctr (.port p .customsDrop)
  let recent := ((if drops < m.last then drops else drops - m.last) :: m.recent).take 50
  let rate := recent.foldl (· + ·) 0
  let trigger := (m.param 0 != 0 && decide (m.param 0 < rate)) || s.strange m
  let s := s.modMandate i (fun m => { m with last := drops, recent := recent, calm := if trigger then 0 else m.calm + 1 })
  if m.state = .acting then
    if !s.net.customs.byDrover.contains p then s.endedByHost i 3
    else if act ∧ m.param 2 ≠ 0 ∧ lasted (s.mandate i).calm (m.param 2 * 1000) then
      (s.releaseQuarantine p 2).acted i .watching (decided 4 rate 0 0)
    else s
  else if act ∧ trigger ∧ !s.net.customs.quarantined.contains p then
    (s.quarantine p 2 0xFFFF).acted i .acting (decided 3 rate 0 0)
  else s

/-! Kind 3, PODL_RESTART (R503). -/

/-- A shed in effect concerns a port. -/
def State.shedNow (s : State) (p : Nat) : Bool :=
  s.drover.mandates.any (fun e => e.2.kind == 5 && e.2.state == .acting && bitOf e.2.before p)

/-- d(n) in ms. -/
def Mandate.delay (m : Mandate) : Nat := min (m.param 2) (m.param 1 * 2 ^ m.tries)

/-- One loop of a PODL_RESTART mandate. `tries` is n − 1. -/
def State.loopRestart (s : State) (i : Nat) (act : Bool) : State :=
  let m := s.mandate i
  let p := m.resource
  let x := s.podlOf p
  let fault := x.state == .fault && bitOf (m.param 0) x.cause && !x.hostOff
  let s := s.modMandate i (fun m => { m with
    streak := if fault then m.streak + 1 else 0, calm := if x.state = .powered then m.calm + 1 else 0 })
  let s := if lasted (s.mandate i).calm (m.param 4 * 1000) then s.modMandate i (fun m => { m with tries := 0 }) else s
  if !fault || !act || m.state = .givenUp || s.shedNow p then s
  else if m.param 3 ≤ m.tries then s.acted i .givenUp (decided 6 x.trip x.cause (m.tries + 1))
  else if lasted m.streak m.delay ∧ 0 < m.streak then
    let s := s.podlOn p
    (s.modMandate i (fun m => { m with tries := m.tries + 1 })).actedPorts i .watching
      (decided 5 x.trip x.cause (m.tries + 1)) (2 ^ p)
  else s

/-! Kind 4, THERMAL_RATE. -/

/-- The RATE code of a backbone port committed (R306). -/
def State.rateTo (s : State) (p code : Nat) : State :=
  let s := s.modPhy p (fun x => { x with modeShadow := splice x.modeShadow 1 (w8 code) })
  (s.commitGroupOf 1).modDrov (fun d => { d with rateLoops := 0 })

/-- The highest of the named sensors, in 0.25 °C. -/
def State.hotOf (s : State) (mask : Nat) : Int :=
  (maskList 6 mask).foldl (fun b k => max b (vget s.meas.temps k)) (-160)

/-- The Drover may change a backbone's rate (R504): at most one in any 1 s where both have THERMAL_RATE mandates. -/
def State.mayChangeRate (s : State) : Bool :=
  !([0, 1].all (fun p => s.drover.mandates.any (fun e => e.2.kind == 4 && e.2.resource == p))) || decide (50 ≤ s.drover.rateLoops)

/-- One loop of a THERMAL_RATE mandate. -/
def State.loopThermal (s : State) (i : Nat) (act : Bool) : State :=
  let m := s.mandate i
  let p := m.resource
  let t := s.hotOf (m.param 0)
  let hot := decide ((4 * m.param 1 : Nat) ≤ t)
  let cool := decide (t < (4 * m.param 2 : Nat))
  let code := byteAt (s.phy p).mode 1
  let s := s.modMandate i (fun m => { m with
    streak := if hot then m.streak + 1 else 0, calm := if cool then m.calm + 1 else 0
    deferred := m.deferred && (if m.state = .acting then cool else hot) })
  if m.state = .acting then
    if m.touched then s.endedByHost i 7
    else if act ∧ lasted (s.mandate i).calm (m.param 3 * 1000) ∧ s.mayChangeRate then
      (if s.commitWaits 1 then s.deferAction i 8 (toTwos 32 t)
       else (s.rateTo p m.before).acted i .watching (decided 8 (toTwos 32 t) code m.before))
    else s
  else if act ∧ 5 ≤ (s.mandate i).streak ∧ code ≠ m.param 4 ∧ s.mayChangeRate then
    if s.commitWaits 1 then s.deferAction i 7 (toTwos 32 t)
    else
      ((s.rateTo p (m.param 4)).modMandate i (fun m => { m with before := code })).acted i .acting
        (decided 7 (toTwos 32 t) code (m.param 4))
  else s

/-! Kind 5, CRANK_SHED. -/

/-- The ports of a mask that draw or wait for camera power, highest first. -/
def State.shedPorts (s : State) (mask : Nat) : List Nat :=
  ((List.range 17).filter (fun p => hasPodl p && bitOf mask p && ((s.podlOf p).state.drives
    || (s.podlOf p).state == .inrushWait))).reverse

/-- The shed ports are switched on again through the board budget; a port whose last host command was OFF stays. -/
def State.unshed (s : State) (mask : Nat) : State :=
  forAll ((List.range 17).filter (fun p => hasPodl p && bitOf mask p))
    (fun p s => if (s.podlOf p).hostOff ∨ (s.podlOf p).state ≠ .off then s else s.podlOn p) s

/-- One loop of the CRANK_SHED mandate: BEFORE holds the ports. A loop without a VBAT sample sheds nothing. -/
def State.loopShed (s : State) (i : Nat) (act : Bool) : State :=
  let m := s.mandate i
  let low := s.meas.vbatLow
  let s := s.modMandate i (fun x => { x with calm := if m.param 2 ≤ low then x.calm + 1 else 0 })
  let ports := s.shedPorts (m.param 0)
  if m.state = .acting ∧ m.before = 0 then s.endedByHost i 9
  else if act ∧ 0 < low ∧ low < m.param 1 ∧ !ports.isEmpty then
    let mask := ports.foldl (fun k p => setBit k p true) (if m.state = .acting then m.before else 0)
    let now := ports.foldl (fun k p => setBit k p true) 0
    let s := forAll ports (fun p s => s.podlTo p .off 0) s
    (s.modMandate i (fun x => { x with before := mask })).acted i .acting (decided 9 low now 0)
  else if act ∧ m.state = .acting ∧ lasted (s.mandate i).calm (m.param 3) then
    (s.unshed m.before).actedPorts i .watching (decided 10 low 0 m.before) m.before
  else s

/-! Kind 6, BUSOFF_RECOVER (R349, R503). -/

/-- One loop of a BUSOFF_RECOVER mandate. -/
def State.loopBusOff (s : State) (i : Nat) (act : Bool) : State :=
  let m := s.mandate i
  let c := m.resource
  let off := (s.canCh c).state == .busOff
  let recent := (m.recoveries.map (· + 1)).filter (fun a => decide (a < 3000))
  let s := s.modMandate i (fun m => { m with
    recoveries := recent, streak := if off then m.streak + 1 else 0, refused := m.refused && off })
  if !off || !act || !(lasted m.streak (m.param 0)) || m.streak = 0 then s
  else if m.param 1 ≤ recent.length then
    if m.refused then s
    else
      (s.modMandate i (fun m => { m with refused := true })).ledger i
        { action := 11, outcome := 2, measured := m.streak * loopMs, before := 0, after := 0 }
  else
    let s := s.canRecover c 5
    (s.modMandate i (fun m => { m with recoveries := 0 :: m.recoveries, refused := false })).acted i .watching
      (decided 11 (m.streak * loopMs) 0 0)

/-! Kind 7, SLEEP. -/

/-- One loop of the SLEEP mandate (R481, R505): the outcome goes to the ledger (R488). -/
def State.loopSleep (s : State) (i : Nat) (act : Bool) : State :=
  let m := s.mandate i
  if act ∧ lasted s.drover.idle (m.param 1 * 1000) ∧ s.sleep.phase = .awake then
    let s := s.modDrov (fun d => { d with sleeping := some i, idle := 0 })
    (s.beginSleep (m.param 0 == 1) false (m.param 2) (m.param 3) none).sleepBegun
  else s

/-! The loop (R505). -/

/-- One mandate is evaluated. -/
def State.loopOne (s : State) (i : Nat) (act : Bool) : State :=
  match (s.mandate i).kind with
  | 1 => s.loopMeter i act
  | 2 => s.loopQuarantine i act
  | 3 => s.loopRestart i act
  | 4 => s.loopThermal i act
  | 5 => s.loopShed i act
  | 6 => s.loopBusOff i act
  | _ => s.loopSleep i act

/-- One loop of a mandate while DROV_PAUSE is in force (R500): it is not evaluated, and what it counts starts anew at the next loop. -/
def State.loopPaused (s : State) (i : Nat) : State :=
  s.modMandate i (fun m => { m with
    last := if m.kind = 1 then s.ctr (.cust m.resource .canHits) else if m.kind = 2 then s.ctr (.port m.resource .customsDrop) else m.last
    recent := [] })

/-- One loop: the CAN bus loads are measured, the idle count moves, and the mandates are evaluated in index order unless paused. -/
def State.droverLoop (s : State) (load : List Nat) (overran : Bool) : State :=
  let s := (s.count (.drov .loops)).count (.drov .loopOverruns) (b2n overran)
  let s := s.modMeas (fun m => { m with load := vtab 16 (fun c => load.getD c 0) })
  let quiet := !s.drover.active && s.activePin.isNone
  let s := s.modDrov (fun d => { d with idle := if quiet then d.idle + 1 else 0, active := false, rateLoops := d.rateLoops + 1 })
  let s := forAll (s.drover.mandates.map (·.1)) (fun i s =>
    if s.drover.paused then s.loopPaused i else s.loopOne i (s.sleep.phase == .awake)) s
  s.modMeas (fun m => { m with vbatLow := m.vbat })

/-- DROVER_LOOP: `load` is the CAN bus load of the window in 0.1 %; `overran` says that its work runs past 20 ms. -/
def execDroverLoop (load : List Nat) (overran : Bool) (s : State) : Res :=
  .next (if s.running then s.droverLoop load overran else s)

/-! Ends of mandates (R500). -/

/-- The action of a mandate must wait under R506. -/
def State.revertWaits (s : State) (m : Mandate) : Bool :=
  m.state == .acting && ((m.kind == 1 && s.swapWaits (m.resource / 1024)) || (m.kind == 4 && s.commitWaits 1))

/-- The action in effect of a mandate undone, as in the Return column (R501). -/
def State.revert (s : State) (i : Nat) : State :=
  let m := s.mandate i
  if m.state ≠ .acting then s
  else
    match m.kind with
    | 1 => if s.meterTaken m then s else s.meterBack i 0
    | 2 =>
      if s.net.customs.byDrover.contains m.resource then
        (s.releaseQuarantine m.resource 2).acted i .watching (decided 4 0 0 0) else s
    | 4 =>
      if m.touched then s
      else (s.rateTo m.resource m.before).acted i .watching
        (decided 8 0 (byteAt (s.phy m.resource).mode 1) m.before)
    | 5 => (s.unshed m.before).actedPorts i .watching (decided 10 s.meas.vbat 0 m.before) m.before
    | _ => s

/-- A mandate ends, with or without revert; its end is in the ledger. -/
def State.endMandate (s : State) (i : Nat) (undo : Bool) : State :=
  let s := if undo ∧ !s.revertWaits (s.mandate i) then s.revert i else s
  (s.ledger i (decided 13 0 0 0)).modDrov (fun d => { d with mandates := tdel d.mandates i })

/-- The resource of R54 that a mandate lies on; none for the device. -/
def Mandate.resourceType (m : Mandate) : Option (Nat × Nat) :=
  if m.kind = 1 then some (7, m.resource / 1024)
  else if m.kind ≤ 4 then some (1, m.resource)
  else if m.kind = 6 then some (2, m.resource)
  else none

/-- The ownership of a resource leaves a slot: the mandates that it granted there end (R500). -/
def State.endMandates (s : State) (ty i n : Nat) : State :=
  forAll (s.drover.mandates.filter (fun e => e.2.slot == n && e.2.resourceType == some (ty, i)))
    (fun e s => s.endMandate e.1 (bitOf (byteAt e.2.record 1) 0)) s

end Sys2Proof.Machine
end

