-- ==== Sys2Proof/Machine/DrovCmds.lean ====
section
/-! DEFINITION. The DROV commands (R500, R501, R508, R509). -/

namespace Sys2Proof.Machine

/-- DROV_GET_CAPS (R538): mandates, ledger entries, and the loop period in the table's unit, ms. -/
def cmdDrovGetCaps : Cmd :=
  { op := 0x1200, lengthOk := lenIs 0, check := fun _ _ _ => none
    run := fun s _ _ _ => (s, .done (stOk ([128, 1024, 20].flatMap w32))) }

/-- The resources of each kind (R501): first and last. -/
def kindResource (kind : Nat) : Nat × Nat :=
  if kind = 1 then (0, 16383) else if kind = 2 then (0, 24) else if kind = 3 then (5, 16) else if kind = 4 then (0, 1)
  else if kind = 6 then (0, 15) else (0, 0)

/-- The number of parameters of each kind. -/
def kindParams (kind : Nat) : Nat :=
  if kind = 1 then 6 else if kind = 2 then 3 else if kind = 3 then 5 else if kind = 4 then 5
  else if kind = 5 then 4 else if kind = 6 then 2 else 4

/-- The ranges of the parameters of a record (R501), with the relations of TIGHT, COOL_C and RUN_MV. -/
def mandateRanges (r : Bytes) : Option Answer :=
  let v (k : Nat) : Nat := le r (4 + 4 * k) 4
  let b (k lo hi : Nat) : Option Answer := between (v k) lo hi (4 + 4 * k)
  let mask (k m : Nat) : Option Answer := need (v k &&& m == v k) (stBadParam (4 + 4 * k))
  firstFail (between (byteAt r 1) 0 1 1 ::
    match byteAt r 0 with
    | 1 => [b 0 60 86400, b 1 150 1000, b 2 1 250, b 3 100 200, need (decide (v 3 < v 1)) (stBadParam 16), b 4 1 100000000,
        b 5 1 3600]
    | 2 => [b 0 0 1000000, b 1 0 1, b 2 0 86400]
    | 3 => [mask 0 0x3E, b 1 100 60000, b 2 1000 600000, b 3 1 255, b 4 10 3600]
    | 4 => [mask 0 0x3F, b 1 85 125, b 2 60 (v 1 - 5), b 3 1 3600, b 4 2 3]
    | 5 => [mask 0 0x1FFE0, b 1 5500 20000, b 2 (v 1 + 1000) 30000, b 3 20 10000]
    | 6 => [b 0 10 10000, b 1 1 60]
    | _ => [b 0 0 1, b 1 10 86400, b 2 10 10000, b 3 100 60000])

/-- A slot may grant, end or read mandates of a kind on a resource: its owner, or S0 for the device. -/
def mandateOwner (s : State) (n kind res : Nat) : Option Answer :=
  match ({ (default : Mandate) with record := w8 kind ++ [0] ++ w16 res } : Mandate).resourceType with
  | some r => mustOwn s n r.1 r.2
  | none => mustBeS0 n

/-- The place of a grant (R500): the mandate of the same kind and resource, else the lowest that is FREE. -/
def State.mandatePlace (s : State) (r : Bytes) : Option Nat :=
  match s.drover.mandates.find? (fun e => e.2.kind == byteAt r 0 && e.2.resource == le r 2 2) with
  | some e => some e.1
  | none => (List.range 128).find? (fun i => (tget? s.drover.mandates i).isNone)

/-- The record as stored: unused parameters are 0. -/
def cleanMandate (r : Bytes) : Bytes := padTo 32 (r.take (4 + 4 * kindParams (byteAt r 0)))

/-- A mandate granted (R500): an action in effect stays in effect under the new one. -/
def State.grantMandate (s : State) (n i : Nat) (r : Bytes) : State :=
  let fresh : Mandate :=
    { (default : Mandate) with
      record := cleanMandate r, slot := n, state := if byteAt r 0 = 1 then .learning else .watching
      chassis := if byteAt r 0 = 2 then (s.partner (le r 2 2)).chassis else []
      portId := if byteAt r 0 = 2 then (s.partner (le r 2 2)).portId else []
      last := if byteAt r 0 = 1 then s.ctr (.cust (le r 2 2) .canHits)
        else if byteAt r 0 = 2 then s.ctr (.port (le r 2 2) .customsDrop) else 0 }
  let m : Mandate := match tget? s.drover.mandates i with
    | some o => if o.state = .acting then
        { fresh with
          state := .acting, baseline := o.baseline, seeded := o.seeded, before := o.before, beforeMode := o.beforeMode
          touched := o.touched, mine := o.mine }
      else fresh
    | none => fresh
  s.modDrov (fun d => { d with mandates := tset d.mandates i m })

/-- DROV_GRANT. -/
def cmdDrovGrant : Cmd :=
  { op := 0x1201, lengthOk := lenIs 32
    check := fun s n p => firstFail [between (byteAt p 0) 1 7 0,
      between (le p 2 2) (kindResource (byteAt p 0)).1 (kindResource (byteAt p 0)).2 2,
      mandateOwner s n (byteAt p 0) (le p 2 2), mandateRanges p, need (s.mandatePlace p).isSome stNoResource]
    run := fun s n _ p =>
      let i := (s.mandatePlace p).getD 0
      (s.grantMandate n i p, .done (stOk (w8 i))) }

/-- The mandate of a command, FREE or not: its object, and who may read it. -/
def mandateReads (s : State) (n : Nat) (p : Bytes) : Option Answer :=
  firstFail [inRange (byteAt p 0) 128 0,
    match (tget? s.drover.mandates (byteAt p 0)).bind Mandate.resourceType with
    | some r => mayRead s n r.1 r.2
    | none => mayReadDevice s n]

/-- DROV_REVOKE (R500): a FREE mandate is ST_WRONG_STATE; a revert that R506 would defer is ST_BUSY (log 51). -/
def cmdDrovRevoke : Cmd :=
  { op := 0x1202, lengthOk := lenIs 4
    check := fun s n p =>
      let i := byteAt p 0
      let m := s.mandate i
      firstFail [inRange i 128 0,
        (match tget? s.drover.mandates i with | some m => mandateOwner s n m.kind m.resource | none => none),
        need (tget? s.drover.mandates i).isSome (stWrongState 0x1201 i 0), flag p 1,
        need (!(byteAt p 1 == 1 && s.revertWaits m)) stBusy]
    run := fun s _ _ p => (s.endMandate (byteAt p 0) (byteAt p 1 == 1), .done (stOk [])) }

/-- Mandate state codes (R500). -/
def MandateState.code : MandateState → Nat
  | .learning => 1 | .watching => 2 | .acting => 3 | .givenUp => 4

/-- DROV_GET_MANDATE: b in frames/s for CAN_METER, n for PODL_RESTART, else 0 (log 51). -/
def cmdDrovGetMandate : Cmd :=
  { op := 0x1203, lengthOk := lenIs 4, check := mandateReads
    run := fun s _ _ p =>
      (s, .done (stOk (match tget? s.drover.mandates (byteAt p 0) with
        | none => zeros 38
        | some m => m.record ++ w8 (if s.drover.paused then 5 else m.state.code)
            ++ w32 (if m.kind = 1 then m.baseline / 2 ^ 32 else if m.kind = 3 then m.tries + 1 else 0) ++ w8 m.slot))) }

/-- DROV_READ_LEDGER (R507): the entries held whose SEQ lies in the range. -/
def cmdDrovReadLedger : Cmd :=
  { op := 0x1204, lengthOk := lenIs 8
    check := fun s n p => firstFail [mayReadDevice s n, between (le p 4 2) 1 64 4]
    run := fun s _ _ p =>
      let hit (e : Bytes) : Bool := decide ((le e 0 4 + 2 ^ 32 - le p 0 4) % 2 ^ 32 < le p 4 2)
      (s, .done (stOk ((s.drover.ledger.filter hit).flatMap id))) }

/-- DROV_PAUSE. -/
def cmdDrovPause : Cmd :=
  { op := 0x1205, lengthOk := lenIs 4, check := fun _ n p => firstFail [mustBeS0 n, flag p 0]
    run := fun s _ _ p => (s.modDrov (fun d => { d with paused := byteAt p 0 == 1 }), .done (stOk [])) }

/-- The Drover's counters in order (R509). -/
def drovCtrs : List Ctr :=
  [.loops, .loopOverruns, .actions, .deferred, .refused, .endedByHost, .ledgerOverwritten].map Ctr.drov

/-- DROV_GET_COUNTERS. -/
def cmdDrovGetCounters : Cmd :=
  { op := 0x1206, lengthOk := lenIs 0, check := fun s n _ => mayReadDevice s n
    run := fun s _ _ _ => (s, .done (stOk (counterBytes s drovCtrs))) }

/-- DROV_CLEAR_COUNTERS. -/
def cmdDrovClearCounters : Cmd :=
  { op := 0x1207, lengthOk := lenIs 0, check := fun _ n _ => mustBeS0 n
    run := fun s _ _ _ => (s.clearCtrs (fun k => drovCtrs.contains k), .done (stOk [])) }

/-- DROV_GET_CAPS. -/
def execDrovGetCaps (slot : Slot) (tag : Half) (payload : Bytes) (s : State) : Res :=
  .next (penyen cmdDrovGetCaps slot.val tag payload s)

/-- DROV_GRANT. -/
def execDrovGrant (slot : Slot) (tag : Half) (payload : Bytes) (s : State) : Res :=
  .next (penyen cmdDrovGrant slot.val tag payload s)

/-- DROV_REVOKE. -/
def execDrovRevoke (slot : Slot) (tag : Half) (payload : Bytes) (s : State) : Res :=
  .next (penyen cmdDrovRevoke slot.val tag payload s)

/-- DROV_GET_MANDATE. -/
def execDrovGetMandate (slot : Slot) (tag : Half) (payload : Bytes) (s : State) : Res :=
  .next (penyen cmdDrovGetMandate slot.val tag payload s)

/-- DROV_READ_LEDGER. -/
def execDrovReadLedger (slot : Slot) (tag : Half) (payload : Bytes) (s : State) : Res :=
  .next (penyen cmdDrovReadLedger slot.val tag payload s)

/-- DROV_PAUSE. -/
def execDrovPause (slot : Slot) (tag : Half) (payload : Bytes) (s : State) : Res :=
  .next (penyen cmdDrovPause slot.val tag payload s)

/-- DROV_GET_COUNTERS. -/
def execDrovGetCounters (slot : Slot) (tag : Half) (payload : Bytes) (s : State) : Res :=
  .next (penyen cmdDrovGetCounters slot.val tag payload s)

/-- DROV_CLEAR_COUNTERS. -/
def execDrovClearCounters (slot : Slot) (tag : Half) (payload : Bytes) (s : State) : Res :=
  .next (penyen cmdDrovClearCounters slot.val tag payload s)

end Sys2Proof.Machine
end

