-- ==== Sys2Proof/Machine/Rings.lean ====
section
/-! DEFINITION. Host frame rings (chapter 05 of the spec): their registers, the fetching of descriptors, the frames they hand
over, and the return of descriptors. -/

namespace Sys2Proof.Machine

/-- Ring `r` of slot `n`. -/
def State.ringAt (s : State) (n r : Nat) : Ring := vget (s.slot n).rings r

/-- Ring `r` of slot `n` changed. -/
def State.modRing (s : State) (n r : Nat) (f : Ring → Ring) : State :=
  s.modSlot n (fun x => { x with rings := vmod x.rings r f })

/-- The PCIe function of a slot; only such a slot has rings (R113). -/
def State.fnOf (s : State) (n : Nat) : Option (Fin 16) :=
  match (s.slot n).binding with
  | .pcie f => some f
  | _ => none

/-! Registers (R117, R118, R120). -/

/-- Descriptors of a ring. -/
def Ring.size (g : Ring) : Nat := 2 ^ g.sizeLog2.toNat

/-- The host address of descriptor `k` (R117). -/
def Ring.descAddr (g : Ring) (k : Nat) : Nat := g.baseHi.toNat * 2 ^ 32 + g.baseLo.toNat * 64 + 32 * (k % g.size)

/-- MBX_RINGr_CTRL as it reads. -/
def Ring.ctrl (g : Ring) : Nat :=
  b2n g.enable * 2 ^ 31 + b2n g.can * 2 ^ 24 + g.tcMask.toNat * 2 ^ 16 + b2n g.irqEn * 2 ^ 12 + b2n g.tsAll * 2 ^ 11
    + g.defaultTc.toNat * 2 ^ 8 + g.sizeLog2.toNat

/-- The writable bits of MBX_RINGr_CTRL other than ENABLE and IRQ_EN: of a transmit ring, of a receive ring (R117). -/
def Ring.ctrlMask (rx : Bool) : Nat := if rx then 0x01FF080F else 0x0100070F

/-- DROPS with one more, saturating (R117). -/
def Ring.drop (g : Ring) : Ring := { g with drops := if g.drops = 0xFFFF then g.drops else g.drops + 1 }

/-- The fields of CTRL other than ENABLE, as a write stores them. -/
def Ring.setFields (g : Ring) (rx : Bool) (v : Nat) : Ring :=
  { g with
    can := bitOf v 24, irqEn := bitOf v 12
    tcMask := if rx then BitVec.ofNat 8 (bitsOf v 16 8) else g.tcMask
    tsAll := if rx then bitOf v 11 else g.tsAll
    defaultTc := if rx then g.defaultTc else BitVec.ofNat 3 (bitsOf v 8 3)
    sizeLog2 := BitVec.ofNat 4 (v % 16) }

/-- An open chain of a ring that fetches no more and has nothing left to take ends as broken (R123, log 53). -/
def Ring.breakChain (g : Ring) : Ring :=
  if g.enable || !g.queue.isEmpty || g.chain.isEmpty then g
  else
    { g with
      chain := []
      frames := g.frames ++ [{ can := g.can, descs := g.chain.map (·.desc), number := 0, status := some 7, stamp := none }] }

/-- A write of MBX_RINGr_CTRL (R118, R120): while ENABLE is 1 only ENABLE and IRQ_EN change, and a write that would change another
field sets CFG_ERR; enabling starts at descriptor 0, and a size outside 6 to 12 does not enable. An open chain that can
never end is broken once every fetched descriptor has had its turn (DEDUCED, log 53). -/
def Ring.writeCtrl (g : Ring) (rx : Bool) (v : Nat) : Ring :=
  if g.enable then
    let m := Ring.ctrlMask rx
    let g := { g with irqEn := bitOf v 12, cfgErr := g.cfgErr || (v &&& m) != (g.ctrl &&& m) }
    if bitOf v 31 then g
    else
      ({ g with enable := false, stopped := false } : Ring).breakChain
  else
    let g := g.setFields rx v
    if !bitOf v 31 then g
    else if 6 ≤ v % 16 ∧ v % 16 ≤ 12 then
      { g with enable := true, tail := 0, head := 0, fetched := 0, stopped := false, queue := [], chain := [], frames := [] }
    else { g with cfgErr := true }

/-- A frame of a transmit ring no longer has a descriptor to answer; its record goes with its last copy. -/
def State.forgetRing (s : State) (n r : Nat) : State :=
  let l := s.net.frames.filter (fun f => f.ring == some (n, r))
  forAll l (fun f s => (s.modFrame f.id (fun f => { f with ring := none })).settleFrame f.id) s

/-- A write of MBX_RINGr_CTRL on the slot's ring. -/
def State.ringCtrl (s : State) (n r v : Nat) : State :=
  let was := (s.ringAt n r).enable
  let s := s.modRing n r (fun g => g.writeCtrl (decide (4 ≤ r)) v)
  if !was && (s.ringAt n r).enable then s.forgetRing n r else s

/-- A write of MBX_RINGr_BASE_LO or BASE_HI (R118). -/
def State.ringBase (s : State) (n r : Nat) (hi : Bool) (v : Word) : State :=
  s.modRing n r (fun g =>
    if g.enable then { g with cfgErr := true }
    else if hi then { g with baseHi := v }
    else { g with baseLo := BitVec.ofNat 26 (v.toNat / 64) })

/-- A write of MBX_RINGr_TAIL (R117, R122): on an enabled ring, more descriptors than the ring holds is undefined. The device has
descriptors to read from now on. -/
def State.ringTail (s : State) (n r v : Nat) : Res :=
  let g := s.ringAt n r
  let t := BitVec.ofNat 16 v
  if g.enable && decide (g.size < (t - g.head).toNat) then .fault .ringMisuse
  else .next (s.modRing n r (fun g => { g with tail := t, stopped := g.enable && t != g.fetched }))

/-- A write of MBX_RINGr_STAT (R117): W1C bits, and DROPS cleared by writing 0. DESIGN CHOICE (log 53): another value written to
DROPS is stored. -/
def State.ringStat (s : State) (n r v : Nat) : State :=
  s.modRing n r (fun g => { g with
    cfgErr := g.cfgErr && !bitOf v 30, dmaErr := g.dmaErr && !bitOf v 29, drops := BitVec.ofNat 16 v })

/-- A ring register as it reads (R113, R117): 0 for a slot that has no rings. -/
def State.ringRead (s : State) (n r k : Nat) : Nat :=
  let g := s.ringAt n r
  if (s.fnOf n).isNone then 0
  else if k = 0 then g.baseLo.toNat * 64
  else if k = 4 then g.baseHi.toNat
  else if k = 8 then g.ctrl
  else if k = 12 then g.tail.toNat
  else if k = 16 then g.head.toNat
  else b2n (g.fetched != g.head) * 2 ^ 31 + b2n g.cfgErr * 2 ^ 30 + b2n g.dmaErr * 2 ^ 29 + g.drops.toNat

/-! Descriptors (R119, R123). -/

/-- The control word of a descriptor. -/
def descCtrl (d : Bytes) : Nat := le d 28 4

/-- A descriptor with the control word of its return: OWN clear, DONE set, TS and STATUS as given, the rest as handed over. -/
def returned (body : Bytes) (ctrl : Nat) (ts : Bool) (status : Nat) : Bytes :=
  padTo 28 body ++ w32 (bitsOf ctrl 26 4 * 2 ^ 26 + 2 ^ 30 + b2n ts * 2 ^ 25 + bitsOf ctrl 20 5 * 2 ^ 20 + status)

/-- Bytes 0 to 27 of a descriptor are written, then its control word (R119). -/
def State.writeDesc (s : State) (fn : Fin 16) (addr : Nat) (d : Bytes) : State :=
  (s.emit (.hostWrite fn addr (d.take 28))).emit (.hostWrite fn (addr + 28) (d.drop 28))

/-- A frame fetched whole joins those to be returned. -/
def State.pushTx (s : State) (n r : Nat) (descs : List Bytes) (number : Nat) (status : Option Nat) : State :=
  s.modRing n r (fun g => { g with frames := g.frames ++
    [{ can := g.can, descs := descs, number := number, status := status.map (BitVec.ofNat 16), stamp := none }] })

/-- A status that no rule gives (log 33). -/
def State.freeStatus (s : State) : Nat × State :=
  let v := s.freeBits 16
  (v.1.toNat, v.2)

/-- The VID under which a slot's frame is classified (R134). -/
def State.hostVid (s : State) (b : Bytes) : Nat :=
  let h := parse false b.length b
  let v := h.tci % 4096
  if 0 < h.tags ∧ v ≠ 0 then v else le (s.fwd 25) 0 2

/-- The descriptor status of a refused frame: DS_DENIED, DS_ADMISSION; for the other causes the spec gives none (log 33). -/
def State.refusalStatus (s : State) (c : Cause) : Nat × State :=
  match c with
  | .customs => (1, s)
  | .admission | .noWaybill => (2, s)
  | _ => s.freeStatus

/-- An Ethernet frame fetched whole from a transmit ring (R115, R116, R123, R124). Class, launch time, DIRECT and TS are those of
the frame's first descriptor (DEDUCED, log 53). -/
def State.sendEth (s : State) (n r : Nat) (l : List DescRead) : State :=
  let descs := l.map (·.desc)
  let bytes := l.flatMap (fun d => d.data.take (le d.desc 8 2))
  let d := descs.headD []
  let ctrl := descCtrl d
  let direct := le d 10 2
  if l.any (·.dmaErr) then
    (s.modRing n r (fun g => { g with dmaErr := true })).pushTx n r descs 0 (some 6)
  else if bytes.length < 14 ∨ 9212 < bytes.length then s.pushTx n r descs 0 (some 9)
  else if (s.net.customs.ruledZone (memberCode 25 n) (s.hostVid bytes)).isNone then s.pushTx n r descs 0 (some 10)
  else if bitOf direct 15 ∧ 24 < direct % 32 then
    let v := s.freeStatus
    v.2.pushTx n r descs 0 (some v.1)
  else
    let x : Intake :=
      { port := 25, slot := n, bytes := bytes, ended := true, maxFrame := 9216, stamp := s.now
        stampFrac := s.time.frac / 65536, preempt := false
        direct := if bitOf direct 15 then some (direct % 32) else none
        tc := some (if bitOf ctrl 23 then bitsOf ctrl 20 3 else (s.ringAt n r).defaultTc.toNat)
        launch := if bitOf ctrl 24 then some (le d 12 4) else none, ring := some (n, r) }
    let q := s.wholeFrame x
    match q.1.frame, q.1.refused with
    | some fid, _ => q.2.pushTx n r descs fid none
    | none, some c =>
      let v := q.2.refusalStatus c
      v.2.pushTx n r descs 0 (some v.1)
    | none, none =>
      let v := q.2.freeStatus
      v.2.pushTx n r descs 0 (some v.1)

/-- The frame of a CAN descriptor (R127). -/
def descFrame (d data : Bytes) : CanFrame :=
  let f := byteAt d 18
  { id := le d 8 4 % 2 ^ 31, af := if f % 4 = 2 then le d 12 4 else 0
    format := if f % 4 = 1 then f % 16 else if f % 4 = 2 then 2 + 16 * b2n (bitOf f 4) else f % 4
    sdt := if f % 4 = 2 then byteAt d 19 else 0, vcid := if f % 4 = 2 then byteAt d 20 else 0
    data := data.take (le d 16 2) }

/-- A CAN frame fetched from a transmit ring goes to the relay complex as if it came from its virtual port (R127). -/
def State.sendCan (s : State) (n r : Nat) (d : DescRead) : State :=
  let f := descFrame d.desc d.data
  let ctrl := descCtrl d.desc
  if !(bitOf ctrl 27 && bitOf ctrl 26) then s.pushTx n r [d.desc] 0 (some 7)
  else if d.dmaErr then (s.modRing n r (fun g => { g with dmaErr := true })).pushTx n r [d.desc] 0 (some 6)
  else if !f.lengthOk || decide (f.data.length < le d.desc 16 2) then s.pushTx n r [d.desc] 0 (some 9)
  else
    let k := s.net.nextFrame
    let m : RMsg :=
      { source := 0x100 + 16 * n + byteAt d.desc 21 % 16, frame := f, stamp := s.now, acf := none
        launch := if bitOf ctrl 24 then some (le d.desc 24 4) else none
        ring := some { slot := n, ring := r, number := k, ts := bitOf ctrl 25 }, entry := none, charged := false }
    let s := s.modNet (fun x => { x with nextFrame := k + 1 })
    (s.modRelay (fun x => { x with waiting := x.waiting ++ [m] })).pushTx n r [d.desc] k none

/-- One descriptor of an Ethernet transmit ring joins its frame (R123). -/
def State.chainEth (s : State) (n r : Nat) (d : DescRead) : State :=
  let g := s.ringAt n r
  let ctrl := descCtrl d.desc
  let add (l : List DescRead) (s : State) : State :=
    if bitOf ctrl 26 then (s.modRing n r (fun g => { g with chain := [] })).sendEth n r l
    else s.modRing n r (fun g => { g with chain := l })
  if bitOf ctrl 27 then
    if g.chain.isEmpty then add [d] s
    else add [d] (s.pushTx n r (g.chain.map (·.desc)) 0 (some 7))
  else if g.chain.isEmpty then s.pushTx n r [d.desc] 0 (some 7)
  else if 16 ≤ g.chain.length then
    (s.modRing n r (fun g => { g with chain := [] })).pushTx n r (g.chain.map (·.desc) ++ [d.desc]) 0 (some 7)
  else add (g.chain ++ [d]) s

/-- One descriptor of a frame whose turn it is: of a kind other than its ring's, it returns DS_KIND_ERR with the frame it breaks
(R123). -/
def State.takeDesc (s : State) (n r : Nat) (d : DescRead) : State :=
  let g := s.ringAt n r
  if (bitsOf (descCtrl d.desc) 28 2 == 1) != g.can || decide (1 < bitsOf (descCtrl d.desc) 28 2) then
    (s.modRing n r (fun g => { g with chain := [] })).pushTx n r (g.chain.map (·.desc) ++ [d.desc]) 0 (some 8)
  else if g.can then s.sendCan n r d
  else s.chainEth n r d

/-- The descriptors that TAIL covers are fetched in order, up to one with OWN clear (R119). -/
def Ring.fetch (g : Ring) : List DescRead → Ring
  | [] => g
  | d :: ds =>
    if g.fetched = g.tail ∨ !bitOf (descCtrl d.desc) 31 then g
    else Ring.fetch { g with fetched := g.fetched + 1, queue := g.queue ++ [d] } ds

/-- Ethernet frames of hosts wait for the end of the memory test and stop with forwarding in PREPARE (R460, R485). -/
def State.hostFrames (s : State) : Bool := s.memTest.result != 2 && s.sleep.phase != .prepare

/-- A transmit ring may fetch (R113, R120, R121): enabled, its slot bound to PCIe and not FENCED. -/
def State.mayFetch (s : State) (n r : Nat) : Bool :=
  let g := s.ringAt n r
  decide (r < 4) && g.enable && (s.fnOf n).isSome && (s.slot n).state != .fenced && (g.can || s.hostFrames)

/-- The descriptors of the frame at a ring's front: up to the one with LAST. -/
def frontFrame : List DescRead → List DescRead
  | [] => []
  | d :: ds => if bitOf (descCtrl d.desc) 26 then [d] else d :: frontFrame ds

/-- One frame of a transmit ring has its turn (R125). An Ethernet frame takes F25 for its length at 25.6 Gbit/s, which is 4 bytes in a
tick. -/
def State.serveRing (s : State) (n r : Nat) : State :=
  let g := s.ringAt n r
  let l := frontFrame g.queue
  let bytes : Nat := if g.can then 0 else (l.map (fun d => d.data.length)).foldl (fun (a b : Nat) => a + b) 0
  let s := s.modNet (fun x => { x with ringTurn := 4 * n + r + 1, f25Free := s.tick + (bytes + 3) / 4 })
  let s := s.modRing n r (fun g => { g with queue := g.queue.drop l.length })
  (forAll l (fun d s => s.takeDesc n r d) s).modRing n r Ring.breakChain

/-- The transmit rings of all slots are served round-robin, one frame per turn, while F25 is free (R125). -/
def State.serveRings (s : State) : State :=
  let ready (k : Nat) : Bool :=
    let g := s.ringAt (k / 4) (k % 4)
    !g.queue.isEmpty && (g.can || s.hostFrames)
  if s.tick < s.net.f25Free then s
  else
    match turn s.net.ringTurn ((List.range 64).filter ready) with
    | none => s
    | some k => s.serveRing (k / 4) (k % 4)

/-- A fetch with the descriptors as the device reads them from host memory; the ring whose turn it is is served. -/
def State.ringFetch (s : State) (n r : Nat) (descs : List DescRead) : State :=
  if !s.mayFetch n r then s
  else
    (s.modRing n r (fun g =>
      let g := g.fetch descs
      { g with stopped := g.fetched != g.tail })).serveRings

/-! Return of transmit descriptors (R119, R124, R125, R127). -/

/-- The frame a ring returns next, if its fate is known: its status, and the frame record. -/
def State.txReady (s : State) (f : RingTx) : Option (Option Half × Option Frame) :=
  match f.status with
  | some v => some (some v, none)
  | none =>
    if f.can then none
    else
      match s.frame? f.number with
      | none => none
      | some x =>
        if !x.ruled || !(s.copiesOf x.id).isEmpty then none
        else if 1 ≤ x.copies then some (some 0, some x)
        else some (x.firstDrop.map (BitVec.ofNat 16), some x)

/-- An Ethernet transmit descriptor as returned (R124): stamps and copies in LAST only, LAUNCH_IGNORED in every descriptor of a frame
that was handed over. -/
def ethReturn (d : Bytes) (status : Nat) (f : Option Frame) : Bytes :=
  let ctrl := descCtrl d
  let last := bitOf ctrl 26
  let stamp := if last && bitOf ctrl 25 then f.bind (·.egressStamp) else none
  let copies := match f with | some f => if last then f.copies else 0 | none => 0
  let ignored := bitOf ctrl 24 && (match f with | some f => !f.launchUsed | none => false)
  let head := match stamp with
    | some (p, ns, frac) => w64 ns ++ w16 frac ++ w16 p
    | none => w64 0 ++ w16 0 ++ w16 0xFFFF
  returned (head ++ slice d 12 12 ++ w16 copies ++ w16 (b2n ignored)) ctrl stamp.isSome status

/-- A CAN transmit descriptor as returned (R127): TS_NS is the SOF time of the first frame sent, where TS asked for it. A frame that no
channel sent returns TS clear and TS_NS 0 (DEDUCED from R124, log 53). -/
def canReturn (d : Bytes) (status : Nat) (stamp : Option Nat) : Bytes :=
  let ts := bitOf (descCtrl d) 25 && status == 0 && stamp.isSome
  returned (w64 (if ts then stamp.getD 0 else 0) ++ slice d 8 20) (descCtrl d) ts status

/-- Descriptors written back at HEAD, HEAD moved past them (R119). A receive descriptor is read when its frame comes and returned at
once, so its ring holds none between commands (DEDUCED, log 53). -/
def State.writeBack (s : State) (fn : Fin 16) (n r : Nat) (l : List Bytes) : State :=
  forAll l (fun d s =>
    let g := s.ringAt n r
    (s.writeDesc fn (g.descAddr g.head.toNat) d).modRing n r (fun g => { g with
      head := g.head + 1, fetched := if r < 4 then g.fetched else g.head + 1 })) s

/-- The end of a return: the cause is set if IRQ_EN is 1 (R119): 2 RING_TX, 3 RING_RX. -/
def State.ringCause (s : State) (n r c : Nat) : State := if (s.ringAt n r).irqEn then s.setCause n c else s

/-- The oldest frame of a transmit ring returns, if its fate is known (R124, R125, R127). -/
def State.returnTx (s : State) (n r : Nat) (can : Bool) : State :=
  match s.fnOf n, (s.ringAt n r).frames with
  | some fn, f :: fs =>
    if f.can != can then s
    else
      match s.txReady f with
      | none => s
      | some (st, x) =>
        let v := match st with
          | some v => (v.toNat, s)
          | none => s.freeStatus
        let s := v.2
        let s := s.writeBack fn n r (f.descs.map (fun d => if can then canReturn d v.1 f.stamp else ethReturn d v.1 x))
        let s := s.modRing n r (fun g =>
          let g := { g with frames := fs }
          if v.1 = 0 then g else g.drop)
        let s := match x with
          | some x => (s.modFrame x.id (fun y => { y with ring := none })).settleFrame x.id
          | none => s
        s.ringCause n r 2
  | _, _ => s

/-! Receive rings (R126, R127). -/

/-- The ring that takes a frame of a class: the lowest-numbered enabled receive ring of its kind. -/
def State.rxRing (s : State) (n : Nat) (can : Bool) (tc : Nat) : Option Nat :=
  if (s.fnOf n).isNone then none
  else [4, 5, 6, 7].find? (fun r => let g := s.ringAt n r; g.enable && g.can == can && g.tcMask.getLsbD tc)

/-- The descriptors a ring has for a frame: those TAIL covers, up to the first with OWN clear. -/
def Ring.posted (g : Ring) (l : List DescRead) : List DescRead :=
  (l.take (g.tail - g.head).toNat).takeWhile (fun d => bitOf (descCtrl d.desc) 31)

/-- The descriptor is of its ring's kind (R123). -/
def kindOk (can : Bool) (d : DescRead) : Bool := bitsOf (descCtrl d.desc) 28 2 == b2n can

/-- Leading descriptors of the wrong kind return DS_KIND_ERR (R123); the rest stay for the frame. -/
def State.skipKind (s : State) (fn : Fin 16) (n r : Nat) : List DescRead → List DescRead × State
  | [] => ([], s)
  | d :: ds =>
    if kindOk (s.ringAt n r).can d then (d :: ds, s)
    else (s.writeBack fn n r [returned (d.desc.take 28) (descCtrl d.desc) false 8]).skipKind fn n r ds

/-- The buffers that a frame fills: at most 16, each with its part of the frame. -/
def fillBufs (b : Bytes) : Nat → List DescRead → List (DescRead × Bytes)
  | 0, _ => []
  | _, [] => []
  | k + 1, d :: ds =>
    let m := le d.desc 8 2
    (d, b.take m) :: (if b.length ≤ m then [] else fillBufs (b.drop m) k ds)

/-- The ring whose DROPS counts a frame that no enabled ring takes (R120, R126): the lowest-numbered receive ring of its kind whose
TC_MASK holds its class, or of its kind, or ring 4. The rule says only "that ring" (DESIGN CHOICE, log 53). -/
def State.missRing (s : State) (n : Nat) (can : Bool) (tc : Nat) : Nat :=
  let of_ := [4, 5, 6, 7].filter (fun r => (s.ringAt n r).can == can)
  match of_.find? (fun r => (s.ringAt n r).tcMask.getLsbD tc) with
  | some r => r
  | none => of_.headD 4

/-- A frame that a slot's rings cannot take is dropped and counted in the DROPS of the chosen ring (R126). A slot without rings counts
nothing (R113). -/
def State.countRxDrop (s : State) (n : Nat) (can : Bool) (tc : Nat) (r : Option Nat) : State :=
  if (s.fnOf n).isNone then s else s.modRing n (r.getD (s.missRing n can tc)) Ring.drop

/-- The control word of a returned receive descriptor. -/
def rxCtrl (can first last ts : Bool) (tc status : Nat) : Nat :=
  2 ^ 30 + b2n can * 2 ^ 28 + b2n first * 2 ^ 27 + b2n last * 2 ^ 26 + b2n ts * 2 ^ 25 + tc * 2 ^ 20 + status

/-- A buffer and its descriptor written (R119). -/
def State.fillOne (s : State) (fn : Fin 16) (n r : Nat) (d : DescRead) (data body : Bytes) (ctrl : Nat) : State :=
  let s := s.emit (.hostWrite fn (le d.desc 0 8) data)
  s.writeBack fn n r [padTo 28 body ++ w32 ctrl]

/-- The parts of a frame written, with `first` for the first of them (R126). `head` makes bytes 0 to 27 from the part's length and
whether it is the last. -/
def State.fillAll (s : State) (fn : Fin 16) (n r : Nat) (can ts : Bool) (tc status : Nat) (head : Nat → Bool → Bytes)
    (first : Bool) : List (DescRead × Bytes) → State
  | [] => s
  | (d, b) :: l =>
    let last := l.isEmpty
    (s.fillOne fn n r d b (head b.length last) (rxCtrl can first last ts tc status)).fillAll fn n r can ts tc status head false l

/-- A frame written to the buffers of ring `r` (R126): DS_TRUNC where it does not fit, DS_DMA_ERR where an access failed. -/
def State.rxWrite (s : State) (fn : Fin 16) (n r : Nat) (can ts : Bool) (tc : Nat) (bytes : Bytes)
    (bufs : List (DescRead × Bytes)) (head : Nat → Bool → Bytes) : State :=
  let dma := bufs.any (fun e => e.1.dmaErr)
  let whole : Nat := (bufs.map (fun e => e.2.length)).foldl (fun (a b : Nat) => a + b) 0
  let status := if dma then 6 else if whole < bytes.length then 12 else 0
  let s := if dma then s.modRing n r (fun g => { g with dmaErr := true }) else s
  (s.fillAll fn n r can ts tc status head true bufs).ringCause n r 3

/-- The buffers of a frame on ring `r`, and the state after descriptors of the wrong kind have returned; none where the slot is
FENCED or no descriptor is posted (R121, R126). -/
def State.rxBufs (s : State) (fn : Fin 16) (n r : Nat) (b : Bytes) (most : Nat) (descs : List DescRead) :
    List (DescRead × Bytes) × State :=
  if (s.slot n).state = .fenced then ([], s)
  else
    let l := (s.ringAt n r).posted descs
    let k := s.skipKind fn n r l
    let s := if k.1.length < l.length then k.2.ringCause n r 3 else k.2
    (fillBufs b most (k.1.takeWhile (kindOk (s.ringAt n r).can)), s)

/-- A copy at F25 is dropped (R126): the reason that a transmit descriptor would report is free (log 33). -/
def State.rxDropEth (s : State) (w : Waybill) (r : Option Nat) : State :=
  let v := (s.countRxDrop w.slot false w.tc r).freeStatus
  v.2.dropCopy w v.1

/-- A copy that has reached F25 goes to its slot's receive ring, or is dropped (R126). -/
def State.rxEth (s : State) (w : Waybill) (f : Frame) (descs : List DescRead) : State :=
  match s.fnOf w.slot, s.rxRing w.slot false w.tc with
  | some fn, some r =>
    let bytes := s.copyBytes f w s.fresh
    let s : State := { s with fresh := s.fresh + 1 }
    let k := s.rxBufs fn w.slot r bytes 16 descs
    let s := k.2
    if k.1.isEmpty then s.rxDropEth w (some r)
    else
      let ts := (s.ringAt w.slot r).tsAll || f.wantStamp
      let h := parse false f.lim f.bytes
      let st := if ts then (w64 f.stamp ++ w16 f.stampFrac, s) else s.freeBytes 10
      let s := st.2
      let head (len : Nat) (last : Bool) : Bytes :=
        st.1 ++ w16 len ++ w8 f.ingress ++ w8 (if f.ingress = 25 then f.slot else 0xFF)
          ++ w16 (if 0 < h.tags then h.tci else 0)
          ++ w32 (match w.mirror with | some i => i | none => 0xFFFFFFFF)
          ++ w32 (if last then bytes.length else 0)
      let s := s.rxWrite fn w.slot r false ts w.tc bytes k.1 head
      (s.countTx 25 w.tc (bytes.length + 4) false).deliverCopy w
  | _, r => s.rxDropEth w r

/-- A CAN frame routed to a virtual port goes to its slot's CAN receive ring, in one descriptor, or is dropped (R127). A frame from a
virtual port has no start of frame on a channel: its descriptor leaves TS clear (DEDUCED, log 53). -/
def State.rxCan (s : State) (v : VOut) (descs : List DescRead) : State :=
  let s := s.modRelay (fun x => { x with vout := x.vout.erase v })
  match s.fnOf v.slot, s.rxRing v.slot true v.tc with
  | some fn, some r =>
    let k := s.rxBufs fn v.slot r v.frame.data 1 descs
    let s := k.2
    if k.1.isEmpty then (s.countRxDrop v.slot true v.tc (some r)).hostWritten v false
    else
      let virt := decide (0x100 ≤ v.source) && decide (v.source < 0x200)
      let st := if virt then s.freeBytes 8 else (w64 v.stamp, s)
      let s := st.2
      let f := v.frame
      let head (_ : Nat) (_ : Bool) : Bytes :=
        st.1 ++ w32 f.id ++ w32 f.af ++ w16 f.data.length ++ w8 f.format ++ w8 f.sdt ++ w8 f.vcid ++ w8 v.vport
          ++ w16 v.source ++ w32 0
      (s.rxWrite fn v.slot r true (!virt) v.tc f.data k.1 head).hostWritten v true
  | _, r => (s.countRxDrop v.slot true v.tc r).hostWritten v false

/-- The oldest frame for a slot's CAN receive rings. -/
def State.voutOf (s : State) (n : Nat) : Option VOut := s.relay.vout.find? (fun v => v.slot == n)

/-- A copy for a slot that has reached F25 whole and confirmed (R17, R126). -/
def State.atHost (s : State) (n i : Nat) : Option (Waybill × Frame) :=
  match s.waybill? i with
  | none => none
  | some w =>
    match s.frame? w.frame with
    | none => none
    | some f => if w.egress == 25 && w.slot == n && f.confirmed && f.allCrossed w.crossed then some (w, f) else none

/-- The rings of a slot end with its binding (R121): no further descriptor is written. -/
def State.dropRings (s : State) (n : Nat) : State :=
  let s := forAll (List.range 4) (fun r s => s.forgetRing n r) s
  s.modSlot n (fun x => { x with rings := Vector.replicate 8 Ring.reset })

/-! Rows. -/

/-- RING_FETCH_RETRY (R119): the device reads the descriptor at which it stopped again. -/
def execRingFetchRetry (n : Slot) (r : Fin 8) (descs : List DescRead) (s : State) : Res :=
  .next (if (s.ringAt n r).stopped then s.ringFetch n r descs else s)

/-- TX_DESCRIPTOR_RETURN. -/
def execTxDescriptorReturn (n : Slot) (r : Fin 8) (s : State) : Res := .next (s.returnTx n r false)

/-- CAN_TX_DESCRIPTOR_RETURN. -/
def execCanTxDescriptorReturn (n : Slot) (r : Fin 8) (s : State) : Res := .next (s.returnTx n r true)

/-- RX_RING_DELIVER: an Ethernet copy at F25 by its waybill, or the oldest CAN frame for the slot; `descs` are the descriptors of the
chosen ring from HEAD on. -/
def execRxRingDeliver (n : Slot) (wb : Option Nat) (descs : List DescRead) (s : State) : Res :=
  match wb with
  | some i =>
    match s.atHost n i with
    | some (w, f) => .next (s.rxEth w f descs)
    | none => .next s
  | none =>
    match s.voutOf n with
    | some v => .next (s.rxCan v descs)
    | none => .next s

end Sys2Proof.Machine
end

