-- ==== Sys2Proof/Machine/Window.lean ====
section
/-! DEFINITION. The direct register window (chapter 02 of the spec): reads and writes of every register, the mailbox buffers, the
bit-band alias, and the checks of size, address, permission and lock. -/

namespace Sys2Proof.Machine

/-- The commit unit changed. -/
def State.modCmu (s : State) (f : Cmu → Cmu) : State := { s with cmu := f s.cmu }

/-- The EVU registers of a slot changed. -/
def State.modEvu (s : State) (n : Nat) (f : Evu → Evu) : State := s.modSlot n (fun x => { x with evu := f x.evu })

/-- A slot's bit of HIU_WRITE_PERMIT. -/
def State.permitted (s : State) (n : Nat) : Bool := s.hiu.permit.getLsbD n

/-- Writes to CMU registers are open to a transport (R29). -/
def State.mayCommit (s : State) (t : Transport) : Bool :=
  !s.running || (match s.slotOf t with | some n => s.permitted n | none => false)

/-- Writes to the EVU registers of slot `n` are open to a transport (R29). -/
def State.mayEvu (s : State) (t : Transport) (n : Nat) : Bool := s.mayCommit t || s.slotOf t == some n

/-- TU_INCR and TU_STEP are open to a transport (R270). -/
def State.mayTune (s : State) (t : Transport) : Bool := !s.running || (s.slotOf t == some 0 && s.time.source == 2)

/-! HIU (R37). -/

/-- An HIU register as it reads, by address. -/
def State.hiuRead (s : State) (t : Transport) (a : Nat) : Option Nat :=
  if a = 0 then some 0x7120B002
  else if a = 4 then some s.hiu.scratch.toNat
  else if a = 8 then some (s.hiu.firstSrc.toNat * 256 + s.hiu.err.toNat)
  else if a = 0xC then some s.hiu.errAddr.toNat
  else if a = 0x10 then
    some ((match s.slotOf t with | some n => n * 512 + 256 | none => 0) + t.val)
  else if a = 0x14 then some s.hiu.permit.toNat
  else if a = 0x18 then some s.hiu.test.toNat
  else none

/-- A write of an HIU register (R8, R37): a new value in a test control is undefined. -/
def State.hiuWrite (s : State) (t : Transport) (a : Nat) (v : Word) : Res :=
  if a = 4 then .next { s with hiu := { s.hiu with scratch := v } }
  else if a = 8 then .next { s with hiu := { s.hiu with err := s.hiu.err &&& ~~~(v.setWidth 4) } }
  else if a = 0x18 then (if v = s.hiu.test then .next s else .fault .testControl)
  else if (s.hiuRead t a).isSome then .next s
  else .next (s.decodeErr t a)

/-! EVU (R38 to R41). -/

/-- An EVU register as it reads. -/
def State.evuRead (s : State) (a : Nat) : Option Nat :=
  let o := a - 0x1000
  if a = 0x1100 then some (b2n s.boot.bootEvt)
  else if o < 0x100 then
    let e := (s.slot (o / 16)).evu
    let k := o % 16
    some (if k = 0 then e.cause.toNat else if k = 4 then e.mask.toNat else if k = 8 then e.vmap.toNat else e.holdoff.toNat)
  else none

/-- A write of EVU_CAUSEn (R39): W1C bits clear, and every vector left pending sends a message. -/
def State.evuCause (s : State) (n : Nat) (v : Word) : State :=
  (s.modEvu n (fun e => { e with cause := e.cause &&& ~~~(v.setWidth 10) })).messagesAll n

/-- A write of EVU_MASKn (R39). -/
def State.evuMask (s : State) (n : Nat) (v : Word) : State :=
  (s.modEvu n (fun e => { e with mask := v.setWidth 10 })).messagesAll n

/-- A write of EVU_VMAPn: vectors that become pending send a message (R39). -/
def State.evuVmap (s : State) (n : Nat) (v : Word) : State :=
  let was := (s.slot n).evu
  (s.modEvu n (fun e => { e with vmap := v.setWidth 30 })).messagesSince n was

/-- A write of EVU_BOOT_EVT, open to every transport (R29, R41). -/
def State.evuBoot (s : State) (v : Word) : State :=
  s.modBoot (fun b => { b with bootEvt := b.bootEvt && !v.getLsbD 0 })

/-- A write in the EVU page. -/
def State.evuWrite (s : State) (t : Transport) (a : Nat) (v : Word) : State :=
  let o := a - 0x1000
  let n := o / 16
  let k := o % 16
  if a = 0x1100 then s.evuBoot v
  else if 0x100 ≤ o then s.decodeErr t a
  else if !s.mayEvu t n then s.permErr t a
  else if k = 0 then s.evuCause n v
  else if k = 4 then s.evuMask n v
  else if k = 8 then s.evuVmap n v
  else s.modEvu n (fun e => { e with holdoff := v.setWidth 16 })

/-! CMU (R43 to R46). -/

/-- A CMU register as it reads. -/
def State.cmuRead (s : State) (a : Nat) : Option Nat :=
  let c := s.cmu
  if a = 0x2000 then some 0
  else if a = 0x2004 then some c.atTime.toNat
  else if a = 0x2008 then some (b2n c.arm * 65536 + c.atMask.toNat)
  else if a = 0x200C then some (b2n c.cancelled * 16 + b2n c.armErr * 8 + b2n c.late * 4 + b2n c.fired * 2 + b2n c.busy)
  else if a = 0x2010 then some c.lastTime.toNat
  else if a = 0x2014 then some c.lastMask.toNat
  else if a = 0x2020 then some c.map0.toNat
  else if a = 0x2024 then some 0
  else none

/-- A write of CMU_COMMIT (R44): the groups wait for the next fabric clock. -/
def State.cmuCommit (s : State) (v : Word) : State :=
  let m := v.setWidth 16
  if m = 0 then s else s.modCmu (fun c => { c with queued := c.queued ||| m, busy := true })

/-- A write of CMU_COMMIT_AT (R45). -/
def State.cmuAt (s : State) (v : Word) : State :=
  s.modCmu (fun c => if c.arm then { c with armErr := true } else { c with atTime := v })

/-- The timed commit is armed, or applies at once where its instant is past (R45). -/
def State.cmuArm (s : State) : State :=
  if s.cmu.atMask = 0 ∨ !s.time.run then s.modCmu (fun c => { c with armErr := true })
  else
    let s := s.modCmu (fun c => { c with arm := true })
    if diff32 s.cmu.atTime.toNat s.now ≤ 0 then s.fireTimed true else s

/-- An armed timed commit is cancelled (R44, R45). -/
def State.cmuCancel (s : State) : State :=
  (s.modCmu (fun c => { c with arm := false, cancelled := true })).setCauseAll 5

/-- A write of CMU_COMMIT_AT_CTRL (R45). -/
def State.cmuCtrl (s : State) (v : Word) : State :=
  let m := v.setWidth 16
  let cancel := v.getLsbD 17
  if s.cmu.arm then
    if cancel then s.cmuCancel
    else if m = s.cmu.atMask then s
    else s.modCmu (fun c => { c with armErr := true })
  else
    let s := s.modCmu (fun c => { c with atMask := m })
    if v.getLsbD 16 && !cancel then s.cmuArm else s

/-- A commit of group `g` is pending (R46). -/
def State.groupPending (s : State) (g : Nat) : Bool :=
  (s.cmu.busy && s.cmu.queued.getLsbD g) || (s.cmu.arm && s.cmu.atMask.getLsbD g)

/-- A write of CMU_MAP0 (R46): a field that changes while its old or new group is pending is undefined. -/
def State.cmuMap (s : State) (v : Word) : Res :=
  let new := v.setWidth 28
  let bad := (List.range 7).any (fun k =>
    let old := bitsOf s.cmu.map0.toNat (4 * k) 4
    let nw := bitsOf new.toNat (4 * k) 4
    old != nw && (s.groupPending old || s.groupPending nw))
  if bad then .fault .commitMapChange else .next (s.modCmu (fun c => { c with map0 := new }))

/-- A write in the CMU page. -/
def State.cmuWrite (s : State) (t : Transport) (a : Nat) (v : Word) : Res :=
  if (s.cmuRead a).isNone then .next (s.decodeErr t a)
  else if !s.mayCommit t then .next (s.permErr t a)
  else if a = 0x2000 then .next (s.cmuCommit v)
  else if a = 0x2004 then .next (s.cmuAt v)
  else if a = 0x2008 then .next (s.cmuCtrl v)
  else if a = 0x200C then
    .next (s.modCmu (fun c => { c with
      cancelled := c.cancelled && !v.getLsbD 4, armErr := c.armErr && !v.getLsbD 3, late := c.late && !v.getLsbD 2
      fired := c.fired && !v.getLsbD 1 }))
  else if a = 0x2020 then s.cmuMap v
  else .next s

/-! PWS (R47) and BOOT (R48). -/

/-- A PWS register as it reads. -/
def State.pwsRead (s : State) (a : Nat) : Option (Nat × State) :=
  let p := s.pws
  if a = 0x3000 then some (p.domains.toNat, s)
  else if a = 0x3004 then
    some (b2n s.esc.low * 1024 + b2n s.pd0.inh1 * 512 + b2n s.pd0.inh0 * 256 + s.pd0.rails.toNat, s)
  else if a = 0x3008 then some (p.setpoint.toNat, s)
  else if a = 0x300C then some (s.granted * 65536 + s.power.ceiling, s)
  else if a = 0x3010 then some (p.wakeIndex.toNat * 256 + p.wakeSource.toNat, s)
  else if a = 0x3014 then some (p.resetCause.toNat, s)
  else if a = 0x3018 then some (p.sensor.toNat * 65536 + p.tjMax.toNat, s)
  else none

/-- A write in the PWS page: only PWS_RESET_CAUSE is writable (R47). -/
def State.pwsWrite (s : State) (t : Transport) (a : Nat) (v : Word) : State :=
  if a = 0x3014 then { s with pws := { s.pws with resetCause := s.pws.resetCause &&& ~~~(v.setWidth 6) } }
  else if (s.pwsRead a).isSome then s
  else s.decodeErr t a

/-- A BOOT register as it reads. -/
def State.bootRead (s : State) (a : Nat) : Option Nat :=
  if a = 0x4000 then some s.bootStateReg
  else if a = 0x4004 then some s.bootStrapsReg
  else if a = 0x4008 then some s.bootXferReg
  else if a = 0x400C then some s.boot.result.toNat
  else if a = 0x4010 then some s.boot.secver.toNat
  else if a = 0x4014 then some s.boot.keyrev.toNat
  else if a = 0x4018 then some s.boot.lcs.toNat
  else if a = 0x401C then some s.fwVerReg
  else none

/-- A write in the BOOT page. -/
def State.bootWrite (s : State) (t : Transport) (a : Nat) (v : Word) : State :=
  if a = 0x4008 then s.bootXferWrite t a v.toNat
  else if (s.bootRead a).isSome then s
  else s.decodeErr t a

/-! MBX (R59 to R62, R117). -/

/-- A register of slot `n`'s MBX page, by offset. -/
def State.mbxRead (s : State) (n o : Nat) : Option Nat :=
  let x := s.slot n
  if o = 0 then some x.reqHead.toNat
  else if o = 4 then some x.reqTail.toNat
  else if o = 8 then some x.rspHead.toNat
  else if o = 0xC then some x.rspTail.toNat
  else if o = 0x10 then some x.evtHead.toNat
  else if o = 0x14 then some x.evtTail.toNat
  else if o = 0x18 then
    some (x.binding.code 0 * 65536 + x.jobs.length * 256 + x.inFlight.length * 16 + x.state.code)
  else if o = 0x1C then some x.evtLost.toNat
  else if 0x100 ≤ o ∧ o < 0x200 ∧ o % 32 < 0x18 then some (s.ringRead n ((o - 0x100) / 32) (o % 32))
  else none

/-- A write of MBX_REQ_HEAD (R60, R62). -/
def State.reqHeadWrite (s : State) (n : Nat) (v : Half) : Res :=
  let x := s.slot n
  if (v - x.reqHead).toNat % 16 ≠ 0 ∨ 8192 < (v - x.reqTail).toNat then .fault .mailboxMisuse
  else .next (s.modSlot n (fun x => { x with reqHead := v }))

/-- A write of MBX_RSP_TAIL (R62, R63). -/
def State.rspTailWrite (s : State) (n : Nat) (v : Half) : Res :=
  let x := s.slot n
  if (x.rspHead - x.rspTail).toNat < (v - x.rspTail).toNat then .fault .mailboxMisuse
  else .next (s.modSlot n (fun x => { x with rspTail := v }))

/-- A write of MBX_EVT_TAIL (R62, R78): held DONE events are written into the entries it frees. -/
def State.evtTailWrite (s : State) (n : Nat) (v : Half) : Res :=
  let x := s.slot n
  if (x.evtHead - x.evtTail).toNat < (v - x.evtTail).toNat then .fault .mailboxMisuse
  else .next ((s.modSlot n (fun x => { x with evtTail := v })).writeHeld n (x.held.length))

/-- A write to another slot's mailbox is ignored and counted on the writer's slot (R61). -/
def State.foreignWrite (s : State) (t : Transport) : State :=
  match s.slotOf t with
  | some m => s.modStats m (fun c => { c with foreignWrites := c.foreignWrites + 1 })
  | none => s

/-- A write of a ring register of a slot bound to PCIe; other slots have none and ignore it (R113). -/
def State.ringWrite (s : State) (n r k : Nat) (v : Word) : Res :=
  if (s.fnOf n).isNone then .next s
  else if k = 0 then .next (s.ringBase n r false v)
  else if k = 4 then .next (s.ringBase n r true v)
  else if k = 8 then .next (s.ringCtrl n r v.toNat)
  else if k = 12 then s.ringTail n r v.toNat
  else if k = 20 then .next (s.ringStat n r v.toNat)
  else .next s

/-- A write in the MBX pages (R61): only the slot's own transport. -/
def State.mbxWrite (s : State) (t : Transport) (a : Nat) (v : Word) : Res :=
  let n := (a - 0x10000) / 0x1000
  let o := a % 0x1000
  if (s.mbxRead n o).isNone then .next (s.decodeErr t a)
  else if s.slotOf t ≠ some n then .next (s.foreignWrite t)
  else if o = 0 then s.reqHeadWrite n (v.setWidth 16)
  else if o = 0xC then s.rspTailWrite n (v.setWidth 16)
  else if o = 0x14 then s.evtTailWrite n (v.setWidth 16)
  else if o = 0x1C then .next (s.modSlot n (fun x => { x with evtLost := v.setWidth 16 }))
  else if 0x100 ≤ o then s.ringWrite n ((o - 0x100) / 32) (o % 32) v
  else .next s

/-! TU (R270 to R272, R276, R284). -/

/-- The words of a TIME_IO pin's shadowed registers in address order (R284). -/
def IoRegs.words (r : IoRegs) : List Nat :=
  [r.filter.toNat * 65536 + b2n r.polarity * 64 + r.edge.toNat * 16 + r.function.toNat, r.start.toNat % 2 ^ 32,
   r.start.toNat / 2 ^ 32, r.period.toNat, r.width.toNat, if r.function = 2 then 0 else r.count.toNat]

/-- The bytes of a TIME_IO pin's shadowed registers. -/
def IoRegs.bytes (r : IoRegs) : Bytes := r.words.flatMap w32

/-- The word at an offset of a TIME_IO page: active copies, status and the oldest capture (R284). -/
def State.ioRead (s : State) (n k : Nat) : Option Nat :=
  let x := vget s.time.io n
  let c := x.captures.headD default
  if k < 0x18 then some (x.active.words.getD (k / 4) 0)
  else if k = 0x18 then
    some (x.pulses.toNat * 65536 + b2n x.overflow * 128 + b2n x.running * 64 + x.captures.length)
  else if k = 0x1C then some (c.ns % 2 ^ 32)
  else if k = 0x20 then some (c.ns / 2 ^ 32)
  else if k = 0x24 then some (if x.captures.isEmpty then 0 else c.seq * 2 ^ 24 + b2n c.falling * 65536 + c.frac)
  else if k = 0x28 then some 0
  else none

/-- A TU register as it reads, by offset in the page; TU_NOW_LO latches the rest of the count for its reader (R270, R42). -/
def State.tuRead (s : State) (t : Transport) (o : Nat) : Option (Nat × State) :=
  let u := s.time
  let pure (v : Nat) : Option (Nat × State) := some (v, s)
  let l := vget u.latch t.val
  if o = 0 then pure (u.driver.toNat * 16 + u.source.toNat * 4 + b2n u.stepped * 2 + b2n u.run)
  else if o = 4 then pure u.epoch.toNat
  else if o = 8 then
    some (u.ns % 2 ^ 32, s.modTime (fun u => { u with
      latch := vset u.latch t.val { hi := BitVec.ofNat 32 (u.ns / 2 ^ 32), frac := BitVec.ofNat 32 u.frac } }))
  else if o = 0xC then pure l.hi.toNat
  else if o = 0x10 then pure l.frac.toNat
  else if o = 0x14 then pure (u.incr.toNat % 2 ^ 32)
  else if o = 0x18 then pure (u.incr.toNat / 2 ^ 32)
  else if o = 0x1C then pure u.stepLo.toNat
  else if o = 0x20 then pure u.stepHi.toNat
  else if 0x100 ≤ o ∧ o < 0x180 then
    let a := (vget u.alarms ((o - 0x100) / 8)).active
    pure (if o % 8 = 0 then a.time.toNat else b2n a.enable)
  else if o = 0x180 then pure u.fired.toNat
  else if o = 0x184 then pure u.lateBits.toNat
  else if 0x200 ≤ o ∧ o < 0x380 then (s.ioRead ((o - 0x200) / 0x40) (o % 0x40)).map (fun v => (v, s))
  else if 0x900 ≤ o ∧ o < 0x980 then
    let a := (vget u.alarms ((o - 0x900) / 8)).shadow
    pure (if o % 8 = 0 then a.time.toNat else b2n a.enable)
  else if 0xA00 ≤ o ∧ o < 0xB80 ∧ o % 0x40 < 0x18 then
    pure ((vget u.io ((o - 0xA00) / 0x40)).shadow.words.getD (o % 0x40 / 4) 0)
  else none

/-- A write of TU_INCR_INT (R267, R271). -/
def State.incrInt (s : State) (v : Word) : Res :=
  let i := v.toNat % 256
  if i = 0 then .fault .zeroIncrement
  else .next (s.modTime (fun u => { u with nextIncr := BitVec.ofNat 40 (i * 2 ^ 32 + u.heldFrac.toNat) }))

/-- A write of TU_STEP_HI (R31, R272): once per epoch. -/
def State.stepHiWrite (s : State) (t : Transport) (a : Nat) (v : Word) : State :=
  if s.time.stepLocked then s.lockErr t a
  else
    let s := s.modTime (fun u => { u with stepHi := v })
    s.stepClock (signedOf 64 (v.toNat * 2 ^ 32 + s.time.stepLo.toNat))

/-- The oldest capture removed (R284). -/
def State.capPop (s : State) (n : Nat) (v : Word) : State :=
  if v.getLsbD 0 then
    s.modTime (fun u => { u with io := vmod u.io n (fun x => { x with captures := x.captures.drop 1 }) })
  else s

/-- A write in the TU page. Active copies of shadowed registers are not written (R42); an alarm's shadow is its slot's alone
(R276), a pin's shadow its owner's (R284). -/
def State.tuWrite (s : State) (t : Transport) (a : Nat) (v : Word) : Res :=
  let o := a - 0x20000
  let me := s.slotOf t
  if (s.tuRead t o).isNone then .next (s.decodeErr t a)
  else if (0x100 ≤ o ∧ o < 0x180) ∨ (0x200 ≤ o ∧ o < 0x380 ∧ o % 0x40 < 0x18) then .next (s.decodeErr t a)
  else if 0x14 ≤ o ∧ o ≤ 0x20 then
    if !s.mayTune t then .next (s.permErr t a)
    else if o = 0x14 then .next (s.modTime (fun u => { u with heldFrac := v }))
    else if o = 0x18 then s.incrInt v
    else if o = 0x1C then .next (s.modTime (fun u => { u with stepLo := v }))
    else .next (s.stepHiWrite t a v)
  else if o = 0x180 then .next (s.modTime (fun u => { u with fired := u.fired &&& ~~~(v.setWidth 16) }))
  else if o = 0x184 then .next (s.modTime (fun u => { u with lateBits := u.lateBits &&& ~~~(v.setWidth 16) }))
  else if 0x900 ≤ o ∧ o < 0x980 then
    let n := (o - 0x900) / 8
    if me ≠ some n then .next (s.permErr t a)
    else
      .next (s.modTime (fun u => { u with alarms := vmod u.alarms n (fun x =>
        if o % 8 = 0 then { x with shadow := { x.shadow with time := v } }
        else { x with shadow := { x.shadow with enable := v.getLsbD 0 } }) }))
  else if 0xA00 ≤ o ∧ o < 0xB80 then
    let n := (o - 0xA00) / 0x40
    if me ≠ some (s.ownerOf 12 n) then .next (s.permErr t a)
    else
      .next (s.modTime (fun u => { u with io := vmod u.io n (fun x =>
        { x with shadow := ioOf (splice x.shadow.bytes (o % 0x40) (wordBytes v)) }) }))
  else if 0x200 ≤ o ∧ o < 0x380 then
    let n := (o - 0x200) / 0x40
    if o % 0x40 = 0x18 then
      .next (s.modTime (fun u => { u with io := vmod u.io n (fun x => { x with overflow := x.overflow && !v.getLsbD 7 }) }))
    else if o % 0x40 = 0x28 then .next (s.capPop n v)
    else .next s
  else .next s

/-! CDI (R433 to R435). -/

/-- A CDI register exists at an offset. -/
def cdiHas (o : Nat) : Bool :=
  o == 0 || o == 4 || o == 8 || (decide (0x10 ≤ o) && decide (o < 0x1C)) || (decide (0x20 ≤ o) && decide (o < 0x54))

/-- A write in the CDI page: without firmware it is ignored (R433). -/
def State.cdiWrite (s : State) (t : Transport) (a : Nat) (v : Word) : Res :=
  let o := a - 0x30000
  if !cdiHas o then .next (s.decodeErr t a)
  else if !s.running then .next s
  else if o = 0 then .next (cdiLockWrite t v s)
  else if o = 4 then cdiKeyselWrite t v s
  else if o = 8 then cdiCtrlWrite t v s
  else cdiDataWrite t o v s

/-! The whole register space (R25 to R29). -/

/-- An aligned 32-bit read of register space, none where nothing is mapped. -/
def State.regRead (s : State) (t : Transport) (a : Nat) : Option (Nat × State) :=
  let pure (o : Option Nat) : Option (Nat × State) := o.map (fun v => (v, s))
  if a < 0x1000 then pure (s.hiuRead t a)
  else if a < 0x2000 then pure (s.evuRead a)
  else if a < 0x3000 then pure (s.cmuRead a)
  else if a < 0x4000 then s.pwsRead a
  else if a < 0x5000 then pure (s.bootRead a)
  else if a < 0x10000 then none
  else if a < 0x20000 then pure (s.mbxRead ((a - 0x10000) / 0x1000) (a % 0x1000))
  else if a < 0x30000 then s.tuRead t (a - 0x20000)
  else if a < 0x40000 then
    if !cdiHas (a - 0x30000) then none
    else if !s.running then some (0, s)
    else
      let r := cdiRead t (a - 0x30000) s
      some (r.1.toNat, r.2)
  else none

/-- An aligned 32-bit write of register space. -/
def State.regWrite (s : State) (t : Transport) (a : Nat) (v : Word) : Res :=
  if a < 0x1000 then s.hiuWrite t a v
  else if a < 0x2000 then .next (s.evuWrite t a v)
  else if a < 0x3000 then s.cmuWrite t a v
  else if a < 0x4000 then .next (s.pwsWrite t a v)
  else if a < 0x5000 then .next (s.bootWrite t a v)
  else if a < 0x10000 then .next (s.decodeErr t a)
  else if a < 0x20000 then s.mbxWrite t a v
  else if a < 0x30000 then s.tuWrite t a v
  else if a < 0x40000 then s.cdiWrite t a v
  else .next (s.decodeErr t a)

/-! The mailbox buffers (R58, R61, R62, R535). -/

/-- An offset of slot `n`'s request buffer holds a request byte that MBX_REQ_HEAD covers and MBX_REQ_TAIL has not passed. -/
def State.requestByte (s : State) (n o : Nat) : Bool :=
  let x := s.slot n
  decide (o % 0x8000 < 8192) && decide ((o + 8192 - x.reqTail.toNat % 8192) % 8192 < (x.reqHead - x.reqTail).toNat)

/-- Bytes written to the mailbox buffers from offset `off` by the transport of slot `me`: those of its own slot are stored; whether
any was foreign, and whether a waiting request changed. -/
def State.storeBytes (s : State) (me : Option Nat) (off : Nat) : Bytes → Bool × Bool × State
  | [] => (false, false, s)
  | b :: bs =>
    if me = some (off / 0x8000) then
      let bad := s.requestByte (off / 0x8000) off && s.ram.read off != b
      let r := State.storeBytes { s with ram := s.ram.write off b } me (off + 1) bs
      (r.1, bad || r.2.1, r.2.2)
    else
      let r := s.storeBytes me (off + 1) bs
      (true, r.2.1, r.2.2)

/-- A write to the mailbox buffers, of any width and alignment (R26, R61, R62, R535). -/
def State.bufWrite (s : State) (t : Transport) (off : Nat) (data : Bytes) : Res :=
  let most := 0x80000 - off
  let rest (s : State) : State := if most < data.length then s.decodeErr t 0x180000 else s
  let data := data.take most
  if s.running then
    let r := s.storeBytes (s.slotOf t) off data
    if r.2.1 then .fault .requestChanged
    else .next (rest (if r.1 then r.2.2.foreignWrite t else r.2.2))
  else if landingSize ≤ off then .next (rest s)
  else thenDo (s.landingWrite t off (data.take (landingSize - off))) (fun s => .next (rest s))

/-! The bit-band alias (R33 to R35). -/

/-- The bits of a register whose 0 has no effect or which are write-only: in a write of one other bit they are 0 (R33). -/
def clearBits (a : Nat) : Nat :=
  if a = 8 then 0xF
  else if 0x1000 ≤ a ∧ a < 0x1100 ∧ a % 16 = 0 then 0x3FF
  else if a = 0x1100 then 1
  else if a = 0x2008 then 0x30000
  else if a = 0x200C then 0x1E
  else if a = 0x3014 then 0x3F
  else if a = 0x4008 then 0x80000000
  else 0

/-- The bits of a register that are neither RSV nor RSVL, by its address: an alias write to another bit is ignored (R34). -/
def liveBits (a : Nat) : Nat :=
  if a = 8 then 0x1F0F
  else if a = 0x10 then 0x1F1F
  else if a = 0x14 then 0xFFFF
  else if a = 0x18 then 0
  else if 0x1000 ≤ a ∧ a < 0x1100 then
    (if a % 16 = 8 then 0x3FFFFFFF else if a % 16 = 0xC then 0xFFFF else 0x3FF)
  else if a = 0x1100 then 1
  else if a = 0x2000 ∨ a = 0x2014 then 0xFFFF
  else if a = 0x2008 then 0x3FFFF
  else if a = 0x200C then 0x1F
  else if a = 0x2020 then 0xFFFFFFF
  else if a = 0x2024 then 0
  else if a = 0x3000 then 0x1FFF
  else if a = 0x3004 then 0x77F
  else if a = 0x3008 then 0x3FF
  else if a = 0x3010 then 0xFFFF
  else if a = 0x3014 then 0x3F
  else if a = 0x3018 then 0x7FFFF
  else if a = 0x4000 then 0x3F0F
  else if a = 0x4004 ∨ a = 0x4014 then 0xF
  else if a = 0x4008 then 0xE007FFFF
  else if a = 0x400C then 0xFF
  else if a = 0x4010 then 0x7F
  else if a = 0x4018 then 7
  else 0xFFFFFFFF

/-- A write of one bit of the first 64 KiB through its alias word (R33, R34): an indivisible read-modify-write; a reserved bit ignores
it. An error is captured with the address of the alias word. -/
def State.aliasWrite (s : State) (t : Transport) (addr : Nat) (v : Word) : Res :=
  let k := (addr - 0x200000) / 4
  let a := k / 32 * 4
  let b := k % 32
  match s.regRead t a with
  | none => .next (s.decodeErr t addr)
  | some (old, _) =>
    if !(liveBits a).testBit b then .next s
    else
      let base := (BitVec.ofNat 32 old) &&& ~~~(BitVec.ofNat 32 (clearBits a)) &&& ~~~(1#32 <<< b)
      thenDo (s.regWrite t a (if v.getLsbD 0 then base ||| (1#32 <<< b) else base)) (fun r =>
        .next (if s.hiu.err = 0 ∧ r.hiu.err ≠ 0 then { r with hiu := { r.hiu with errAddr := BitVec.ofNat 32 addr } } else r))

/-- A read of one bit through its alias word. -/
def State.aliasRead (s : State) (t : Transport) (addr : Nat) : Nat × State :=
  let k := (addr - 0x200000) / 4
  match s.regRead t (k / 32 * 4) with
  | none => (0, s.decodeErr t addr)
  | some (v, s) => (bitsOf v (k % 32) 1, s)

/-! The PCIe function outside BAR0 (R320). -/

/-- The identity every function reports (R320): vendor ID, device ID, class code. -/
def pcieIdentity : Nat × Nat × Nat := (0x1F6C, 0x7120, 0x020000)

/-- Vectors that waited in the pending-bit array of a function are sent as soon as nothing masks them (R39). -/
def State.msixRelease (s : State) (f : Nat) : State :=
  if h : f < 16 then
    let waiting := (s.pcieFn f).pba
    let s := s.modFn f (fun p => { p with pba := 0 })
    forAll (List.range 8) (fun v s => if waiting.getLsbD v then s.msixSend ⟨f, h⟩ v else s) s
  else s

/-- A word of the MSI-X table written (PCI Express Base 4.0, PRESUMED, log 10): address low, address high, data, vector control. -/
def MsixEntry.write (e : MsixEntry) (k : Nat) (v : Nat) : MsixEntry :=
  if k = 0 then { e with addr := BitVec.ofNat 64 (e.addr.toNat / 2 ^ 32 * 2 ^ 32 + v / 4 * 4) }
  else if k = 1 then { e with addr := BitVec.ofNat 64 (v * 2 ^ 32 + e.addr.toNat % 2 ^ 32) }
  else if k = 2 then { e with data := BitVec.ofNat 32 v }
  else { e with masked := bitOf v 0 }

/-- A PCIe host writes the part of its function that is not BAR0 (R39, R320). The offsets are the model's (log 10): BAR2 at 0, its table
first; then, at 0x2000, the MSI-X control word (bit 15 enable, bit 14 function mask), the power state (3 is D3hot), and NumVFs. The
power state and configuration space answer in D3hot too. -/
def State.pcieWrite (s : State) (f off : Nat) (data : Bytes) : State :=
  let v := leNat data
  if !s.pd0.die || !s.pcieEnabled || !s.net.pcieUp || !s.fnExists f || data.length != 4 || off % 4 != 0 then s
  else
    let s :=
      if off < 0x80 then
        if s.fnAwake f then s.modFn f (fun p => { p with table := vmod p.table (off / 16) (fun e => e.write (off / 4 % 4) v) }) else s
      else if off = 0x2000 then s.modFn f (fun p => { p with msix := bitOf v 15, funcMask := bitOf v 14 })
      else if off = 0x2004 then s.modFn f (fun p => { p with d3hot := v % 4 == 3 })
      else if off = 0x2008 ∧ f = 0 then { s with pcie := { s.pcie with numVfs := ⟨v % 16, by omega⟩ } }
      else s
    s.msixRelease f

/-- What a PCIe host reads there: the identity and the words it wrote, and the pending-bit array at 0x1000 of BAR2. -/
def State.pcieRead (s : State) (f off : Nat) : Nat :=
  let p := s.pcieFn f
  let e := vget p.table (off / 16)
  if off < 0x80 then
    (if off / 4 % 4 = 0 then e.addr.toNat % 2 ^ 32 else if off / 4 % 4 = 1 then e.addr.toNat / 2 ^ 32
     else if off / 4 % 4 = 2 then e.data.toNat else b2n e.masked)
  else if off = 0x1000 then p.pba.toNat
  else if off = 0x2000 then b2n p.msix * 2 ^ 15 + b2n p.funcMask * 2 ^ 14 + 7
  else if off = 0x2004 then (if p.d3hot then 3 else 0)
  else if off = 0x2008 then s.pcie.numVfs.val
  else if off = 0x200C then pcieIdentity.2.1 * 2 ^ 16 + pcieIdentity.1
  else if off = 0x2010 then pcieIdentity.2.2 * 2 ^ 8
  else 0

/-! Accesses of a transport (R24 to R28). -/

/-- A write of bytes at a window address (R25 to R27, R35). Addresses have 22 bits. -/
def State.windowWrite (s : State) (t : Transport) (addr : Nat) (data : Bytes) : Res :=
  let a := addr % 0x400000
  let n := data.length
  if !s.reaches t ∨ n = 0 then .next s
  else if a < 0x40000 then
    if n = 4 ∧ a % 4 = 0 then s.regWrite t a (BitVec.ofNat 32 (leNat data))
    else if n = 8 ∧ a % 8 = 0 ∧ t.val < 16 then
      thenDo (s.regWrite t a (BitVec.ofNat 32 (leNat (data.take 4))))
        (fun s => s.regWrite t (a + 4) (BitVec.ofNat 32 (leNat (data.drop 4))))
    else .next (s.sizeErr t a)
  else if a < 0x100000 then .next (s.decodeErr t a)
  else if a < 0x180000 then s.bufWrite t (a - 0x100000) data
  else if a < 0x200000 then .next (s.decodeErr t a)
  else if n = 4 ∧ a % 4 = 0 then s.aliasWrite t a (BitVec.ofNat 32 (leNat data))
  else .fault .aliasAccess

/-- A write of one 32-bit register by its address. -/
def State.wordWrite (s : State) (t : Transport) (a : Nat) (v : Word) : Res := s.windowWrite t a (wordBytes v)

/-- A 32-bit read at a window address: the word, and the state after it (R25 to R27, R35). -/
def State.wordRead (s : State) (t : Transport) (addr : Nat) : Option (Nat × State) :=
  let a := addr % 0x400000
  if a < 0x40000 then
    if a % 4 ≠ 0 then some (0, s.sizeErr t a)
    else
      match s.regRead t a with
      | some r => some r
      | none => some (0, s.decodeErr t a)
  else if a < 0x100000 then some (0, s.decodeErr t a)
  else if a < 0x180000 then some (leNat (s.ram.readAll (a - 0x100000) 4), s)
  else if a < 0x200000 then some (0, s.decodeErr t a)
  else if a % 4 = 0 then some (s.aliasRead t a)
  else none

/-- A read of `n` bytes at a window address (R25 to R27, R35): their values, and the state after it; from 0x0040_0000 on, a PCIe
function's other registers (log 10). The mailbox buffers take any width
and alignment, and in register space PCIe splits 8 bytes into two words. -/
def State.windowRead (s : State) (t : Transport) (addr n : Nat) : Option (Bytes × State) :=
  let a := addr % 0x400000
  if t.val < 16 ∧ 0x400000 ≤ addr then some (padTo n (leBytes 4 (s.pcieRead t.val (addr - 0x400000))), s)
  else if 0x100000 ≤ a ∧ a < 0x180000 then
    let most := 0x180000 - a
    if n ≤ most then some (s.ram.readAll (a - 0x100000) n, s)
    else some (s.ram.readAll (a - 0x100000) most ++ zeros (n - most), s.decodeErr t 0x180000)
  else if n = 4 then (s.wordRead t a).map (fun r => (leBytes 4 r.1, r.2))
  else if a < 0x40000 then
    if n = 8 ∧ a % 8 = 0 ∧ t.val < 16 then
      match s.wordRead t a with
      | none => none
      | some (lo, s) => (s.wordRead t (a + 4)).map (fun r => (leBytes 4 lo ++ leBytes 4 r.1, r.2))
    else some (zeros n, s.sizeErr t a)
  else if a < 0x200000 then some (zeros n, s.decodeErr t a)
  else none

end Sys2Proof.Machine
end

