-- ==== Sys2Proof/Machine/WinCmds.lean ====
section
/-! DEFINITION. Rows of the window: register and alias writes, the registers that have a row of their own, commits, and SPI
transactions (chapters 02, 04, 05, 11 and 18 of the spec). -/

namespace Sys2Proof.Machine

/-- REGISTER_WRITE. A PCIe host's writes to the rest of its function, BAR2 and configuration space, come at 0x0040_0000 (log 10). -/
def execRegisterWrite (t : Transport) (addr : Nat) (data : Bytes) (s : State) : Res :=
  if t.val < 16 ∧ 0x400000 ≤ addr then .next (s.pcieWrite t.val (addr - 0x400000) data) else s.windowWrite t addr data

/-- ALIAS_WRITE: `addr` is taken within the alias region. -/
def execAliasWrite (t : Transport) (addr : Nat) (data : Bytes) (s : State) : Res :=
  s.windowWrite t (0x200000 + addr % 0x200000) data

/-- EVU_CAUSE_WRITE. -/
def execEvuCauseWrite (t : Transport) (n : Slot) (v : Word) (s : State) : Res := s.wordWrite t (0x1000 + 16 * n) v

/-- EVU_MASK_WRITE. -/
def execEvuMaskWrite (t : Transport) (n : Slot) (v : Word) (s : State) : Res := s.wordWrite t (0x1004 + 16 * n) v

/-- The holdoff of a vector ends (R39): one merged message, if the vector is still pending. -/
def State.holdoffEnd (s : State) (n v : Nat) : State :=
  let e := (s.slot n).evu
  let send := e.delayed.getLsbD v && e.isPending v
  let s := s.modEvu n (fun e => { e with
    holding := e.holding &&& ~~~(1#8 <<< v), delayed := e.delayed &&& ~~~(1#8 <<< v) })
  if send then s.message n v else s

/-- HOLDOFF_EXPIRY. -/
def execHoldoffExpiry (n : Slot) (v : Fin 8) (s : State) : Res :=
  .next (if (s.slot n).evu.holding.getLsbD v then s.holdoffEnd n v else s)

/-- EVU_BOOT_EVT_WRITE. -/
def execEvuBootEvtWrite (t : Transport) (v : Word) (s : State) : Res := s.wordWrite t 0x1100 v

/-- CMU_COMMIT. -/
def execCmuCommit (t : Transport) (v : Word) (s : State) : Res := s.wordWrite t 0x2000 v

/-- The accepted commit applies (R44); a timed commit that falls on the same clock applies with it, with the union of the
masks. -/
def State.applyQueued (s : State) : State :=
  let m := s.cmu.queued
  let timed := s.cmu.arm && decide (diff32 s.cmu.atTime.toNat s.now ≤ 0)
  let all := if timed then m ||| s.cmu.atMask else m
  let s := s.modCmu (fun c => { c with
    queued := 0, busy := false, arm := c.arm && !timed, fired := c.fired || timed })
  s.applyCommit all

/-- COMMIT_APPLY. -/
def execCommitApply (s : State) : Res := .next (if s.cmu.busy then s.applyQueued else s)

/-- CMU_COMMIT_AT_WRITE. -/
def execCmuCommitAtWrite (t : Transport) (v : Word) (s : State) : Res := s.wordWrite t 0x2004 v

/-- COMMIT_ARM: a write of CMU_COMMIT_AT_CTRL with ARM set. -/
def execCommitArm (t : Transport) (v : Word) (s : State) : Res := s.wordWrite t 0x2008 (v ||| 0x10000)

/-- COMMIT_CANCEL: a write of CMU_COMMIT_AT_CTRL with CANCEL set. -/
def execCommitCancel (t : Transport) (v : Word) (s : State) : Res := s.wordWrite t 0x2008 (v ||| 0x20000)

/-- TIMED_COMMIT_FIRE (R45): the first tick on which d ≤ 0. -/
def execTimedCommitFire (s : State) : Res :=
  .next (if s.cmu.arm ∧ diff32 s.cmu.atTime.toNat s.now ≤ 0 then s.fireTimed false else s)

/-! SPI (R97, R98). -/

/-- The transport of an SPI port. -/
def spiTransport (p : Fin 2) : Transport := ⟨16 + p.val, by omega⟩

/-- The status word on MISO (R98), and LAST_STATUS for the next transaction. -/
def State.spiBegin (s : State) (p : Nat) (next : Half) : State :=
  let flags := b2n (s.irqLow p) + 2 * b2n s.boot.bootEvt + 4 * b2n (s.hiu.err != 0)
  let s := s.emit (.spiStatus p ([0x5A, BitVec.ofNat 8 flags] ++ w16 (vget s.spiLast p).toNat))
  { s with spiLast := vset s.spiLast p next }

/-- The words of a write burst, at addresses that rise by 4 (R97). -/
def spiWords (t : Transport) (a : Nat) : List Word → State → Res
  | [], s => .next s
  | w :: ws, s => thenDo (s.wordWrite t a w) (spiWords t (a + 4) ws)

/-- `n` words of a read burst from an address, and the state after them; none where an access is undefined (R35). -/
def State.spiReadWords (s : State) (t : Transport) (a : Nat) : Nat → Option (List Word × State)
  | 0 => some ([], s)
  | n + 1 =>
    match s.wordRead t a with
    | none => none
    | some (v, s) => (s.spiReadWords t (a + 4) n).map (fun r => (BitVec.ofNat 32 v :: r.1, r.2))

/-- SPI_WRITE: `spare` if chip select rose in the middle of a word (R36). A port that is kept off ignores the transaction (R92). -/
def execSpiWrite (p : Fin 2) (addr : Nat) (words : List Word) (spare : Bool) (s : State) : Res :=
  if !s.reaches (spiTransport p) then .next s
  else if spare then .fault .spiPartialWord
  else spiWords (spiTransport p) (addr % 0x400000) words (s.spiBegin p 0)

/-- SPI_READ: `count` whole words. -/
def execSpiRead (p : Fin 2) (addr : Nat) (count : Nat) (s : State) : Res :=
  if !s.reaches (spiTransport p) then .next s
  else
    match (s.spiBegin p 0).spiReadWords (spiTransport p) (addr % 0x400000) count with
    | none => .fault .aliasAccess
    | some (l, s) => .next (s.emit (.miso p l))

/-- SPI_BAD_COMMAND (R97): ignored and reported, ST_BAD_OPCODE for the command byte, else ST_BAD_PARAM for bits 23 and 22 of the
address. -/
def execSpiBadCommand (p : Fin 2) (cmd : Byte) (addr : BitVec 24) (s : State) : Res :=
  let st : Half := if cmd ≠ 0x02 ∧ cmd ≠ 0x0B then 0x0100 else 0x0102
  .next (if s.reaches (spiTransport p) ∧ (st = 0x0100 ∨ addr.toNat / 2 ^ 22 ≠ 0) then s.spiBegin p st else s)

/-! Mailbox, boot and ring registers. -/

/-- MBX_REQ_HEAD_WRITE. -/
def execMbxReqHeadWrite (t : Transport) (n : Slot) (v : Word) (s : State) : Res := s.wordWrite t (0x10000 + 0x1000 * n) v

/-- MBX_RSP_TAIL_WRITE. -/
def execMbxRspTailWrite (t : Transport) (n : Slot) (v : Word) (s : State) : Res := s.wordWrite t (0x1000C + 0x1000 * n) v

/-- MBX_EVT_TAIL_WRITE. -/
def execMbxEvtTailWrite (t : Transport) (n : Slot) (v : Word) (s : State) : Res := s.wordWrite t (0x10014 + 0x1000 * n) v

/-- LANDING_BUFFER_WRITE: `off` is taken within the landing buffer. -/
def execLandingBufferWrite (t : Transport) (off : Nat) (data : Bytes) (s : State) : Res :=
  s.windowWrite t (0x100000 + off % landingSize) data

/-- BOOT_XFER_GO: a write of BOOT_XFER with GO set. -/
def execBootXferGo (t : Transport) (v : Word) (s : State) : Res := s.wordWrite t 0x4008 (v ||| 0x80000000)

/-- The address of a ring register (R117). -/
def ringReg (n r k : Nat) : Nat := 0x10100 + 0x1000 * n + 0x20 * r + k

/-- RING_CTRL_ENABLE: a write of MBX_RINGr_CTRL with ENABLE set. -/
def execRingCtrlEnable (t : Transport) (n : Slot) (r : Fin 8) (v : Word) (s : State) : Res :=
  s.wordWrite t (ringReg n r 8) (v ||| 0x80000000)

/-- RING_CTRL_DISABLE: a write of MBX_RINGr_CTRL with ENABLE clear. -/
def execRingCtrlDisable (t : Transport) (n : Slot) (r : Fin 8) (v : Word) (s : State) : Res :=
  s.wordWrite t (ringReg n r 8) (v &&& 0x7FFFFFFF)

/-- RING_TAIL_WRITE (R119): the doorbell, and the fetch of the descriptors it covers, as the device reads them. -/
def execRingTailWrite (t : Transport) (n : Slot) (r : Fin 8) (v : Word) (descs : List DescRead) (s : State) : Res :=
  thenDo (s.wordWrite t (ringReg n r 12) v) (fun q =>
    .next (if s.reaches t ∧ s.slotOf t = some n.val then q.ringFetch n r descs else q))

/-! Time unit and CDI registers. -/

/-- TU_INCR_INT_WRITE. -/
def execTuIncrIntWrite (t : Transport) (v : Word) (s : State) : Res := s.wordWrite t 0x20018 v

/-- TU_STEP_HI_WRITE. -/
def execTuStepHiWrite (t : Transport) (v : Word) (s : State) : Res := s.wordWrite t 0x20020 v

/-- TU_NOW_LO_READ: the word read, and the latch of the rest for the reader (R270). -/
def execTuNowLoRead (t : Transport) (s : State) : Res :=
  .next (if s.reaches t then
      match s.windowRead t 0x20008 4 with
      | some (b, q) => q.emit (.readData t b)
      | none => s
    else s)

/-- CAP_POP_WRITE. -/
def execCapPopWrite (t : Transport) (n : Fin 6) (v : Word) (s : State) : Res := s.wordWrite t (0x20228 + 0x40 * n) v

/-- CDI_ACQUIRE: a write of CDI_LOCK with ACQUIRE set. -/
def execCdiAcquire (t : Transport) (s : State) : Res := s.wordWrite t 0x30000 1

/-- CDI_RELEASE: a write of CDI_LOCK with RELEASE set. -/
def execCdiRelease (t : Transport) (s : State) : Res := s.wordWrite t 0x30000 2

/-- CDI_KEYSEL_WRITE. -/
def execCdiKeyselWrite (t : Transport) (v : Word) (s : State) : Res := s.wordWrite t 0x30004 v

/-- CDI_GO: a write of CDI_CTRL with GO set. -/
def execCdiGo (t : Transport) (v : Word) (s : State) : Res := s.wordWrite t 0x30008 (v ||| 1)

/-- CDI_ABORT: a write of CDI_CTRL with ABORT set. -/
def execCdiAbort (t : Transport) (v : Word) (s : State) : Res := s.wordWrite t 0x30008 (v ||| 8)

end Sys2Proof.Machine
end

