-- ==== Sys2Proof/Machine/Mailbox.lean ====
section
/-! DEFINITION. Mailboxes and envelopes at work (chapter 03 of the spec): requests taken, responses written, DONE events, and
envelope frames received. -/

namespace Sys2Proof.Machine

/-- The opcode is assigned (R83 and the command tables of the chapters). -/
def knownOp (op : Nat) : Bool :=
  let g := op / 256
  let c := op % 256
  decide (c < ([0, 9, 15, 12, 7, 18, 21, 12, 14, 11, 15, 9, 12, 18, 12, 8, 13, 5, 8, 8, 10] : List Nat).getD g 0)
    || (g == 3 && decide (0x20 ≤ c) && decide (c ≤ 0x24))
    || (g == 4 && decide (0x10 ≤ c) && decide (c ≤ 0x12))
    || (g == 0xB && ((decide (0x10 ≤ c) && decide (c ≤ 0x13)) || (decide (0x20 ≤ c) && decide (c ≤ 0x23))))

/-- A message taken from its 16-byte header and its payload (R64, R65): checks 2 and 3 are made here, the others when it
executes. -/
def State.takeMessage (s : State) (n : Nat) (header payload : Bytes) : State :=
  let op := le header 0 2
  let now : Option Answer :=
    if 8176 < le header 4 2 then some stBadLength else if knownOp op then none else some stBadOpcode
  s.take n (BitVec.ofNat 16 op) (BitVec.ofNat 16 (le header 2 2)) payload now

/-- The slot can take a further request (R63, R66). -/
def SlotRec.canTake (x : SlotRec) : Bool := decide (x.inFlight.length < 8) && !x.blocked

/-- The next request of a mailbox is taken (R60, R65): MBX_REQ_TAIL moves past it, or, where LENGTH exceeds 8,176, to
MBX_REQ_HEAD. A request that MBX_REQ_HEAD does not yet cover waits. -/
def State.requestTake (s : State) (n : Nat) : State :=
  let x := s.slot n
  let avail := (x.reqHead - x.reqTail).toNat
  let at_ (off len : Nat) : Bytes := Sys2Proof.Machine.ringRead s.ram (0x8000 * n) 8192 (x.reqTail.toNat + off) len
  let header := at_ 0 16
  let len := le header 4 2
  if avail < 16 then s
  else if 8176 < len then
    (s.modSlot n (fun x => { x with reqTail := x.reqHead })).takeMessage n header []
  else if avail < msgSize len then s
  else
    (s.modSlot n (fun x => { x with reqTail := x.reqTail + BitVec.ofNat 16 (msgSize len) })).takeMessage n header (at_ 16 len)

/-- REQUEST_TAKE. -/
def execRequestTake (n : Slot) (s : State) : Res :=
  let x := s.slot n
  .next (if s.running && x.state != .unbound && !x.isEth && x.canTake then s.requestTake n else s)

/-! Responses. -/

/-- The oldest command leaves its slot's flight. -/
def State.popFront (s : State) (n : Nat) : State := s.modSlot n (fun x => { x with inFlight := x.inFlight.drop 1 })

/-- RESPONSES, and REPLAYS for a replay (R536). -/
def State.countResponse (s : State) (n : Nat) (replayed : Bool) : State :=
  s.modStats n (fun c => { c with responses := c.responses + 1, replays := c.replays + b2n replayed })

/-- A response written to the response buffer (R60, R63): MBX_RSP_HEAD advances and RESP is set. -/
def State.mailResponse (s : State) (n : Nat) (f : InFlight) (a : Answer) : State :=
  let k := msgSize a.payload.length
  let msg := padTo k (responseMsg n f.op f.tag a)
  let s := { s with ram := Sys2Proof.Machine.ringWrite s.ram (0x8000 * n + 0x2000) 8192 (s.slot n).rspHead.toNat msg }
  (s.modSlot n (fun x => { x with rspHead := x.rspHead + BitVec.ofNat 16 k })).setCause n 0

/-- A response sent as an envelope frame, its payload cut at 1,452 bytes (R82). -/
def State.ethResponse (s : State) (n : Nat) (f : InFlight) (a : Answer) : State :=
  let a : Answer := if 1452 < a.payload.length then { a with payload := a.payload.take 1452, trunc := true } else a
  s.sendEnvelope n 1 (responseMsg n f.op f.tag a)

/-- The response has room, or goes out as a frame. -/
def SlotRec.roomFor (x : SlotRec) (a : Answer) : Bool := x.isEth || decide (msgSize a.payload.length ≤ x.rspRoom)

/-- A response by the slot's present transport, if it has room: written, counted, and out of flight. -/
def State.respondHere (s : State) (n : Nat) (f : InFlight) (a : Answer) : State :=
  if (s.slot n).roomFor a then
    ((if (s.slot n).isEth then s.ethResponse n f a else s.mailResponse n f a).countResponse n a.replayed).popFront n
  else s

/-- The response to S0's own SLOT_BIND goes to its old transport (R52). -/
def State.respondOld (s : State) (n : Nat) (f : InFlight) (a : Answer) (b : Binding) (seq : Nat) : State :=
  let x := s.slot n
  let back := s.modSlot n (fun y => { y with binding := b, ethTx := seq })
  if (back.slot n).roomFor a then
    (back.respondHere n f a).modSlot n (fun y => { y with binding := x.binding, ethTx := x.ethTx, replyTo := none })
  else s

/-- The answer of the oldest command leaves (R53, R63): for an unbound slot it is discarded. The reset of SYS_RESET follows its
response, or waits until the frame has left the management port (R84). -/
def State.respond (s : State) (n : Nat) (f : InFlight) (a : Answer) : State :=
  if f.orphan then s.popFront n
  else
    let r := match (s.slot n).replyTo with
      | some (b, seq) => s.respondOld n f a b seq
      | none => s.respondHere n f a
    let reset := f.op == 0x0103 && (r.slot n).resetDue && !f.dup && !(r.slot n).isEth
      && decide ((r.slot n).inFlight.length < (s.slot n).inFlight.length)
    if reset then r.resetDie 3 else r

/-- Pending changes of mode without the one that a command asked for. -/
def Wanted.without (l : List Wanted) (n : Nat) (tag : Half) : List Wanted := l.filter (fun w => !(w.slot == n && w.tag == tag))

/-- A swap is the immediate one that a command asked for. -/
def Swap.isOf (w : Swap) (n : Nat) (tag : Half) : Bool := w.slot == n && w.tag == tag && w.instant.isNone

/-- A Customs swap is taken back: its banks change places again under a further generation, and its partitions are IDLE. -/
def State.unswapCustoms (s : State) (w : Swap) : State :=
  (s.modCustoms (fun c => { c.swapBanks w.mask s.now with
    parts := setParts c.parts w.mask .idle, swaps := c.swaps.filter (fun x => x != w) })).nextGen

/-- A route swap is taken back. -/
def State.unswapRoutes (s : State) (w : Swap) : State :=
  let sel := inParts w.mask 0 1024
  (s.modRelay (fun r => { r with
    routes := takeFrom r.routes r.routesStaged sel, routesStaged := takeFrom r.routesStaged r.routes sel
    parts := setParts r.parts w.mask .idle, swaps := r.swaps.filter (fun x => x != w) })).nextGen

/-- A swap of the stream identification table is taken back. -/
def State.unswapStreams (s : State) : State :=
  (s.modNet (fun x => { x with streamIds :=
    { active := x.streamIds.staged, staged := x.streamIds.active, retiring := false, swaps := [] } })).nextGen

/-- The work of a started command is withdrawn (R68, DESIGN CHOICE, log 70): a change of mode that waits is dropped, a swap is taken
back, and a self-test that waits for its grant is not made. -/
def State.withdraw (s : State) (n : Nat) (tag : Half) : State :=
  let s : State := { s with
    can := s.can.map (fun x => { x with wanted := Wanted.without x.wanted n tag })
    lin := s.lin.map (fun x => { x with wanted := Wanted.without x.wanted n tag })
    uart := s.uart.map (fun x => { x with wanted := Wanted.without x.wanted n tag }) }
  let s := forAll (s.net.customs.swaps.filter (·.isOf n tag)) (fun w s => s.unswapCustoms w) s
  let s := forAll (s.relay.swaps.filter (·.isOf n tag)) (fun w s => s.unswapRoutes w) s
  let s := if s.net.streamIds.swaps.any (·.isOf n tag) then s.unswapStreams else s
  forAll ((List.range 12).filter (fun e => (s.engine e).testFor == some (n, tag))) (fun e s =>
    ((s.modEngine e (fun x => { x with testFor := none })).release .selfTest e).engineTo e .inService 0 0) s

/-- The class limit of a started command has passed (R68): ST_ACCEPTED while fewer than 4 commands are accepted, else ST_BUSY, and
its work is not done. -/
def State.acceptLate (s : State) (n : Nat) (f : InFlight) : State :=
  if 4 ≤ (s.slot n).jobs.length then (s.withdraw n f.tag).answerFront n stBusy
  else
    let j : Job := { tag := f.tag, op := f.op, finished := false }
    (s.modSlot n (fun x => { x with jobs := x.jobs ++ [j] })).answerFront n (answer 2 [])

/-- RESPONSE_WRITE (R63, R66, R68): for the oldest command in flight. -/
def execResponseWrite (n : Slot) (s : State) : Res :=
  .next (match (s.slot n).inFlight with
    | [] => s
    | f :: _ =>
      match f.answer with
      | some a => s.respond n f a
      | none => if f.started then s.acceptLate n f else s)

/-- DONE_EVENT (R68, R78): the oldest DONE event that its work has brought about is written. -/
def execDoneEvent (n : Slot) (s : State) : Res := .next (s.writeDone n)

/-! Envelope frames (R79 to R81). -/

/-- What R81 finds of an envelope for an Ethernet-bound slot: a counter of R536, or nothing against it. -/
inductive EnvFault where
  | auth | seq | format
deriving DecidableEq, Repr, Inhabited

/-- The envelope's own message fits its frame and the header agrees: OUI, PROTOCOL, DIR. -/
def envelopeForm (body : Bytes) : Bool :=
  be body 0 3 == 0x0AE17C && be body 3 2 == 2 && !bitOf (byteAt body 5) 0
    && decide (48 + le body 20 2 ≤ body.length)

/-- The checks of R81 in order, for slot `n` bound as `b`. -/
def State.envelopeFault (s : State) (n : Nat) (b : EthBinding) (p : Nat) (dst src : BitVec 48) (vid : BitVec 12) (body : Bytes) :
    Option EnvFault :=
  let m := 16 + le body 20 2
  let k := s.keyOf b.keySlot
  let covered := beBytes 6 dst.toNat ++ beBytes 6 src.toNat ++ beBytes 2 0x88B7 ++ body.take (16 + m)
  if (b.port ≠ 0xFFFF ∧ b.port ≠ p) ∨ src ≠ b.mac ∨ vid ≠ b.vlan ∨ !envelopeForm body then some .format
  else if k.state ≠ .valid ∨ k.writes ≠ b.keyWrites ∨ beBytes 16 (cmac b.h2d covered).toNat ≠ slice body (16 + m) 16 then
    some .auth
  else if be body 8 8 ≤ (s.slot n).ethRx then some .seq
  else none

/-- An envelope dropped and counted (R81, R536). -/
def State.envelopeDrop (s : State) (n : Nat) (e : EnvFault) : State :=
  s.modStats n (fun c => match e with
    | .auth => { c with auth := c.auth + 1 }
    | .seq => { c with seq := c.seq + 1 }
    | .format => { c with format := c.format + 1 })

/-- An envelope for slot `n` (R66, R81): taken as a request, or dropped. With 8 commands in flight it finds no place and is
dropped uncounted. -/
def State.envelope (s : State) (n p : Nat) (dst src : BitVec 48) (vid : BitVec 12) (body : Bytes) : State :=
  match (s.slot n).binding with
  | .eth b =>
    match s.envelopeFault n b p dst src vid body with
    | some e =>
      let stale := e == .auth && (s.keyOf b.keySlot).state == .stale
      (s.envelopeDrop n e).count (.key .staleUse) (b2n stale)
    | none =>
      if 8 ≤ (s.slot n).inFlight.length then s
      else
        (s.modSlot n (fun x => { x with ethRx := be body 8 8 })).takeMessage n (slice body 16 16)
          (slice body 32 (le body 20 2))
  | _ => s.envelopeDrop n .format

/-- Customs lets a frame from port `p` through to F27 (R82, R171 to R176): the verdict of the zone of F27 in the frame's VLAN, deep rules
included. -/
def State.customsTo27 (s : State) (p : Nat) (vid : Nat) (bytes : Bytes) : Bool :=
  let cu := s.net.customs
  let h := parse false bytes.length bytes
  let member := memberCode p 0xFF
  let src := (cu.ruledZone member vid).getD 32
  match cu.ruledZone (memberCode 27 0xFF) vid with
  | none => false
  | some d =>
    let z := zoneVerdict cu (cu.matching member src vid (h.tci / 8192) h) (convKey h vid) src d
    (z.resolve (deepHitsOf [z] h bytes.length bytes)).1

/-- The frame of an envelope from its parts (R79), tagged where it names a VLAN. -/
def Inbound.bytes (x : Inbound) : Bytes :=
  beBytes 6 x.dst.toNat ++ beBytes 6 x.src.toNat ++ (if x.vid = 0 then [] else beBytes 2 0x8100 ++ beBytes 2 x.vid.toNat)
    ++ beBytes 2 0x88B7 ++ x.body

/-- An envelope frame is at F27 (R82): it came through the fabric; or it arrives now, and Customs lets it pass. -/
def State.atF27 (s : State) (x : Inbound) : Bool :=
  s.net.inbox.contains x ||
    s.customsTo27 x.port (if x.vid = 0 then le (s.fwd x.port) 0 2 else x.vid.toNat) x.bytes

/-- ENVELOPE_RECEIVE: the body starts after the EtherType; its byte 6 names the slot. -/
def execEnvelopeReceive (p : Port) (dst src : BitVec 48) (vid : BitVec 12) (body : Bytes) (s : State) : Res :=
  let n := byteAt body 6
  let x : Inbound := { port := p, dst := dst, src := src, vid := vid, body := body }
  let q := s.modNet (fun y => { y with inbox := y.inbox.erase x })
  .next (if s.running && dst == Config.managementMac && s.atF27 x then
      (if n < 16 then q.envelope n p dst src vid body else q)
    else s)

end Sys2Proof.Machine
end

