-- ==== Sys2Proof/Machine/SysCmds.lean ====
section
/-! DEFINITION. The SYS commands, the board interfaces, and the first command of the FDB group (chapter 03 of the spec). -/

namespace Sys2Proof.Machine

/-- SYS_GET_CAPS (R84). -/
def cmdSysGetCaps : Cmd :=
  { op := 0x0100, lengthOk := lenIs 0, check := fun _ _ _ => none
    run := fun s _ _ _ => (s, .done (stOk (w16 2 ++ w8 16 ++ w8 8 ++ w8 32 ++ w8 4 ++ w16 64 ++ w16 8192 ++ w16 8192 ++ w16 1468
      ++ zeros 2 ++ w32 1000 ++ w32 400 ++ w32 20000 ++ w32 12000 ++ w32 500000 ++ w32 300000 ++ w32 s.fwVerReg))) }

/-- SYS_GET_INFO (R537). -/
def cmdSysGetInfo : Cmd :=
  { op := 0x0101, lengthOk := lenIs 0, check := fun _ _ _ => none
    run := fun s _ _ _ => (s, .done (stOk (w64 Config.serial.toNat ++ w8 s.boot.lcs.toNat ++ [0]
      ++ beBytes 6 Config.managementMac.toNat ++ w32 s.fwVerReg ++ w8 s.memTest.result ++ zeros 3 ++ w32 s.memTest.fail))) }

/-- SYS_PING (R84). -/
def cmdSysPing : Cmd :=
  { op := 0x0102, lengthOk := fun p => decide (p.length ≤ 64), check := fun _ _ _ => none
    run := fun s _ _ p => (s, .done (stOk p)) }

/-- SYS_RESET (R84): the reset waits for its response. -/
def cmdSysReset : Cmd :=
  { op := 0x0103, lengthOk := lenIs 0, check := fun _ n _ => mustBeS0 n
    run := fun s n _ _ => (s.modSlot n (fun x => { x with resetDue := true }), .done (stOk [])) }

/-! GPIO (R85). -/

/-- GPIO pin `k`. -/
def State.pin (s : State) (k : Nat) : Gpio := vget s.board.gpio k

/-- GPIO pin `k` changed. -/
def State.modPin (s : State) (k : Nat) (f : Gpio → Gpio) : State :=
  { s with board := { s.board with gpio := vmod s.board.gpio k f } }

/-- The level at a pin: what a push-pull output drives; on an open-drain output, low where it pulls low, else the level outside. -/
def Gpio.atPin (g : Gpio) : Bool :=
  if g.floating then g.level else if g.direction = 1 then g.out else if g.direction = 2 then g.out && g.level else g.level

/-- A level driven on an output pin (R85). -/
def State.drivePin (s : State) (k : Nat) (level : Bool) : State :=
  let was := (s.pin k).out
  let s := s.modPin k (fun g => { g with out := level })
  if was = level then s else s.emit (.pin (16 + k) level)

/-- SYS_GPIO_CONFIG (R85). -/
def cmdSysGpioConfig : Cmd :=
  { op := 0x0104, lengthOk := lenIs 8
    check := fun s n p => firstFail [inRange (byteAt p 0) 8 0, mustOwn s n 13 (byteAt p 0), between (byteAt p 1) 0 2 1,
      between (byteAt p 2) 0 2 2, flag p 3, between (byteAt p 4) 0 3 4, between (le p 5 2) 0 10000 5]
    run := fun s _ _ p =>
      let k := byteAt p 0
      let level := byteAt p 3 == 1
      let s := s.modPin k (fun g => { g with
        floating := false, direction := byteAt p 1, pull := byteAt p 2, edge := byteAt p 4, debounce := le p 5 2, since := none
        settled := g.level })
      (if byteAt p 1 = 0 then s.modPin k (fun g => { g with out := level }) else s.drivePin k level, .done (stOk [])) }

/-- SYS_GPIO_WRITE (R85): every pin of the mask belongs to the caller; inputs stay. -/
def cmdSysGpioWrite : Cmd :=
  { op := 0x0105, lengthOk := lenIs 4
    check := fun s n p => need ((maskList 8 (byteAt p 0)).all (fun k => s.owns n 13 k)) stNotOwner
    run := fun s _ _ p =>
      (forAll (maskList 8 (byteAt p 0)) (fun k s =>
        if (s.pin k).direction = 0 then s else s.drivePin k (bitOf (byteAt p 1) k)) s, .done (stOk [])) }

/-- SYS_GPIO_READ (R85): the level at every pin and the mask of outputs. -/
def cmdSysGpioRead : Cmd :=
  { op := 0x0106, lengthOk := lenIs 0
    check := fun s n _ => need (!(s.slot n).restricted || (List.range 8).all (fun k => s.owns n 13 k)) stNotOwner
    run := fun s _ _ _ => (s, .done (stOk (w8 (maskOf 8 (fun k => (s.pin k).atPin))
      ++ w8 (maskOf 8 (fun k => (s.pin k).direction != 0)) ++ [0, 0]))) }

/-- The pin's EDGE chooses changes to this level. -/
def Gpio.chooses (g : Gpio) (level : Bool) : Bool := g.edge == 3 || (g.edge == 1 && level) || (g.edge == 2 && !level)

/-- The new level of an input has held: SYS_GPIO to the pin's owner, if its edge was chosen (R85). -/
def State.settlePin (s : State) (k at_ : Nat) : State :=
  let g := s.pin k
  let s := s.modPin k (fun g => { g with settled := g.level, since := none })
  if g.level != g.settled && g.chooses g.level then
    s.event (s.ownerOf 13 k) 0x0101 (w8 k ++ w8 (b2n g.level) ++ zeros 6 ++ w64 at_)
  else s

/-- GPIO_EDGE (R85): the level outside changes. -/
def execGpioEdge (pin : Fin 8) (level : Bool) (s : State) : Res :=
  let was := (s.pin pin.val).level
  let s := s.modPin pin.val (fun g => { g with level := level })
  .next (if was == level || !(s.running && s.bank33) || (s.pin pin.val).direction != 0 then s
    else if (s.pin pin.val).debounce = 0 then s.settlePin pin.val s.now
    else s.modPin pin.val (fun g => { g with
      since := some ((match g.since with | some t => t.1 | none => s.now), s.tick) }))

/-- GPIO_DEBOUNCE_END (R85): the level has held for DEBOUNCE_US, of 800 ticks each; before that nothing happens. -/
def execGpioDebounceEnd (pin : Fin 8) (s : State) : Res :=
  .next (match (s.pin pin.val).since with
    | none => s
    | some t => if s.bank33 ∧ t.2 + 800 * (s.pin pin.val).debounce ≤ s.tick then s.settlePin pin.val t.1 else s)

/-! I²C and MDIO (R86, R87). -/

/-- Bytes that the master sends, all acknowledged. -/
def i2cSent (b : Bytes) : List I2cStep := b.map (fun x => .sent x true)

/-- Bytes that the master reads: it acknowledges every byte except the `n`-th and last (R86). -/
def i2cGot (n : Nat) : Bytes → List I2cStep
  | [] => []
  | b :: bs => .got b (decide (1 < n)) :: i2cGot (n - 1) bs

/-- One transfer on an I²C bus (R86): its steps, RESULT, DONE_LEN and the bytes read. `result` is what happens there, `pos` how far the
transfer comes where it fails, and `input` what the target returns; all three are free. Where DATA is refused there is DATA. -/
def i2cTransfer (addr : Nat) (out : Bytes) (readLen result pos : Nat) (input : Bytes) : List I2cStep × Nat × Nat × Bytes :=
  let wr (ack : Bool) : List I2cStep := [.start, .sent (BitVec.ofNat 8 (2 * addr)) ack]
  let rd (ack : Bool) : List I2cStep := [.restart, .sent (BitVec.ofNat 8 (2 * addr + 1)) ack]
  let w := out.length
  let far := pos % (w + readLen + 1)
  let cut : List I2cStep × Nat :=
    if far ≤ w then (wr true ++ i2cSent (out.take far), far)
    else (wr true ++ i2cSent out ++ rd true ++ (i2cGot readLen input).take (far - w), far - w)
  if result = 0 then
    if readLen = 0 then (wr true ++ i2cSent out ++ [.stop], 0, w, [])
    else (wr true ++ i2cSent out ++ rd true ++ i2cGot readLen input ++ [.stop], 0, readLen, input)
  else if result = 3 then (cut.1 ++ [.nineClocks, .stop], 3, cut.2, [])
  else if result = 4 then (cut.1, 4, cut.2, [])
  else if result = 2 ∧ 0 < w then
    (wr true ++ i2cSent (out.take (pos % w)) ++ [.sent (out.getD (pos % w) 0) false, .stop], 2, pos % w, [])
  else if readLen ≠ 0 ∧ pos % 2 = 1 then (wr true ++ i2cSent out ++ rd false ++ [.stop], 1, w, [])
  else (wr false ++ [.stop], 1, 0, [])

/-- SYS_I2C_XFER (R86). -/
def cmdSysI2cXfer : Cmd :=
  { op := 0x0107
    lengthOk := fun p => decide (8 ≤ p.length) && decide (p.length ≤ 264) && (decide (256 < le p 4 2) || p.length == 8 + le p 4 2)
    check := fun s n p => firstFail [inRange (byteAt p 0) 2 0, mustOwn s n 14 (byteAt p 0), flag p 1,
      between (byteAt p 2) 0x08 0x77 2, between (le p 4 2) 0 256 4, between (le p 6 2) 0 256 6]
    run := fun s _ _ p =>
      let m := byteAt p 0
      let s : State := { s with board := { s.board with i2cFast := vset s.board.i2cFast m (byteAt p 1 == 1) } }
      let r := s.freeNat
      let k := r.2.freeNat
      let d := k.2.freeBytes (le p 6 2)
      let x := i2cTransfer (byteAt p 2) (slice p 8 (le p 4 2)) (le p 6 2) (r.1 % 5) k.1 d.1
      (d.2.emit (.i2c m (byteAt p 1 == 1) x.1), .done (stOk (w8 x.2.1 ++ [0] ++ w16 x.2.2.1 ++ x.2.2.2))) }

/-- A read OP of R87. -/
def mdioReads (op : Nat) : Bool := op == 0 || op == 4 || op == 5

/-- SYS_MDIO_ACCESS (R87). What a target answers to a read, or that none does, is free. -/
def cmdSysMdioAccess : Cmd :=
  { op := 0x0108, lengthOk := lenIs 8
    check := fun s n p => firstFail [mustOwn s n 15 0, between (byteAt p 0) 0 5 0, between (byteAt p 1) 0 31 1,
      between (byteAt p 2) 0 31 2, need (!mdioReads (byteAt p 0) || le p 4 2 == 0) (stBadParam 4),
      need (le p 6 2 == 0 || (decide (500 ≤ le p 6 2) && decide (le p 6 2 ≤ 2500))) (stBadParam 6)]
    run := fun s _ _ p =>
      let s : State := if le p 6 2 = 0 then s else { s with board := { s.board with mdcKhz := le p 6 2 } }
      let s := s.emit (.mdio p)
      if mdioReads (byteAt p 0) then
        let r := s.freeNat
        let d := r.2.freeNat
        if r.1 % 2 = 1 then (d.2, .done (stOk (w16 0xFFFF ++ [1, 0]))) else (d.2, .done (stOk (w16 d.1 ++ [0, 0])))
      else (s, .done (stOk (zeros 4))) }

/-- FDB_GET_CAPS (R83, R538): the spec names no contents; they are free (log 22). -/
def cmdFdbGetCaps : Cmd :=
  { op := 0x0400, lengthOk := lenIs 0, check := fun _ _ _ => none
    run := fun s _ _ _ =>
      ({ s with fresh := s.fresh + 1 }, .done (stOk ((Config.freeBytes s.fresh).take 8176))) }

/-- SYS_GET_CAPS. -/
def execSysGetCaps (slot : Slot) (tag : Half) (payload : Bytes) (s : State) : Res :=
  .next (penyen cmdSysGetCaps slot.val tag payload s)

/-- SYS_GET_INFO. -/
def execSysGetInfo (slot : Slot) (tag : Half) (payload : Bytes) (s : State) : Res :=
  .next (penyen cmdSysGetInfo slot.val tag payload s)

/-- SYS_PING. -/
def execSysPing (slot : Slot) (tag : Half) (payload : Bytes) (s : State) : Res :=
  .next (penyen cmdSysPing slot.val tag payload s)

/-- SYS_RESET. -/
def execSysReset (slot : Slot) (tag : Half) (payload : Bytes) (s : State) : Res :=
  .next (penyen cmdSysReset slot.val tag payload s)

/-- SYS_GPIO_CONFIG. -/
def execSysGpioConfig (slot : Slot) (tag : Half) (payload : Bytes) (s : State) : Res :=
  .next (penyen cmdSysGpioConfig slot.val tag payload s)

/-- SYS_GPIO_WRITE. -/
def execSysGpioWrite (slot : Slot) (tag : Half) (payload : Bytes) (s : State) : Res :=
  .next (penyen cmdSysGpioWrite slot.val tag payload s)

/-- SYS_GPIO_READ. -/
def execSysGpioRead (slot : Slot) (tag : Half) (payload : Bytes) (s : State) : Res :=
  .next (penyen cmdSysGpioRead slot.val tag payload s)

/-- SYS_I2C_XFER. -/
def execSysI2cXfer (slot : Slot) (tag : Half) (payload : Bytes) (s : State) : Res :=
  .next (penyen cmdSysI2cXfer slot.val tag payload s)

/-- SYS_MDIO_ACCESS. -/
def execSysMdioAccess (slot : Slot) (tag : Half) (payload : Bytes) (s : State) : Res :=
  .next (penyen cmdSysMdioAccess slot.val tag payload s)

/-- FDB_GET_CAPS. -/
def execFdbGetCaps (slot : Slot) (tag : Half) (payload : Bytes) (s : State) : Res :=
  .next (penyen cmdFdbGetCaps slot.val tag payload s)

end Sys2Proof.Machine
end

