-- ==== Sys2Proof/Machine/SlotCmds.lean ====
section
/-! DEFINITION. The SLOT commands: slot states, bindings and ownership (chapter 03 of the spec). -/

namespace Sys2Proof.Machine

/-- The number of resources of a type (R54); 0 where there is no such type. -/
def resourceCount (ty : Nat) : Nat := ([0, 25, 16, 4, 6, 25, 16, 16, 16, 512, 1024, 16, 6, 8, 2, 1] : List Nat).getD ty 0

/-- All resources of R54. -/
def resourceTotal : Nat := (List.range 16).foldl (fun (a t : Nat) => a + resourceCount t) 0

/-- Resources that a slot owns. -/
def State.ownedCount (s : State) (n : Nat) : Nat :=
  if n = 0 then resourceTotal - s.owners.length else (s.owners.filter (fun e => e.2 == n)).length

/-- A slot state changes (R52, R77): SLOT_STATE to S0, and to the slot while it has a transport. -/
def State.slotTo (s : State) (n : Nat) (st : SlotState) (cause : Nat) : State :=
  let was := (s.slot n).state
  if was = st then s
  else
    let s := s.modSlot n (fun x => { x with state := st })
    let data := w8 n ++ w8 was.code ++ w8 st.code ++ w8 cause ++ w8 ((s.slot n).binding.code 0xFF)
    if (s.slot n).binding = .unset then s.event 0 0x0003 data else s.eventTwo 0 n 0x0003 data

/-- A range of resources moves (R54, R57, R500): mandates that the losing slot granted there end, and OWNERSHIP is written to
both slots. -/
def State.moveRange (s : State) (ty first count from_ to_ : Nat) : State :=
  let s := forAll (List.range count) (fun k s => (s.setOwner ty (first + k) to_).endMandates ty (first + k) from_) s
  s.eventTwo from_ to_ 0x0002 (w8 ty ++ [0] ++ w16 first ++ w16 count ++ w8 from_ ++ w8 to_)

/-- Rising indices as runs: first index and count. -/
def runsOf : List Nat → List (Nat × Nat)
  | [] => []
  | i :: is =>
    match runsOf is with
    | [] => [(i, 1)]
    | r :: rs => if i + 1 = r.1 then (i, r.2 + 1) :: rs else (i, 1) :: r :: rs

/-- Every resource of a slot returns to S0, run by run (R53). -/
def State.returnAll (s : State) (n : Nat) : State :=
  forAll (List.range 16) (fun ty s =>
    forAll (runsOf ((List.range (resourceCount ty)).filter (fun i => s.owns n ty i)))
      (fun r s => s.moveRange ty r.1 r.2 n 0) s) s

/-- A slot field from 1 to 15 (R52, R54, R56). -/
def slot1 (p : Bytes) : Option Answer := need (1 ≤ byteAt p 0 && byteAt p 0 ≤ 15) (stBadParam 0)

/-- ST_WRONG_STATE with a slot's state (R75). -/
def wrongSlot (s : State) (m : Nat) : Answer := stWrongState 0x0200 m (s.slot m).state.code

/-- A restricted slot may not read another slot (R56). -/
def mayReadSlot (s : State) (n m : Nat) : Option Answer := need (!(s.slot n).restricted || n == m) stNotOwner

/-- SLOT_GET_CAPS (R538): the slot count, and the range of the ring size (R113). -/
def cmdSlotGetCaps : Cmd :=
  { op := 0x0200, lengthOk := lenIs 0, check := fun _ _ _ => none
    run := fun s _ _ _ => (s, .done (stOk (w32 16 ++ w32 64 ++ w32 4096))) }

/-- SLOT_OPEN (R52). -/
def cmdSlotOpen : Cmd :=
  { op := 0x0201, lengthOk := lenIs 2, check := fun _ _ p => need (le p 0 2 == 2) (stBadParam 0)
    run := fun s n _ _ =>
      let s := if (s.slot n).state = .bound then s.slotTo n .opened 0 else s
      (s, .done (stOk (w8 n ++ w16 (s.ownedCount n)))) }

/-- SLOT_CLOSE (R52). -/
def cmdSlotClose : Cmd :=
  { op := 0x0202, lengthOk := lenIs 0, check := fun _ _ _ => none
    run := fun s n _ _ => (if (s.slot n).state = .opened then s.slotTo n .bound 0 else s, .done (stOk [])) }

/-! SLOT_BIND (R49, R52, R55, R80, R84). -/

/-- The largest INDEX of a KIND is respected (R49). -/
def indexOk (kind i : Nat) : Bool :=
  if kind = 0 then decide (i ≤ 15) else if kind = 1 then decide (i ≤ 1) else decide (i ≤ 24) || i == 0xFFFF

/-- The transport of a binding is that of KIND and INDEX. -/
def Binding.is (b : Binding) (kind i : Nat) : Bool :=
  match b with
  | .unset => false
  | .pcie f => kind == 0 && f.val == i
  | .spi p => kind == 1 && p.val == i
  | .eth e => kind == 2 && e.port == i

/-- Fields that are 0 for KIND 0 and 1 (R84). -/
def bindZero (p : Bytes) : Option Answer :=
  if byteAt p 1 = 2 then none
  else firstFail [need (be p 4 6 == 0) (stBadParam 4), need (le p 10 2 == 0) (stBadParam 10),
    need (le p 12 2 == 0) (stBadParam 12)]

/-- The two envelope keys from a derive-only key slot (R80, R444): the context is the slot number. -/
def State.envelopeKeys (s : State) (b : EthBinding) (m keySlot : Nat) : EthBinding :=
  let k := s.keyOf keySlot
  { b with
    keySlot := keySlot, keyWrites := k.writes
    h2d := firmwareKey k.key "PNY-H2D" (w8 m), d2h := firmwareKey k.key "PNY-D2H" (w8 m) }

/-- The binding of a record; Ethernet keys are derived already. -/
def State.bindingOf (s : State) (p : Bytes) : Binding :=
  let i := le p 2 2
  if byteAt p 1 = 0 then .pcie (Fin.ofNat 16 i)
  else if byteAt p 1 = 1 then .spi (Fin.ofNat 2 i)
  else
    .eth (s.envelopeKeys
      { port := i, mac := BitVec.ofNat 48 (be p 4 6), vlan := BitVec.ofNat 12 (le p 10 2), keySlot := 0, keyWrites := 0
        h2d := [], d2h := [] } (byteAt p 0) (le p 12 2))

/-- A slot is bound (R52, R55, R81, R536): its own ring set is granted to it; S0 stays OPEN on its new transport, and the
response of its command goes to the old one. -/
def State.bindSlot (s : State) (m : Nat) (b : Binding) : State :=
  let old := s.slot m
  let s := if m = 0 then s.dropRings 0 else s
  let s := s.modSlot m (fun x => { x with binding := b, ethTx := 1, ethRx := 0, stats := default })
  if m = 0 then s.modSlot 0 (fun x => { x with replyTo := some (old.binding, old.ethTx) })
  else
    let s := s.slotTo m .bound 1
    let was := s.ownerOf 11 m
    if was = m then s else s.moveRange 11 m 1 was m

/-- SLOT_BIND. -/
def cmdSlotBind : Cmd :=
  { op := 0x0203, lengthOk := lenIs 16
    check := fun s n p =>
      let m := byteAt p 0
      let eth := byteAt p 1 == 2
      firstFail [inRange m 16 0, between (byteAt p 1) 0 2 1, need (indexOk (byteAt p 1) (le p 2 2)) (stBadParam 2),
        need (!eth || decide (le p 12 2 < 512)) (stBadParam 12), mustBeS0 n,
        need (!eth || s.owns n 9 (le p 12 2)) stNotOwner,
        need (m == 0 || (s.slot m).state == .unbound) (wrongSlot s m), bindZero p,
        need (le p 10 2 ≤ 4094) (stBadParam 10),
        need (!(List.range 16).any (fun k => k != m && (s.slot k).binding.is (byteAt p 1) (le p 2 2))) stNoResource]
    run := fun s n _ p =>
      let m := byteAt p 0
      let r := if byteAt p 1 = 2 then s.useKey (some n) (le p 12 2) 4 [6, 7] else (none, s)
      match r with
      | (some a, s) => (s, .done a)
      | (none, s) => (s.bindSlot m (s.bindingOf p), .done (stOk [])) }

/-- SLOT_UNBIND's effect (R29, R53, R121, R430, R434): commands in flight run on with their responses discarded. -/
def State.unbindSlot (s : State) (m : Nat) : State :=
  let s := ((s.cdiDrop m).dropCtxs m).dropRings m
  let s := s.modSlot m (fun x => { x with
    binding := .unset, tags := [], replyTo := none
    inFlight := x.inFlight.map (fun f => { f with excused := true, orphan := true }) })
  let s : State := { s with hiu := { s.hiu with permit := s.hiu.permit &&& ~~~(1#16 <<< m) } }
  (s.slotTo m .unbound 1).returnAll m

/-- SLOT_UNBIND (R53). -/
def cmdSlotUnbind : Cmd :=
  { op := 0x0204, lengthOk := lenIs 4
    check := fun s n p => firstFail [slot1 p, mustBeS0 n, need ((s.slot (byteAt p 0)).state != .unbound) (wrongSlot s (byteAt p 0))]
    run := fun s _ _ p => (s.unbindSlot (byteAt p 0), .done (stOk [])) }

/-- The object checks of SLOT_GRANT and SLOT_REVOKE, S0, and a range wholly owned by `from_` (R54). -/
def rangeCheck (s : State) (n from_ : Nat) (p : Bytes) : Option Answer :=
  let ty := byteAt p 1
  let first := le p 4 2
  let count := le p 6 2
  firstFail [slot1 p, need (1 ≤ ty && ty ≤ 15) (stBadParam 1), need (first < resourceCount ty) (stBadParam 4),
    need (1 ≤ count && first + count ≤ resourceCount ty) (stBadParam 6), mustBeS0 n,
    need ((List.range count).all (fun k => s.owns from_ ty (first + k))) stNotOwner]

/-- SLOT_GRANT (R54). -/
def cmdSlotGrant : Cmd :=
  { op := 0x0205, lengthOk := lenIs 8, check := fun s n p => rangeCheck s n 0 p
    run := fun s _ _ p => (s.moveRange (byteAt p 1) (le p 4 2) (le p 6 2) 0 (byteAt p 0), .done (stOk [])) }

/-- SLOT_REVOKE (R54). -/
def cmdSlotRevoke : Cmd :=
  { op := 0x0206, lengthOk := lenIs 8, check := fun s n p => rangeCheck s n (byteAt p 0) p
    run := fun s _ _ p => (s.moveRange (byteAt p 1) (le p 4 2) (le p 6 2) (byteAt p 0) 0, .done (stOk [])) }

/-- SLOT_GET_STATE: state, transport, in-flight and accepted counts, one byte each (log 22). -/
def cmdSlotGetState : Cmd :=
  { op := 0x0207, lengthOk := lenIs 4
    check := fun s n p => firstFail [inRange (byteAt p 0) 16 0, mayReadSlot s n (byteAt p 0)]
    run := fun s _ _ p =>
      let x := s.slot (byteAt p 0)
      (s, .done (stOk (w8 x.state.code ++ w8 (x.binding.code 0xFF) ++ w8 x.inFlight.length ++ w8 x.jobs.length))) }

/-- SLOT_SET_READ_POLICY (R56). -/
def cmdSlotSetReadPolicy : Cmd :=
  { op := 0x0208, lengthOk := lenIs 4, check := fun _ n p => firstFail [slot1 p, mustBeS0 n, flag p 1]
    run := fun s _ _ p => (s.modSlot (byteAt p 0) (fun x => { x with restricted := byteAt p 1 == 1 }), .done (stOk [])) }

/-- SLOT_FENCE's effect (R52, R53, R434). -/
def State.fenceSlot (s : State) (m : Nat) : State :=
  ((s.cdiDrop m).modSlot m (fun x => { x with
    inFlight := x.inFlight.map (fun f => { f with excused := true }) })).slotTo m .fenced 1

/-- SLOT_FENCE (R52). -/
def cmdSlotFence : Cmd :=
  { op := 0x0209, lengthOk := lenIs 4
    check := fun s n p =>
      let st := (s.slot (byteAt p 0)).state
      firstFail [slot1 p, mustBeS0 n, need (st == .bound || st == .opened) (wrongSlot s (byteAt p 0))]
    run := fun s _ _ p => (s.fenceSlot (byteAt p 0), .done (stOk [])) }

/-- SLOT_UNFENCE (R52). -/
def cmdSlotUnfence : Cmd :=
  { op := 0x020A, lengthOk := lenIs 4
    check := fun s n p => firstFail [slot1 p, mustBeS0 n, need ((s.slot (byteAt p 0)).state == .fenced) (wrongSlot s (byteAt p 0))]
    run := fun s _ _ p => (s.slotTo (byteAt p 0) .bound 1, .done (stOk [])) }

/-- SLOT_GET_OWNER (R56, R84): one byte (log 22). -/
def cmdSlotGetOwner : Cmd :=
  { op := 0x020B, lengthOk := lenIs 4
    check := fun _ _ p => firstFail [need (1 ≤ byteAt p 0 && byteAt p 0 ≤ 15) (stBadParam 0),
      inRange (le p 2 2) (resourceCount (byteAt p 0)) 2]
    run := fun s _ _ p => (s, .done (stOk (w8 (s.ownerOf (byteAt p 0) (le p 2 2))))) }

/-- The nine counters in table order (R536). -/
def SlotStats.bytes (c : SlotStats) : Bytes :=
  w64 c.commands ++ w64 c.responses ++ w64 c.replays ++ w64 c.events ++ w64 c.eventsLost ++ w64 c.foreignWrites ++ w64 c.auth
    ++ w64 c.seq ++ w64 c.format

/-- SLOT_GET_STATS (R536). -/
def cmdSlotGetStats : Cmd :=
  { op := 0x020C, lengthOk := lenIs 4
    check := fun s n p => firstFail [inRange (byteAt p 0) 16 0, mayReadSlot s n (byteAt p 0)]
    run := fun s _ _ p => (s, .done (stOk (s.slot (byteAt p 0)).stats.bytes)) }

/-- SLOT_SET_WRITE_PERMIT (R29). -/
def cmdSlotSetWritePermit : Cmd :=
  { op := 0x020D, lengthOk := lenIs 4, check := fun _ n p => firstFail [slot1 p, mustBeS0 n, flag p 1]
    run := fun s _ _ p =>
      let v := setBit s.hiu.permit.toNat (byteAt p 0) (byteAt p 1 == 1)
      ({ s with hiu := { s.hiu with permit := BitVec.ofNat 16 v } }, .done (stOk (w16 v ++ [0, 0]))) }

/-- SLOT_REKEY (R80). -/
def cmdSlotRekey : Cmd :=
  { op := 0x020E, lengthOk := lenIs 4
    check := fun s n p => firstFail [inRange (byteAt p 0) 16 0, inRange (le p 2 2) 512 2, mustBeS0 n, mustOwn s n 9 (le p 2 2),
      need (s.slot (byteAt p 0)).isEth (wrongSlot s (byteAt p 0))]
    run := fun s n _ p =>
      let m := byteAt p 0
      match s.useKey (some n) (le p 2 2) 4 [6, 7] with
      | (some a, s) => (s, .done a)
      | (none, s) =>
        match (s.slot m).binding with
        | .eth b =>
          let b := s.envelopeKeys b m (le p 2 2)
          (s.modSlot m (fun x => { x with binding := .eth b }), .done (stOk []))
        | _ => (s, .done (wrongSlot s m)) }

/-- SLOT_GET_CAPS. -/
def execSlotGetCaps (slot : Slot) (tag : Half) (payload : Bytes) (s : State) : Res :=
  .next (penyen cmdSlotGetCaps slot.val tag payload s)

/-- SLOT_OPEN. -/
def execSlotOpen (slot : Slot) (tag : Half) (payload : Bytes) (s : State) : Res :=
  .next (penyen cmdSlotOpen slot.val tag payload s)

/-- SLOT_CLOSE. -/
def execSlotClose (slot : Slot) (tag : Half) (payload : Bytes) (s : State) : Res :=
  .next (penyen cmdSlotClose slot.val tag payload s)

/-- SLOT_BIND. -/
def execSlotBind (slot : Slot) (tag : Half) (payload : Bytes) (s : State) : Res :=
  .next (penyen cmdSlotBind slot.val tag payload s)

/-- SLOT_UNBIND. -/
def execSlotUnbind (slot : Slot) (tag : Half) (payload : Bytes) (s : State) : Res :=
  .next (penyen cmdSlotUnbind slot.val tag payload s)

/-- SLOT_GRANT. -/
def execSlotGrant (slot : Slot) (tag : Half) (payload : Bytes) (s : State) : Res :=
  .next (penyen cmdSlotGrant slot.val tag payload s)

/-- SLOT_REVOKE. -/
def execSlotRevoke (slot : Slot) (tag : Half) (payload : Bytes) (s : State) : Res :=
  .next (penyen cmdSlotRevoke slot.val tag payload s)

/-- SLOT_GET_STATE. -/
def execSlotGetState (slot : Slot) (tag : Half) (payload : Bytes) (s : State) : Res :=
  .next (penyen cmdSlotGetState slot.val tag payload s)

/-- SLOT_SET_READ_POLICY. -/
def execSlotSetReadPolicy (slot : Slot) (tag : Half) (payload : Bytes) (s : State) : Res :=
  .next (penyen cmdSlotSetReadPolicy slot.val tag payload s)

/-- SLOT_FENCE. -/
def execSlotFence (slot : Slot) (tag : Half) (payload : Bytes) (s : State) : Res :=
  .next (penyen cmdSlotFence slot.val tag payload s)

/-- SLOT_UNFENCE. -/
def execSlotUnfence (slot : Slot) (tag : Half) (payload : Bytes) (s : State) : Res :=
  .next (penyen cmdSlotUnfence slot.val tag payload s)

/-- SLOT_GET_OWNER. -/
def execSlotGetOwner (slot : Slot) (tag : Half) (payload : Bytes) (s : State) : Res :=
  .next (penyen cmdSlotGetOwner slot.val tag payload s)

/-- SLOT_GET_STATS. -/
def execSlotGetStats (slot : Slot) (tag : Half) (payload : Bytes) (s : State) : Res :=
  .next (penyen cmdSlotGetStats slot.val tag payload s)

/-- SLOT_SET_WRITE_PERMIT. -/
def execSlotSetWritePermit (slot : Slot) (tag : Half) (payload : Bytes) (s : State) : Res :=
  .next (penyen cmdSlotSetWritePermit slot.val tag payload s)

/-- SLOT_REKEY. -/
def execSlotRekey (slot : Slot) (tag : Half) (payload : Bytes) (s : State) : Res :=
  .next (penyen cmdSlotRekey slot.val tag payload s)

end Sys2Proof.Machine
end

