-- ==== Sys2Proof/Machine/DiagCmds.lean ====
section
/-! DEFINITION. The DIAG commands: boot record, fuses, life cycle and debug unlock (chapter 04 of the spec). -/

namespace Sys2Proof.Machine

/-- Debug unlock changed. -/
def State.modDebug (s : State) (f : Debug → Debug) : State := { s with jtag := f s.jtag }

/-- ST_WRONG_STATE with the life-cycle state (R109). -/
def wrongLcs (s : State) : Answer := stWrongState 0x1301 0 s.boot.lcs.toNat

/-- DIAG_GET_CAPS (R112, R538): the record count, which the spec does not state (log 22), 8, and the unlock attempts left. -/
def cmdDiagGetCaps : Cmd :=
  { op := 0x1300, lengthOk := lenIs 0, check := fun _ _ _ => none
    run := fun s _ _ _ =>
      let r := s.freeNat
      (r.2, .done (stOk (w32 r.1 ++ w32 8 ++ w32 (3 - s.jtag.wrong)))) }

/-- DIAG_GET_BOOT_RECORD (R112). -/
def cmdDiagGetBootRecord : Cmd :=
  { op := 0x1301, lengthOk := lenIs 0, check := fun s n _ => mayReadDevice s n
    run := fun s _ _ _ => (s, .done (stOk s.boot.record)) }

/-- A fuse write asks for 300 mW first (R109, R112, R460). -/
def State.fuses (s : State) (f : State → State × Reply) : State × Reply :=
  match s.immediate 30 with
  | (true, s) => f s
  | (false, s) => (s, .done stGrantDenied)

/-- DIAG_ADVANCE_SECVER (R101): not beyond the running image's SEC_VERSION, and never back. -/
def cmdDiagAdvanceSecver : Cmd :=
  { op := 0x1302, lengthOk := lenIs 4
    check := fun s n p => firstFail [mustBeS0 n, between (byteAt p 0) s.boot.secverFused.toNat s.boot.runSecver 0]
    run := fun s _ _ p => s.fuses (fun s =>
      (s.modBoot (fun b => { b with secverFused := BitVec.ofNat 7 (byteAt p 0) }), .done (stOk (w8 (byteAt p 0))))) }

/-- DIAG_REVOKE_VENDOR_KEY (R101): neither the last unrevoked key nor the one that signed the running image. -/
def cmdDiagRevokeVendorKey : Cmd :=
  { op := 0x1303, lengthOk := lenIs 4
    check := fun s n p => firstFail [inRange (byteAt p 0) 4 0, mustBeS0 n,
      need (byteAt p 0 != s.boot.runKey && (s.boot.keyrevFused ||| (1#4 <<< byteAt p 0)) != 0xF) (stBadParam 0)]
    run := fun s _ _ p => s.fuses (fun s =>
      let v := s.boot.keyrevFused ||| (1#4 <<< byteAt p 0)
      (s.modBoot (fun b => { b with keyrevFused := v }), .done (stOk (w32 v.toNat)))) }

/-- The life-cycle transitions of R108. -/
def lcsNext (a b : Nat) : Bool :=
  (a == 0 && (b == 1 || b == 2)) || (a == 1 && (b == 3 || b == 5)) || (a == 2 && b == 5) || (a == 3 && (b == 4 || b == 5))
    || (a == 4 && b == 5)

/-- An authorisation record for RMA verifies (R109). -/
def rmaOk (p : Bytes) : Bool :=
  p.length == 76 && slice p 4 8 == w64 Config.serial.toNat && Config.rmaAuthentic (slice p 4 8) (byteAt p 0) (slice p 12 64)

/-- DIAG_LCS_TRANSITION (R108, R109); fuses programmed already do not go back. -/
def cmdDiagLcsTransition : Cmd :=
  { op := 0x1304, lengthOk := fun p => p.length == 4 || p.length == 76
    check := fun s n p => firstFail [mustBeS0 n,
      need (lcsNext s.boot.lcs.toNat (byteAt p 0) && decide (s.boot.lcsFused.toNat ≤ byteAt p 0)) (wrongLcs s)]
    run := fun s _ _ p => s.fuses (fun s =>
      if byteAt p 0 = 4 ∧ !rmaOk p then (s, .done stAuthFail)
      else (s.modBoot (fun b => { b with lcsFused := BitVec.ofNat 3 (byteAt p 0) }), .done (stOk []))) }

/-! Debug unlock (R110, R111). -/

/-- Unlock commands work in PRODUCTION only, and not after three wrong tokens. -/
def unlockOpen (s : State) : Option Answer :=
  firstFail [need (s.boot.lcs == 3) (wrongLcs s), need (s.jtag.wrong < 3) stLocked]

/-- DIAG_UNLOCK_CHALLENGE (R110): a derive-only key slot that S0 owns; the challenge is free. -/
def cmdDiagUnlockChallenge : Cmd :=
  { op := 0x1305, lengthOk := lenIs 4
    check := fun s n p => firstFail [inRange (le p 0 2) 512 0, mustBeS0 n, mustOwn s n 9 (le p 0 2), unlockOpen s]
    run := fun s n _ p =>
      match s.useKey (some n) (le p 0 2) 4 [6, 7] with
      | (some a, s) => (s, .done a)
      | (none, s) =>
        let c := s.freeBits 128
        (c.2.modDebug (fun d => { d with challenge := some c.1, keySlot := le p 0 2 }), .done (stOk (beBytes 16 c.1.toNat))) }

/-- The token that unlocks: the first 8 bytes of the CMAC over the challenge, under the key derived with DBG-UNLK (R110). -/
def unlockToken (key : Bytes) (challenge : BitVec 128) : Bytes :=
  (beBytes 16 (cmac (firmwareKey key "DBG-UNLK" (beBytes 8 Config.serial.toNat)) (beBytes 16 challenge.toNat)).toNat).take 8

/-- A token is checked against the present challenge (R110, R111): a wrong one invalidates it and counts; without a challenge every
token is refused. -/
def State.tryToken (s : State) (token : Bytes) : State × Answer :=
  match s.jtag.challenge with
  | none => (s, stAuthFail)
  | some c =>
    match s.useKey none s.jtag.keySlot 4 [6, 7] with
    | (some a, s) => (s, a)
    | (none, s) =>
      if token = unlockToken (s.keyOf s.jtag.keySlot).key c then
        (s.modDebug (fun d => { d with unlocked := true }), stOk [])
      else (s.modDebug (fun d => { d with challenge := none, wrong := d.wrong + 1 }), stAuthFail)

/-- DIAG_UNLOCK_RESPONSE (R110, R111). -/
def cmdDiagUnlockResponse : Cmd :=
  { op := 0x1306, lengthOk := lenIs 8, check := fun s n _ => firstFail [mustBeS0 n, unlockOpen s]
    run := fun s _ _ p =>
      let r := s.tryToken p
      (r.1, .done r.2) }

/-- DIAG_RELOCK (R111). -/
def cmdDiagRelock : Cmd :=
  { op := 0x1307, lengthOk := lenIs 0
    check := fun s n _ => firstFail [mustBeS0 n, need (s.boot.lcs == 3) (wrongLcs s)]
    run := fun s _ _ _ => (s.modDebug (fun d => { d with unlocked := false }), .done (stOk [])) }

/-- JTAG_UNLOCK_TOKEN (R110, R111): the token register takes 8 bytes. -/
def execJtagUnlockToken (token : Bytes) (s : State) : Res :=
  .next (if s.running && token.length == 8 && (unlockOpen s).isNone then (s.tryToken token).1 else s)

/-- DIAG_GET_CAPS. -/
def execDiagGetCaps (slot : Slot) (tag : Half) (payload : Bytes) (s : State) : Res :=
  .next (penyen cmdDiagGetCaps slot.val tag payload s)

/-- DIAG_GET_BOOT_RECORD. -/
def execDiagGetBootRecord (slot : Slot) (tag : Half) (payload : Bytes) (s : State) : Res :=
  .next (penyen cmdDiagGetBootRecord slot.val tag payload s)

/-- DIAG_ADVANCE_SECVER. -/
def execDiagAdvanceSecver (slot : Slot) (tag : Half) (payload : Bytes) (s : State) : Res :=
  .next (penyen cmdDiagAdvanceSecver slot.val tag payload s)

/-- DIAG_REVOKE_VENDOR_KEY. -/
def execDiagRevokeVendorKey (slot : Slot) (tag : Half) (payload : Bytes) (s : State) : Res :=
  .next (penyen cmdDiagRevokeVendorKey slot.val tag payload s)

/-- DIAG_LCS_TRANSITION. -/
def execDiagLcsTransition (slot : Slot) (tag : Half) (payload : Bytes) (s : State) : Res :=
  .next (penyen cmdDiagLcsTransition slot.val tag payload s)

/-- DIAG_UNLOCK_CHALLENGE. -/
def execDiagUnlockChallenge (slot : Slot) (tag : Half) (payload : Bytes) (s : State) : Res :=
  .next (penyen cmdDiagUnlockChallenge slot.val tag payload s)

/-- DIAG_UNLOCK_RESPONSE. -/
def execDiagUnlockResponse (slot : Slot) (tag : Half) (payload : Bytes) (s : State) : Res :=
  .next (penyen cmdDiagUnlockResponse slot.val tag payload s)

/-- DIAG_RELOCK. -/
def execDiagRelock (slot : Slot) (tag : Half) (payload : Bytes) (s : State) : Res :=
  .next (penyen cmdDiagRelock slot.val tag payload s)

end Sys2Proof.Machine
end

