-- ==== Sys2Proof/Machine/FrameRows.lean ====
section
/-! DEFINITION. What happens to a frame at a receive MAC: its start, its header, its deep rules, its end and its
confirmation; and the ageing sweep (chapter 06 of the spec). -/

namespace Sys2Proof.Machine

/-- The reception of a port. -/
def State.rx (s : State) (p : Nat) : Rx := vget s.net.rx p

/-- The reception of a port changed. -/
def State.modRx (s : State) (p : Nat) (f : Rx → Rx) : State := s.modNet (fun n => { n with rx := vmod n.rx p f })

/-- A frame may begin at a port: its link is UP and no frame is in reception or waits for its header (R131, R307). Until the
memory test of a cold start ends, the receive MAC discards every frame (R460); in PREPARE forwarding has stopped (R485). -/
def State.canStart (s : State) (p : Nat) : Bool :=
  s.linkUp p && s.memTest.result != 2 && s.sleep.phase != .prepare && !(s.rx p).active && !(s.rx p).ended

/-- FRAME_START (R131): MAX_FRAME and the ingress time-stamp, in the resolution of R281, are latched. -/
def State.startFrame (s : State) (p : Nat) (preempt : Bool) : State :=
  let ps := s.quantise p s.clockPs
  s.modRx p (fun _ => { (default : Rx) with
    active := true, maxFrame := le (s.fwd p) 14 2, stamp := ps / 1000, stampFrac := psFrac ps, preempt := preempt })

/-- The header of a port's frame as its pipeline takes it (R129). -/
def Rx.intake (x : Rx) (p : Nat) (bytes : Bytes) : Intake :=
  { port := p, slot := 0xFF, bytes := bytes, ended := x.ended, maxFrame := x.maxFrame, stamp := x.stamp
    stampFrac := x.stampFrac, preempt := x.preempt, direct := none, tc := none, launch := none, ring := none }

/-- The MACsec failure of an ended frame on a STRICT port (R423), by what its header found: 0 bad ICV, 1 replay, 2 no association. -/
def State.macsecFailure (s : State) (v : MacView) (bytes : Bytes) (icvOk : Bool) : Option Nat :=
  if !v.strict || (parse false bytes.length bytes).sec.isNone then none
  else
    match v.sa with
    | none => some 2
    | some (i, pn) => if !icvOk then some 0 else if pn < (s.saRun i v.run).pn then some 1 else none

/-- A frame that has no waybills ends: it is counted under the first cause that applies (R158). -/
def State.endRefused (s : State) (p : Nat) (noise : Option Cause) (sec : Option Nat) (c : Cause) (secCause : Nat)
    (e : EndFacts) (v : MacView) : State :=
  match noise with
  | some n => s.countRefused p 0xFF n 0 e
  | none =>
    if c = .macsec then s.countRefused p 0xFF .macsec secCause e
    else
      match sec with
      | some k => (s.countRefused p 0xFF .macsec k e).countStale v .macsec k
      | none => s.countRefused p 0xFF c 0 e

/-- A header handed over before its frame has ended: stages 1 to 6 (R129). -/
def State.handHeader (s : State) (p : Nat) (bytes : Bytes) : State :=
  let r := s.classify ((s.rx p).intake p bytes)
  r.2.modRx p (fun x => { x with
    handed := true, refused := r.1.refused, frame := r.1.frame, ends := r.1.ends, secCause := r.1.secCause, mac := r.1.mac })

/-- A frame that ended before byte 128: its header is handed over at its end, and the frame is confirmed or revoked at
stage 6 (R129, R150). -/
def State.handEnded (s : State) (p : Nat) : State :=
  let x := s.rx p
  let r := s.classify (x.intake p x.bytes)
  let s := r.2.modRx p (fun _ => default)
  match r.1.frame with
  | some fid =>
    let s := s.modFrame fid (fun f => { f with
      endCause := x.cause, secCause := if f.secCause = 2 then 2 else x.secCause })
    s.ruleFrame fid
  | none =>
    match r.1.refused with
    | none => s
    | some c =>
      let noise := match x.cause with
        | some .macsec => none
        | other => other
      let sec := if x.cause = some .macsec then some x.secCause else s.macsecFailure r.1.mac x.bytes true
      s.endRefused p noise sec c r.1.secCause r.1.ends r.1.mac

/-- HEADER_HANDOVER has something to do: an ended frame waits for its header, or byte 128 is in (R129). -/
def State.canHand (s : State) (p : Nat) (bytes : Bytes) : Bool :=
  (s.rx p).ended || ((s.rx p).active && !(s.rx p).handed && bytes.length == 128)

/-- HEADER_HANDOVER (R129, R130). -/
def State.handOver (s : State) (p : Nat) (bytes : Bytes) : State :=
  if (s.rx p).ended then s.handEnded p else s.handHeader p bytes

/-- The frame whose deep rules run now: the one in reception once byte 272 is in, else the oldest ended one (R175). -/
def State.deepFrame (s : State) (p : Nat) (bytes : Bytes) : Option Frame :=
  match (if (s.rx p).active && bytes.length == 272 then (s.rx p).frame.bind s.frame? else none) with
  | some f => if f.deepDone then none else some { f with bytes := bytes }
  | none => s.net.frames.find? (fun f => f.ingress == p && f.ended && !f.deepDone && !f.ruled)

/-- DEEP_RULE_PASS (R175, R176): the windows of the pending deep rules are evaluated. -/
def State.deepPass (s : State) (f : Frame) : State :=
  let lim := if f.ended then f.lim else f.bytes.length
  s.modFrame f.id (fun g => { g with
    bytes := f.bytes, deepDone := true, deepHits := deepHitsOf f.zones (parse false lim f.bytes) lim f.bytes })

/-- OVERSIZE_REFUSE (R131, R155): no byte beyond MAX_FRAME is written, and a waybill is revoked at once. -/
def State.oversize (s : State) (p : Nat) (bytes : Bytes) : State :=
  let x := s.rx p
  let s := match x.frame with
    | some fid =>
      (s.modFrame fid (fun f => { f with endCause := some .oversize })).revokeFrame fid (bytes.take x.maxFrame)
    | none => s
  s.modRx p (fun x => { x with excess := true, frame := none, handed := true, refused := some .oversize })

/-- The end of a reception, whole or cut short (R131, R150, R158): `cut` for a receive error or the loss of the link. -/
def State.endReception (s : State) (p : Nat) (bytes : Bytes) (cut fcsOk icvOk : Bool) : State :=
  let x := s.rx p
  let excess := x.excess || decide (x.maxFrame < bytes.length)
  let data := bytes.take x.maxFrame
  let noise : Option Cause :=
    if bytes.length < 64 then some .runt
    else if cut then some .truncated
    else if !fcsOk then some .fcs
    else if excess then some .oversize
    else none
  let idle := s.modRx p (fun _ => default)
  if !x.handed then
    if noise = some .runt then idle.countOutcome p .runt 0
    else
      let bad := noise.isNone && !icvOk && (s.macsecFailure (s.macView p (parse false bytes.length bytes)) bytes false == some 0)
      s.modRx p (fun x => { x with
        active := false, ended := true, bytes := data, cause := if bad then some .macsec else noise, secCause := 0 })
  else
    match x.frame with
    | some fid =>
      idle.modFrame fid (fun f => { f with
        ended := true, bytes := data
        endCause := match noise with
          | some c => some c
          | none => if f.mac.sa.isSome && !icvOk then some .macsec else none })
    | none =>
      match x.refused with
      | some c => idle.endRefused p noise (s.macsecFailure x.mac bytes icvOk) c x.secCause x.ends x.mac
      | none => idle

/-- The oldest frame of a port that has ended and is neither confirmed nor revoked (R150). -/
def State.toRule (s : State) (p : Nat) : Option Frame :=
  s.net.frames.find? (fun f => f.ingress == p && f.ended && !f.ruled)

/-- FDB_AGE_SWEEP (R142): dynamic entries that no confirmed frame has refreshed for AGE_TIME go; a second is
800,000,000 fabric ticks. -/
def State.ageFdb (s : State) : State :=
  s.modFdb (fun t => t.filter (fun e =>
    !(e.2.dynamic && decide (e.2.refreshed + s.net.ageTime * 800000000 ≤ s.tick))))

/-- FRAME_START. -/
def execFrameStart (p : Port) (preempt : Bool) (s : State) : Res :=
  .next (if s.canStart p then s.startFrame p preempt else s)

/-- HEADER_HANDOVER. -/
def execHeaderHandover (p : Port) (bytes : Bytes) (s : State) : Res :=
  .next (if s.canHand p bytes then s.handOver p bytes else s)

/-- DEEP_RULE_PASS. -/
def execDeepRulePass (p : Port) (bytes : Bytes) (s : State) : Res :=
  match s.deepFrame p bytes with
  | some f => .next (s.deepPass f)
  | none => .next s

/-- OVERSIZE_REFUSE: the bytes received so far pass MAX_FRAME. -/
def execOversizeRefuse (p : Port) (bytes : Bytes) (s : State) : Res :=
  .next (if (s.rx p).active ∧ (s.rx p).maxFrame < bytes.length then s.oversize p bytes else s)

/-- RX_ERROR: a receive error, the loss of the link, or fragments that fail to reassemble (R150, R258). -/
def execRxError (p : Port) (bytes : Bytes) (assembly : RxFault) (s : State) : Res :=
  .next (if (s.rx p).active then
    (doIf assembly.assembly (fun s => s.count (.gate p .assemblyErr)) (s.count (.gate p .fragmentsRx) assembly.fragments)).endReception
      p bytes true true true else s)

/-- FRAME_END, with the outcome of the FCS and of the ICV, and the number of fragments of a preempted frame (R258). -/
def execFrameEnd (p : Port) (bytes : Bytes) (fcsOk icvOk : Bool) (fragments : Nat) (s : State) : Res :=
  .next (if (s.rx p).active then
    (s.count (.gate p .fragmentsRx) fragments).endReception p bytes false fcsOk icvOk else s)

/-- CONFIRMATION. -/
def execConfirmation (p : Port) (s : State) : Res :=
  match s.toRule p with
  | some f => .next (s.ruleFrame f.id)
  | none => .next s

/-- FDB_AGE_SWEEP. -/
def execFdbAgeSweep (s : State) : Res := .next s.ageFdb

end Sys2Proof.Machine
end

