-- ==== Sys2Proof/Machine/GateCmds.lean ====
section
/-! DEFINITION. The GATE commands (chapter 10 of the spec). -/

namespace Sys2Proof.Machine

/-- The port that a GATE command names: P0 to P24 (R240). -/
def gatePort (p : Bytes) : Option Answer := inRange (byteAt p 0) 25 0

/-- The caller owns the port's list pair (R266). -/
def ownsLists (s : State) (n : Nat) (p : Bytes) : Option Answer := mustOwn s n 5 (byteAt p 0)

/-- No change is PENDING (R245). -/
def notPending (s : State) (p : Bytes) : Option Answer :=
  need ((s.pg (byteAt p 0)).state != .pending) (stWrongState 0x0701 (byteAt p 0) 2)

/-- GATE_GET_CAPS (R266): entries, interval and cycle limits, and the words of R244 by table row (R538). -/
def cmdGateGetCaps : Cmd :=
  { op := 0x0700, lengthOk := lenIs 0
    check := fun _ _ _ => none
    run := fun s _ _ _ =>
      (s, .done (stOk ([256, 32, 4294967295, 64, 1000000000, 7, 32, 32, 32, 8, 8, 4, 4].flatMap w32))) }

/-- GATE_SET_ADMIN_HEADER (R241, R245). -/
def cmdGateSetAdminHeader : Cmd :=
  { op := 0x0701, lengthOk := lenIs 36
    check := fun s n p => firstFail [gatePort p, ownsLists s n p, notPending s p, flag p 4,
      between (le p 6 2) 1 256 6, between (le p 20 4) 64 1000000000 20, between (le p 24 4) 10000 100000000 24]
    run := fun s _ _ p =>
      let h := slice p 4 6 ++ [0, 0] ++ slice p 12 16 ++ zeros 8
      (s.modPg (byteAt p 0) (fun g => { g with admin := { g.admin with header := h } }), .done (stOk [])) }

/-- The ranges of the entries in a payload from offset 8 (R242). -/
def entryRanges (p : Bytes) : List (Option Answer) :=
  (List.range (le p 4 2)).flatMap (fun k =>
    [between (byteAt p (9 + 8 * k)) 0 2 (9 + 8 * k), need (32 ≤ le p (12 + 8 * k) 4) (stBadParam (12 + 8 * k))])

/-- GATE_SET_ADMIN_ENTRIES (R242, R266). -/
def cmdGateSetAdminEntries : Cmd :=
  { op := 0x0702
    lengthOk := fun p =>
      if 1 ≤ le p 4 2 ∧ le p 4 2 ≤ 128 then p.length == 8 + 8 * le p 4 2
      else 16 ≤ p.length && p.length ≤ 1032 && p.length % 8 == 0
    check := fun s n p => firstFail ([gatePort p, need (decide (le p 2 2 < 256)) (stBadParam 2), ownsLists s n p,
      notPending s p, countIn (le p 2 2) (le p 4 2) 128 256 2 4] ++ entryRanges p)
    run := fun s _ _ p =>
      let put (t : Tbl Bytes) (k : Nat) : Tbl Bytes :=
        tset t (le p 2 2 + k) (slice p (8 + 8 * k) 2 ++ [0, 0] ++ slice p (12 + 8 * k) 4)
      (s.modPg (byteAt p 0) (fun g => { g with admin := { g.admin with
        entries := (List.range (le p 4 2)).foldl put g.admin.entries } }), .done (stOk [])) }

/-- GATE_GET_LIST. -/
def cmdGateGetList : Cmd :=
  { op := 0x0703, lengthOk := lenIs 8
    check := fun s n p => firstFail [gatePort p, need (decide (le p 2 2 < 256)) (stBadParam 2),
      mayRead s n 5 (byteAt p 0), flag p 1, countIn (le p 2 2) (le p 4 2) 128 256 2 4]
    run := fun s _ _ p =>
      let g := s.pg (byteAt p 0)
      let l := if byteAt p 1 = 1 then g.oper else g.admin
      (s, .done (stOk (l.header ++ (List.range (le p 4 2)).flatMap (fun k => l.entryAt (le p 2 2 + k))))) }

/-- A class with this MAX_SDU conflicts with a list (R260): outside PREEMPT_MASK, open somewhere, and wider than W_max. -/
def GateList.conflicts (l : GateList) (tc maxSdu rate : Nat) : Bool :=
  let m := if maxSdu = 0 then 9216 else maxSdu
  !l.preemptMask.testBit tc && l.spans.any (fun x => x.2.1.testBit tc)
    && (match l.wMax tc rate with | some w => decide (w < m) | none => false)

/-- C of R246, and PAST_BASE. -/
def GateList.changeTime (l : GateList) (now : Nat) : Nat × Bool :=
  if now + l.lead ≤ l.base then (l.base, false)
  else
    let c := max 1 l.cycle
    (l.base + (now + l.lead - l.base + c - 1) / c * c, true)

/-- GATE_COMMIT_ADMIN (R245, R246, R260). -/
def cmdGateCommitAdmin : Cmd :=
  { op := 0x0704, lengthOk := lenIs 4
    check := fun s n p => firstFail [gatePort p, ownsLists s n p, notPending s p,
      need ((List.range 8).all (fun t => !(s.pg (byteAt p 0)).admin.conflicts t
        (s.queue (byteAt p 0) t).timing.maxSdu (s.phy (byteAt p 0)).rate)) stTimingConflict]
    run := fun s _ _ p =>
      let c := (s.pg (byteAt p 0)).admin.changeTime s.now
      let s := s.modPg (byteAt p 0) (fun g => { g with
        before := g.state, state := .pending, changeAt := c.1, pastBase := c.2, changeLate := false })
      (s, .done (stOk (w64 c.1 ++ w64 s.now ++ w16 (b2n c.2) ++ zeros 6))) }

/-- GATE_CANCEL_CHANGE (R248); a port with nothing PENDING is in the wrong state (log 25). -/
def cmdGateCancelChange : Cmd :=
  { op := 0x0705, lengthOk := lenIs 4
    check := fun s n p =>
      let g := s.pg (byteAt p 0)
      firstFail [gatePort p, ownsLists s n p,
        need (g.state == .pending) (stWrongState 0x0701 (byteAt p 0) g.state.code)]
    run := fun s _ _ p => (s.modPg (byteAt p 0) (fun g => { g with state := g.before }), .done (stOk [])) }

/-- GATE_GET_STATUS: a class whose gate never closes reports W_max 0xFFFF (log 22). -/
def cmdGateGetStatus : Cmd :=
  { op := 0x0706, lengthOk := lenIs 4
    check := fun s n p => firstFail [gatePort p, mayRead s n 5 (byteAt p 0)]
    run := fun s _ _ p =>
      let g := s.pg (byteAt p 0)
      let w (t : Nat) : Nat := match g.oper.wMax t (s.phy (byteAt p 0)).rate with
        | some m => min m 0xFFFF
        | none => 0xFFFF
      (s, .done (stOk (w8 g.state.code ++ w8 g.flags ++ w16 g.entry ++ w8 (b2n g.hold) ++ w8 g.status.code ++ [0, 0]
        ++ w64 g.start ++ w64 g.changeAt ++ (List.range 8).flatMap (fun t => w16 (w t))))) }

/-- The queue that a queue-timing command names. -/
def timingNamed (p : Bytes) : Option Answer := firstFail [gatePort p, inRange (byteAt p 1) 8 1]

/-- GATE_SET_QUEUE_TIMING (R259 to R261, R266). -/
def cmdGateSetQueueTiming : Cmd :=
  { op := 0x0707, lengthOk := lenIs 12
    check := fun s n p =>
      let g := s.pg (byteAt p 0)
      let m := le p 4 2
      let rate := (s.phy (byteAt p 0)).rate
      firstFail [timingNamed p, mustOwn s n 1 (byteAt p 0), flag p 2, flag p 3,
        need (m == 0 || (64 ≤ m && m ≤ 9216)) (stBadParam 4), between (le p 8 4) 0 100000000 8,
        need (!g.oper.conflicts (byteAt p 1) m rate
          && !(g.state == .pending && g.admin.conflicts (byteAt p 1) m rate)) stTimingConflict,
        commitFree s (byteAt p 2) 3]
    run := fun s _ _ p =>
      let t : QueueTiming := { launchEn := byteAt p 3 == 1, maxSdu := le p 4 2, lateTol := le p 8 4 }
      ((s.modQueue (byteAt p 0) (byteAt p 1) (fun q => { q with timingShadow := t })).maybeCommit (byteAt p 2) 3,
       .done (stOk [])) }

/-- GATE_GET_QUEUE_TIMING: LAUNCH_EN, reserved, MAX_SDU, LATE_TOL (log 22). -/
def cmdGateGetQueueTiming : Cmd :=
  { op := 0x0708, lengthOk := lenIs 4
    check := fun s n p => firstFail [timingNamed p, mayRead s n 1 (byteAt p 0), flag p 2]
    run := fun s _ _ p =>
      let q := s.queue (byteAt p 0) (byteAt p 1)
      let t := if byteAt p 2 = 1 then q.timingShadow else q.timing
      (s, .done (stOk (w8 (b2n t.launchEn) ++ [0] ++ w16 t.maxSdu ++ w32 t.lateTol))) }

/-- GATE_SET_PREEMPT (R253, R266): verification begins at once on a link that is up. -/
def cmdGateSetPreempt : Cmd :=
  { op := 0x0709, lengthOk := lenIs 8
    check := fun s n p => firstFail [gatePort p, ownsLists s n p, flag p 1, flag p 2, between (le p 4 2) 1 128 4]
    run := fun s _ _ p =>
      let i := byteAt p 0
      let s := s.modPg i (fun g => { g with
        preemptEn := byteAt p 1 == 1, verifyEn := byteAt p 2 == 1, verifyMs := le p 4 2 })
      let s := if s.linkUp i then s.preemptStart i else s.preemptTo i .disabled
      (s, .done (stOk (w8 (s.pg i).status.code))) }

/-- The GATE counters of an object (R264). -/
def gateCtrs (kind i : Nat) : List Ctr :=
  if kind = 0 then
    [QCtr.windowMiss, .windowDrop, .windowOverrun, .sduDrop, .sduOverrun, .lateDrop, .launchLateSent].map (Ctr.queue i)
  else [GateCtr.fragmentsTx, .preemptions, .holds, .fragmentsRx, .assemblyErr, .verifyFail].map (Ctr.gate i)

/-- The port of an object of a GATE counter command. -/
def gateCtrPort (kind i : Nat) : Nat := if kind = 0 then i / 8 else i

/-- The checks of a GATE counter command: its first object, the owners of those it names, its count. -/
def gateCtrCheck (p : Bytes) (own : Nat → Bool) : Option Answer :=
  let k := if byteAt p 0 = 0 then 200 else 25
  firstFail [between (byteAt p 0) 0 1 0, inRange (le p 2 2) k 2,
    need ((objectsIn (le p 2 2) (le p 4 2) k).all (fun i => own (gateCtrPort (byteAt p 0) i))) stNotOwner,
    countIn (le p 2 2) (le p 4 2) 64 k 2 4]

/-- GATE_GET_COUNTERS. -/
def cmdGateGetCounters : Cmd :=
  { op := 0x070A, lengthOk := lenIs 8
    check := fun s n p => gateCtrCheck p (fun i => !(s.slot n).restricted || s.owns n 1 i)
    run := fun s _ _ p =>
      (s, .done (stOk (counterBytes s ((List.range (le p 4 2)).flatMap (fun k => gateCtrs (byteAt p 0) (le p 2 2 + k)))))) }

/-- GATE_CLEAR_COUNTERS: the owner of the ports. -/
def cmdGateClearCounters : Cmd :=
  { op := 0x070B, lengthOk := lenIs 8
    check := fun s n p => gateCtrCheck p (fun i => s.owns n 1 i)
    run := fun s _ _ p =>
      let gone := (List.range (le p 4 2)).flatMap (fun k => gateCtrs (byteAt p 0) (le p 2 2 + k))
      (s.clearCtrs (fun c => gone.contains c), .done (stOk [])) }

/-- GATE_GET_CAPS. -/
def execGateGetCaps (slot : Slot) (tag : Half) (payload : Bytes) (s : State) : Res :=
  .next (penyen cmdGateGetCaps slot.val tag payload s)

/-- GATE_SET_ADMIN_HEADER. -/
def execGateSetAdminHeader (slot : Slot) (tag : Half) (payload : Bytes) (s : State) : Res :=
  .next (penyen cmdGateSetAdminHeader slot.val tag payload s)

/-- GATE_SET_ADMIN_ENTRIES. -/
def execGateSetAdminEntries (slot : Slot) (tag : Half) (payload : Bytes) (s : State) : Res :=
  .next (penyen cmdGateSetAdminEntries slot.val tag payload s)

/-- GATE_GET_LIST. -/
def execGateGetList (slot : Slot) (tag : Half) (payload : Bytes) (s : State) : Res :=
  .next (penyen cmdGateGetList slot.val tag payload s)

/-- GATE_COMMIT_ADMIN. -/
def execGateCommitAdmin (slot : Slot) (tag : Half) (payload : Bytes) (s : State) : Res :=
  .next (penyen cmdGateCommitAdmin slot.val tag payload s)

/-- GATE_CANCEL_CHANGE. -/
def execGateCancelChange (slot : Slot) (tag : Half) (payload : Bytes) (s : State) : Res :=
  .next (penyen cmdGateCancelChange slot.val tag payload s)

/-- GATE_GET_STATUS. -/
def execGateGetStatus (slot : Slot) (tag : Half) (payload : Bytes) (s : State) : Res :=
  .next (penyen cmdGateGetStatus slot.val tag payload s)

/-- GATE_SET_QUEUE_TIMING. -/
def execGateSetQueueTiming (slot : Slot) (tag : Half) (payload : Bytes) (s : State) : Res :=
  .next (penyen cmdGateSetQueueTiming slot.val tag payload s)

/-- GATE_GET_QUEUE_TIMING. -/
def execGateGetQueueTiming (slot : Slot) (tag : Half) (payload : Bytes) (s : State) : Res :=
  .next (penyen cmdGateGetQueueTiming slot.val tag payload s)

/-- GATE_SET_PREEMPT. -/
def execGateSetPreempt (slot : Slot) (tag : Half) (payload : Bytes) (s : State) : Res :=
  .next (penyen cmdGateSetPreempt slot.val tag payload s)

/-- GATE_GET_COUNTERS. -/
def execGateGetCounters (slot : Slot) (tag : Half) (payload : Bytes) (s : State) : Res :=
  .next (penyen cmdGateGetCounters slot.val tag payload s)

/-- GATE_CLEAR_COUNTERS. -/
def execGateClearCounters (slot : Slot) (tag : Half) (payload : Bytes) (s : State) : Res :=
  .next (penyen cmdGateClearCounters slot.val tag payload s)

end Sys2Proof.Machine
end

