-- ==== Sys2Proof/Machine/PortCmds.lean ====
section
/-! DEFINITION. The PORT commands of forwarding and the FDB and VLAN commands (chapter 06 of the spec). -/

namespace Sys2Proof.Machine

/-- The port counters of R157 in table order. -/
def portCtrs : List PortCtr :=
  [.rxFrames, .rxBytes, .rxUcast, .rxMcast, .rxBcast, .runt, .oversize, .fcsErr, .truncated, .macsecFail, .vlanDrop,
   .customsDrop, .streamDrop, .meterDrop, .rsvdDrop, .saGuard, .noDest, .admission, .noWaybill, .revoked, .stompCaused,
   .held, .learnFull, .learnRefused, .txFrames, .txBytes, .txCutThrough, .stompedTx]

/-- A forwarding record with its reserved bits 0 (R161). -/
def cleanFwd (r : Bytes) : Bytes := r.take 8 ++ w32 (le r 8 4 % 2 ^ 24) ++ slice r 12 4 ++ zeros 8

/-- The ranges of a forwarding record at an offset of the payload (R160). -/
def fwdRanges (p : Bytes) (o : Nat) : Option Answer :=
  firstFail [between (le p o 2) 1 4094 o, between (byteAt p (o + 2)) 0 2 (o + 2), flag p (o + 3),
    between (byteAt p (o + 4)) 0 7 (o + 4), flag p (o + 5), flag p (o + 6), need (byteAt p (o + 11) == 0) (stBadParam (o + 8)),
    between (le p (o + 12) 2) 0 16384 (o + 12), between (le p (o + 14) 2) 64 9216 (o + 14)]

/-- PORT_SET_FWD_CONFIG (R160, R162). -/
def cmdPortSetFwdConfig : Cmd :=
  { op := 0x0320, lengthOk := lenIs 28
    check := fun s n p => firstFail [inRange (byteAt p 0) 28 0, mustOwnPort s n (byteAt p 0), flag p 1, fwdRanges p 4,
      commitFree s (byteAt p 1) 1]
    run := fun s _ _ p =>
      let s := s.modNet (fun x => { x with
        fwd := vmod x.fwd (byteAt p 0) (fun y => { y with shadow := cleanFwd (slice p 4 24) }) })
      (s.maybeCommit (byteAt p 1) 1, .done (stOk [])) }

/-- PORT_GET_FWD_CONFIG (R162). -/
def cmdPortGetFwdConfig : Cmd :=
  { op := 0x0321, lengthOk := lenIs 4
    check := fun s n p => firstFail [inRange (byteAt p 0) 28 0, mayReadPort s n (byteAt p 0), flag p 1]
    run := fun s _ _ p =>
      let x := vget s.net.fwd (byteAt p 0)
      (s, .done (stOk (if byteAt p 1 = 1 then x.shadow else x.active))) }

/-- PORT_GET_COUNTERS (R157, R162). -/
def cmdPortGetCounters : Cmd :=
  { op := 0x0322, lengthOk := lenIs 4
    check := fun s n p => firstFail [inRange (byteAt p 0) 28 0, mayReadPort s n (byteAt p 0)]
    run := fun s _ _ p => (s, .done (stOk (counterBytes s (portCtrs.map (Ctr.port (byteAt p 0)))))) }

/-- PORT_CLEAR_COUNTERS (R157, R162). -/
def cmdPortClearCounters : Cmd :=
  { op := 0x0323, lengthOk := lenIs 4
    check := fun s n p => firstFail [inRange (byteAt p 0) 28 0, mustOwnPort s n (byteAt p 0)]
    run := fun s _ _ p =>
      (s.clearCtrs (fun k => match k with | .port q _ => q == byteAt p 0 | _ => false), .done (stOk [])) }

/-- Static and dynamic FDB entries in use (R159). -/
def fdbCount (t : Tbl FdbEntry) (dynamic : Bool) : Nat := (t.filter (fun e => e.2.dynamic == dynamic)).length

/-- The pipeline statistics record (R159). -/
def State.pipeRecord (s : State) : Bytes :=
  w32 s.provisional ++ w32 (max s.net.stats.provHigh s.provisional) ++ w32 (65536 - s.net.waybills.length)
    ++ w32 (min s.net.stats.waybillsLow (65536 - s.net.waybills.length)) ++ w64 s.net.stats.heldFrames
    ++ w32 (fdbCount s.net.fdb false) ++ w32 (fdbCount s.net.fdb true)

/-- PORT_GET_PIPELINE_STATS (R159): each read restarts the marks. -/
def cmdPortGetPipelineStats : Cmd :=
  { op := 0x0324, lengthOk := lenIs 0
    check := fun s n _ => mayReadDevice s n
    run := fun s _ _ _ =>
      (s.modNet (fun x => { x with stats := { x.stats with
        provHigh := s.provisional, waybillsLow := 65536 - x.waybills.length } }), .done (stOk s.pipeRecord)) }

/-! The forwarding database (R163, R164, R540). -/

/-- The entry record of R540. -/
def fdbRecord (tick : Nat) : Option FdbEntry → Bytes
  | none => zeros 24
  | some e =>
    beBytes 6 e.mac.toNat ++ w16 e.fid ++ w8 (1 + 2 * b2n e.dynamic + 4 * b2n e.multicast)
      ++ w8 (if e.multicast then 0xFF else e.port) ++ w8 (if !e.multicast && e.port == 25 then e.slot else 0xFF) ++ [0]
      ++ w32 e.portMask ++ w16 e.slotMask ++ [0, 0]
      ++ w32 (if e.dynamic then (tick - e.refreshed) / 800000000 else 0)

/-- The caller may write an entry with these destinations (R163). -/
def mayWriteFdb (s : State) (n : Nat) (e : FdbEntry) : Option Answer :=
  let ports := if e.multicast then maskList 28 e.portMask else [e.port]
  let slots := if e.multicast then maskList 16 e.slotMask else if e.port = 25 then [e.slot] else []
  need (ports.all (fun p => if p < 25 then s.owns n 1 p else if p = 25 then true else n == 0)
    && slots.all (fun x => x == n || n == 0)) stNotOwner

/-- The entry that FDB_ADD describes. -/
def fdbOf (tick : Nat) (p : Bytes) : FdbEntry :=
  let group := isGroup (be p 0 6)
  { mac := BitVec.ofNat 48 (be p 0 6), fid := le p 6 2, dynamic := byteAt p 8 == 1, multicast := group
    port := if group then 0xFF else byteAt p 10, slot := if !group && byteAt p 10 == 25 then byteAt p 11 else 0xFF
    portMask := if group then le p 14 4 else 0, slotMask := if group then le p 18 2 else 0, refreshed := tick }

/-- The oldest dynamic entry of a bucket. -/
def oldestDynamic (t : Tbl FdbEntry) (bucket : Nat) : Option Nat :=
  ((t.filter (fun e => e.1 / 8 == bucket && e.2.dynamic)).foldl (fun b e => match b with
    | none => some e
    | some x => if e.2.refreshed < x.2.refreshed then some e else some x) (none : Option (Nat × FdbEntry))).map (·.1)

/-- The way that an added entry takes (R163): its own, a free one, or that of the oldest dynamic entry. -/
def fdbPlace (t : Tbl FdbEntry) (e : FdbEntry) : Option Nat :=
  match fdbFind t e.mac.toNat e.fid with
  | some (i, _) => some i
  | none =>
    let b := fdbBucket e.mac.toNat e.fid
    (freeWay t b).orElse (fun _ => oldestDynamic t b)

/-- FDB_ADD (R163). -/
def cmdFdbAdd : Cmd :=
  { op := 0x0401, lengthOk := lenIs 22
    check := fun s n p =>
      let e := fdbOf s.tick p
      firstFail [need (e.multicast || decide (byteAt p 10 < 28)) (stBadParam 10),
        need (e.multicast || byteAt p 10 != 25 || decide (byteAt p 11 < 16)) (stBadParam 11),
        mayWriteFdb s n e, between e.fid 1 4095 6, flag p 8, need (!(e.multicast && e.dynamic)) (stBadParam 8),
        need (decide (e.portMask < 2 ^ 28)) (stBadParam 14), need (fdbPlace s.net.fdb e).isSome stNoResource]
    run := fun s _ _ p =>
      let e := fdbOf s.tick p
      match fdbPlace s.net.fdb e with
      | some i => (s.modFdb (fun t => tset t i e), .done (stOk []))
      | none => (s, .done stNoResource) }

/-- The entry that a MAC and FID name. -/
def State.fdbNamed (s : State) (p : Bytes) : Option (Nat × FdbEntry) := fdbFind s.net.fdb (be p 0 6) (le p 6 2)

/-- FDB_DELETE (R163). -/
def cmdFdbDelete : Cmd :=
  { op := 0x0402, lengthOk := lenIs 8
    check := fun s n p =>
      match s.fdbNamed p with
      | none => some (stBadParam 0)
      | some (_, e) => mayWriteFdb s n e
    run := fun s _ _ p =>
      match s.fdbNamed p with
      | none => (s, .done (stBadParam 0))
      | some (i, _) => (s.modFdb (fun t => tdel t i), .done (stOk [])) }

/-- FDB_LOOKUP (R163). -/
def cmdFdbLookup : Cmd :=
  { op := 0x0403, lengthOk := lenIs 8
    check := fun s n p => firstFail [need (s.fdbNamed p).isSome (stBadParam 0), mayReadDevice s n]
    run := fun s _ _ p => (s, .done (stOk (fdbRecord s.tick ((s.fdbNamed p).map (·.2))))) }

/-- FDB_FLUSH takes this entry (R163). -/
def flushes (p : Bytes) (e : FdbEntry) : Bool :=
  let i := le p 2 2
  (byteAt p 1 == 0 || e.dynamic) &&
    (if byteAt p 0 = 0 then (if e.multicast then bitOf e.portMask i else e.port == i)
     else if byteAt p 0 = 1 then e.fid == i else true)

/-- FDB_FLUSH (R163, R164). -/
def cmdFdbFlush : Cmd :=
  { op := 0x0404, lengthOk := lenIs 4
    check := fun _ n p => firstFail [need (byteAt p 0 != 0 || decide (le p 2 2 < 28)) (stBadParam 2), mustBeS0 n,
      between (byteAt p 0) 0 2 0, flag p 1, need (byteAt p 0 != 1 || (1 ≤ le p 2 2 && le p 2 2 ≤ 4095)) (stBadParam 2)]
    run := fun s _ _ p =>
      let gone := (s.net.fdb.filter (fun e => flushes p e.2)).length
      (s.modFdb (fun t => t.filter (fun e => !flushes p e.2)), .done (stOk (w32 gone))) }

/-- FDB_SET_AGING (R142, R163). -/
def cmdFdbSetAging : Cmd :=
  { op := 0x0405, lengthOk := lenIs 4
    check := fun _ n p => firstFail [mustBeS0 n, between (le p 0 4) 1 65535 0]
    run := fun s _ _ p => (s.modNet (fun x => { x with ageTime := le p 0 4 }), .done (stOk [])) }

/-- FDB_READ (R163, R540). -/
def cmdFdbRead : Cmd :=
  { op := 0x0406, lengthOk := lenIs 4
    check := fun s n p => firstFail [inRange (le p 0 2) 16384 0, mayReadDevice s n,
      countIn (le p 0 2) (le p 2 2) 256 16384 0 2]
    run := fun s _ _ p =>
      (s, .done (stOk ((List.range (le p 2 2)).flatMap (fun k => fdbRecord s.tick (tget? s.net.fdb (le p 0 2 + k)))))) }

/-- A VLAN entry from its record (R133). -/
def vlanOf (r : Bytes) : Vlan :=
  { member := le r 0 4 % 2 ^ 28, untagged := le r 4 4 % 2 ^ 28, flood := le r 8 4 % 2 ^ 28, fid := le r 12 2 % 4096
    learn := bitOf (le r 12 2) 14, valid := bitOf (le r 12 2) 15, slots := le r 14 2 }

/-- The record of a VLAN entry (R133). -/
def Vlan.record (v : Vlan) : Bytes :=
  w32 v.member ++ w32 v.untagged ++ w32 v.flood ++ w16 (v.fid + 2 ^ 14 * b2n v.learn + 2 ^ 15 * b2n v.valid)
    ++ w16 v.slots

/-- FDB_SET_VLAN (R133, R163, R164). -/
def cmdFdbSetVlan : Cmd :=
  { op := 0x0410, lengthOk := lenIs 20
    check := fun _ n p => firstFail [between (le p 0 2) 1 4094 0, mustBeS0 n,
      need (decide (le p 4 4 < 2 ^ 28)) (stBadParam 4), need (decide (le p 8 4 < 2 ^ 28)) (stBadParam 8),
      need (decide (le p 12 4 < 2 ^ 28)) (stBadParam 12), between (le p 16 2 % 4096) 1 4095 16,
      need (le p 16 2 / 4096 % 4 == 0) (stBadParam 16)]
    run := fun s _ _ p =>
      (s.modNet (fun x => { x with vlans := tset x.vlans (le p 0 2) (vlanOf (slice p 4 16)) }), .done (stOk [])) }

/-- FDB_DELETE_VLAN (R163). -/
def cmdFdbDeleteVlan : Cmd :=
  { op := 0x0411, lengthOk := lenIs 4
    check := fun _ n p => firstFail [between (le p 0 2) 1 4094 0, mustBeS0 n]
    run := fun s _ _ p => (s.modNet (fun x => { x with vlans := tdel x.vlans (le p 0 2) }), .done (stOk [])) }

/-- FDB_GET_VLAN (R163). -/
def cmdFdbGetVlan : Cmd :=
  { op := 0x0412, lengthOk := lenIs 4
    check := fun s n p => firstFail [inRange (le p 0 2) 4096 0, mayReadDevice s n]
    run := fun s _ _ p => (s, .done (stOk (tgetD s.net.vlans (le p 0 2) default).record)) }

/-- PORT_SET_FWD_CONFIG. -/
def execPortSetFwdConfig (slot : Slot) (tag : Half) (payload : Bytes) (s : State) : Res :=
  .next (penyen cmdPortSetFwdConfig slot.val tag payload s)

/-- PORT_GET_FWD_CONFIG. -/
def execPortGetFwdConfig (slot : Slot) (tag : Half) (payload : Bytes) (s : State) : Res :=
  .next (penyen cmdPortGetFwdConfig slot.val tag payload s)

/-- PORT_GET_COUNTERS. -/
def execPortGetCounters (slot : Slot) (tag : Half) (payload : Bytes) (s : State) : Res :=
  .next (penyen cmdPortGetCounters slot.val tag payload s)

/-- PORT_CLEAR_COUNTERS. -/
def execPortClearCounters (slot : Slot) (tag : Half) (payload : Bytes) (s : State) : Res :=
  .next (penyen cmdPortClearCounters slot.val tag payload s)

/-- PORT_GET_PIPELINE_STATS. -/
def execPortGetPipelineStats (slot : Slot) (tag : Half) (payload : Bytes) (s : State) : Res :=
  .next (penyen cmdPortGetPipelineStats slot.val tag payload s)

/-- FDB_ADD. -/
def execFdbAdd (slot : Slot) (tag : Half) (payload : Bytes) (s : State) : Res :=
  .next (penyen cmdFdbAdd slot.val tag payload s)

/-- FDB_DELETE. -/
def execFdbDelete (slot : Slot) (tag : Half) (payload : Bytes) (s : State) : Res :=
  .next (penyen cmdFdbDelete slot.val tag payload s)

/-- FDB_LOOKUP. -/
def execFdbLookup (slot : Slot) (tag : Half) (payload : Bytes) (s : State) : Res :=
  .next (penyen cmdFdbLookup slot.val tag payload s)

/-- FDB_FLUSH. -/
def execFdbFlush (slot : Slot) (tag : Half) (payload : Bytes) (s : State) : Res :=
  .next (penyen cmdFdbFlush slot.val tag payload s)

/-- FDB_SET_AGING. -/
def execFdbSetAging (slot : Slot) (tag : Half) (payload : Bytes) (s : State) : Res :=
  .next (penyen cmdFdbSetAging slot.val tag payload s)

/-- FDB_READ. -/
def execFdbRead (slot : Slot) (tag : Half) (payload : Bytes) (s : State) : Res :=
  .next (penyen cmdFdbRead slot.val tag payload s)

/-- FDB_SET_VLAN. -/
def execFdbSetVlan (slot : Slot) (tag : Half) (payload : Bytes) (s : State) : Res :=
  .next (penyen cmdFdbSetVlan slot.val tag payload s)

/-- FDB_DELETE_VLAN. -/
def execFdbDeleteVlan (slot : Slot) (tag : Half) (payload : Bytes) (s : State) : Res :=
  .next (penyen cmdFdbDeleteVlan slot.val tag payload s)

/-- FDB_GET_VLAN. -/
def execFdbGetVlan (slot : Slot) (tag : Half) (payload : Bytes) (s : State) : Res :=
  .next (penyen cmdFdbGetVlan slot.val tag payload s)

end Sys2Proof.Machine
end

