-- ==== Sys2Proof/Machine/RedCmds.lean ====
section
/-! DEFINITION. The RED commands, and the timers and probes of path redundancy (chapter 12 of the spec). -/

namespace Sys2Proof.Machine

/-- A generator that was never written (R294). -/
def Generator.blank : Generator := { record := [0, 0, 1, 0], enabled := false, next := 0 }

/-- A recovery instance that was never written (R294). -/
def Recovery.blank : Recovery := { (default : Recovery) with record := [0, 0, 0, 32, 100, 0, 2, 0] ++ zeros 8 }

/-- Generator `i`. -/
def State.generator (s : State) (i : Nat) : Generator := tgetD s.net.red.gens i Generator.blank
/-- Recovery instance `i`. -/
def State.recovery (s : State) (i : Nat) : Recovery := tgetD s.net.red.recs i Recovery.blank

/-- The caller owns P0 and P1 (R303). -/
def ownsBackbone (s : State) (n : Nat) : Option Answer := need (s.owns n 1 0 && s.owns n 1 1) stNotOwner

/-- RED_GET_CAPS (R303, R538): generators, recovery instances, history limit. -/
def cmdRedGetCaps : Cmd :=
  { op := 0x0900, lengthOk := lenIs 0, check := fun _ _ _ => none
    run := fun s _ _ _ => (s, .done (stOk (w32 256 ++ w32 256 ++ w32 64))) }

/-- RED_SET_GENERATOR (R288, R290). -/
def cmdRedSetGenerator : Cmd :=
  { op := 0x0901, lengthOk := lenIs 8
    check := fun s n p => firstFail [ownsBackbone s n,
      need (!(s.generator (byteAt p 0)).enabled) (stWrongState 0x0901 (byteAt p 0) 1),
      between (le p 4 2) 0 2047 4, flag p 6]
    run := fun s _ _ p =>
      let g : Generator := { s.generator (byteAt p 0) with record := slice p 4 3 ++ [0] }
      (s.modRed (fun r => { r with gens := tset r.gens (byteAt p 0) g }), .done (stOk [])) }

/-- A recovery instance begins a new run; the one that ends stays while frames on their way name it (R288). -/
def State.retireRec (s : State) (i : Nat) : State :=
  let g := s.recovery i
  let named (e : Nat × Recovery) : Bool := s.net.frames.any (fun f => f.recovery == some (e.1, e.2.run))
  s.modRed (fun r => { r with
    retired := (r.retired ++ [(i, g)]).filter named, recs := tset r.recs i { g with run := g.run + 1 } })

/-- RED_SET_RECOVERY (R288, R294). -/
def cmdRedSetRecovery : Cmd :=
  { op := 0x0902, lengthOk := lenIs 20
    check := fun s n p => firstFail [ownsBackbone s n,
      need (!(s.recovery (byteAt p 0)).enabled) (stWrongState 0x0901 (256 + byteAt p 0) 1),
      between (le p 4 2) 0 2047 4, flag p 6, between (byteAt p 7) 2 64 7, between (le p 8 2) 1 1000 8,
      between (byteAt p 10) 0 3 10]
    run := fun s _ _ p =>
      let s := s.retireRec (byteAt p 0)
      let g : Recovery := { s.recovery (byteAt p 0) with record := slice p 4 7 ++ [0] ++ slice p 12 2 ++ zeros 6 }
      (s.modRed (fun r => { r with recs := tset r.recs (byteAt p 0) g }), .done (stOk [])) }

/-- Another enabled instance of the kind serves the handle (R288, R303). -/
def State.handleTaken (s : State) (kind i : Nat) : Bool :=
  if kind = 0 then s.net.red.gens.any (fun e => e.1 != i && e.2.enabled && le e.2.record 0 2 == le (s.generator i).record 0 2)
  else s.net.red.recs.any (fun e => e.1 != i && e.2.enabled && le e.2.record 0 2 == le (s.recovery i).record 0 2)

/-- An instance enabled or disabled (R290, R294). -/
def State.enableRed (s : State) (kind i : Nat) (on : Bool) : State :=
  if kind = 0 then
    let g := s.generator i
    let g : Generator := { g with enabled := on, next := if on && !g.enabled then 0 else g.next }
    s.modRed (fun r => { r with gens := tset r.gens i g })
  else
    let start := on && !(s.recovery i).enabled
    let s := if start then s.retireRec i else s
    let g := s.recovery i
    let g : Recovery :=
      if start then
        { g with
          enabled := true, takeAny := true, history := 0, basePassed := s.ctr (.red (256 + i) .passed)
          baseEliminated := s.ctr (.red (256 + i) .eliminated) }
      else { g with enabled := on }
    s.modRed (fun r => { r with recs := tset r.recs i g })

/-- RED_ENABLE (R288, R303). -/
def cmdRedEnable : Cmd :=
  { op := 0x0903, lengthOk := lenIs 4
    check := fun s n p => firstFail [inRange (byteAt p 0) 2 0, ownsBackbone s n, flag p 2,
      need (!(byteAt p 2 == 1 && s.handleTaken (byteAt p 0) (byteAt p 1))) stNoResource]
    run := fun s _ _ p =>
      (s.enableRed (byteAt p 0) (byteAt p 1) (byteAt p 2 == 1), .done (stOk (w8 (byteAt p 2)))) }

/-- RED_GET_INSTANCE (R303): a generator has no recovery number, flag and history, so those 11 bytes are open (log 22). -/
def cmdRedGetInstance : Cmd :=
  { op := 0x0904, lengthOk := lenIs 4
    check := fun s n p => firstFail [inRange (byteAt p 0) 2 0, mayReadDevice s n]
    run := fun s _ _ p =>
      if byteAt p 0 = 0 then
        let g := s.generator (byteAt p 1)
        let b := s.freeBytes 11
        (b.2, .done (stOk (padTo 4 g.record ++ w8 (b2n g.enabled) ++ b.1)))
      else
        let g := s.recovery (byteAt p 1)
        (s, .done (stOk (padTo 16 g.record ++ w8 (b2n g.enabled) ++ w16 g.r ++ w8 (b2n g.takeAny) ++ w64 g.history))) }

/-- The ranges of the protection record (R303). -/
def protectRanges (p : Bytes) : Option Answer :=
  firstFail [flag p 0, flag p 1, between (le p 2 2) 1 600 2, flag p 4, between (byteAt p 5) 1 100 5,
    between (byteAt p 6) 2 255 6, between (byteAt p 7) 0 7 7, between (byteAt p 8) 0 7 8, between (le p 10 2) 1 1000 10]

/-- The protection record written (R299): disabled, enabled into ON_A, or kept with a running wait cancelled. -/
def State.setProtect (s : State) (r : Bytes) : State :=
  let was := s.net.red.state
  let s := s.modRed (fun x => { x with
    protect := r
    members := x.members.map (fun m => { m with probeBad := m.probeBad && byteAt r 4 == 1 }) })
  let s :=
    if byteAt r 0 = 0 then s.protTo .disabled false none
    else if was = .disabled then s.protTo .onA false none
    else if was = .wtr then s.protTo .onB true none
    else s
  ((s.noteSqi 0).noteSqi 1).judgeMembers

/-- RED_SET_PROTECT (R299, R303). -/
def cmdRedSetProtect : Cmd :=
  { op := 0x0905, lengthOk := lenIs 16
    check := fun s n p => firstFail [ownsBackbone s n, protectRanges p]
    run := fun s _ _ p => (s.setProtect (slice p 0 9 ++ [0] ++ slice p 10 2 ++ zeros 4), .done (stOk [])) }

/-- RED_FORCE (R298): AUTO from a forced state goes where the faults say; where both members are faulty, the active one
stays. -/
def State.forceMember (s : State) (mode : Nat) : State :=
  if mode = 1 then s.protTo .forcedA false none
  else if mode = 2 then s.protTo .forcedB true none
  else if s.net.red.state = .forcedA ∨ s.net.red.state = .forcedB then
    let a := s.memberFaulty 0
    let b := s.memberFaulty 1
    if a && b then s.protTo (if s.net.red.onB then .onB else .onA) s.net.red.onB none
    else if a then s.protTo .onB true (some 0)
    else s.protTo .onA false (if b then some 1 else none)
  else s

/-- RED_FORCE. -/
def cmdRedForce : Cmd :=
  { op := 0x0906, lengthOk := lenIs 4
    check := fun s n p => firstFail [ownsBackbone s n,
      need (s.net.red.state != .disabled) (stWrongState 0x0902 0 0), between (byteAt p 0) 0 2 0]
    run := fun s _ _ p =>
      let s := s.forceMember (byteAt p 0)
      (s, .done (stOk (w8 s.net.red.state.code))) }

/-- RED_GET_PROTECT: the record, the state and the two status bytes. -/
def cmdRedGetProtect : Cmd :=
  { op := 0x0907, lengthOk := lenIs 0, check := fun s n _ => mayReadDevice s n
    run := fun s _ _ _ =>
      (s, .done (stOk (padTo 16 s.net.red.protect ++ w8 s.net.red.state.code ++ w8 (s.memberStatus 0)
        ++ w8 (s.memberStatus 1)))) }

/-- RED_SUBSCRIBE (R303): for the caller's own slot. -/
def cmdRedSubscribe : Cmd :=
  { op := 0x0908, lengthOk := lenIs 4, check := fun _ _ p => flag p 0
    run := fun s n _ p =>
      let on (m : BitVec 16) : BitVec 16 := if byteAt p 0 = 1 then m ||| (1#16 <<< n) else m &&& ~~~(1#16 <<< n)
      (s.modRed (fun r => { r with subscribed := on r.subscribed }), .done (stOk [])) }

/-- Counters of a kind (R302): how many indices, the index of the first in the counter table, the names. -/
def redKind (k : Nat) : Nat × Nat × List RedCtr :=
  if k = 0 then (256, 0, [.generated])
  else if k = 1 then (256, 256, [.passed, .eliminated, .outOfOrder, .rogue, .lost, .tagless, .resets, .latentErrors])
  else if k = 2 then (2, 0, [.probesTx, .probesRx, .probesLost, .faults])
  else (1, 0, [.switches, .wtrRestarts])

/-- The object and range of a RED counter command. -/
def redObject (p : Bytes) : Option Answer :=
  firstFail [inRange (byteAt p 0) 4 0, inRange (le p 2 2) (redKind (byteAt p 0)).1 2]

/-- The counters that a RED counter command names. -/
def redNamed (p : Bytes) : List Ctr :=
  let k := redKind (byteAt p 0)
  (List.range (le p 4 2)).flatMap (fun i => k.2.2.map (fun c => Ctr.red (k.2.1 + le p 2 2 + i) c))

/-- RED_GET_COUNTERS (R302). -/
def cmdRedGetCounters : Cmd :=
  { op := 0x0909, lengthOk := lenIs 8
    check := fun s n p => firstFail [redObject p, mayReadDevice s n,
      countIn (le p 2 2) (le p 4 2) 64 (redKind (byteAt p 0)).1 2 4]
    run := fun s _ _ p => (s, .done (stOk (counterBytes s (redNamed p)))) }

/-- The report bases after counters have been cleared: what a report has not yet told stays told. -/
def State.rebaseRed (before s : State) : State :=
  let d (k : Ctr) : Int := (before.ctr k : Int) - s.ctr k
  s.modRed (fun r => { r with
    recs := r.recs.map (fun e => (e.1, { e.2 with
      basePassed := e.2.basePassed - d (.red (256 + e.1) .passed)
      baseEliminated := e.2.baseEliminated - d (.red (256 + e.1) .eliminated) }))
    members := vtab 2 (fun p =>
      let m := vget r.members p
      { m with baseRx := m.baseRx - d (.red p .probesRx), baseLost := m.baseLost - d (.red p .probesLost) })
    baseLost := r.baseLost - ((before.sumRec .lost : Int) - s.sumRec .lost)
    baseRogue := r.baseRogue - ((before.sumRec .rogue : Int) - s.sumRec .rogue) })

/-- RED_CLEAR_COUNTERS (R302). -/
def cmdRedClearCounters : Cmd :=
  { op := 0x090A, lengthOk := lenIs 8
    check := fun s n p => firstFail [redObject p, ownsBackbone s n,
      countIn (le p 2 2) (le p 4 2) 64 (redKind (byteAt p 0)).1 2 4]
    run := fun s _ _ p => (State.rebaseRed s (s.clearCtrs (fun k => (redNamed p).contains k)), .done (stOk [])) }

/-- FRER_RESET_TIMER (R294): the reset timer of an enabled instance expires. -/
def execFrerResetTimer (i : Fin 256) (s : State) : Res :=
  .next (if (s.recovery i).enabled then
    (s.modRed (fun r => { r with recs := tmod r.recs i Recovery.blank (fun x => { x with takeAny := true }) })).count (.red (256 + i) .resets)
    else s)

/-- HEALTH_REPORT (R295, R301): the local clock has crossed a whole second, and not by a step. -/
def execHealthReport (s : State) : Res :=
  .next (if s.running ∧ s.net.red.second ≠ s.now / 1000000000 then s.healthReport else s)

/-- PROBE_SEND (R300): with PROBE_EN, on a member whose link is up. -/
def execProbeSend (p : Fin 2) (s : State) : Res :=
  .next (if byteAt s.net.red.protect 4 = 1 ∧ s.linkUp p then s.sendProbe p else s)

/-- PROBE_RECEIVE (R300): a probe with these FLAGS and SEQ arrives on a member whose link is up. -/
def execProbeReceive (p : Fin 2) (flags : Byte) (seq : Word) (s : State) : Res :=
  .next (if s.linkUp p then s.takeProbe p flags.toNat seq.toNat else s)

/-- PROBE_MISS_TIMEOUT (R297). -/
def execProbeMissTimeout (p : Fin 2) (s : State) : Res :=
  .next (if byteAt s.net.red.protect 4 = 1 then
    (s.modMember p (fun m => { m with probeBad := true })).judgeMembers else s)

/-- SQI_HOLD_EXPIRY (R297): the index has been below SQI_MIN for SQI_HOLD. -/
def execSqiHoldExpiry (p : Fin 2) (s : State) : Res :=
  .next (if s.linkUp p ∧ (s.phy p).sqi < byteAt s.net.red.protect 8 then
    (s.modMember p (fun m => { m with sqiBad := true })).judgeMembers else s)

/-- WTR_EXPIRY (R298). -/
def execWtrExpiry (s : State) : Res := .next (if s.net.red.state = .wtr then s.protTo .onA false none else s)

/-- RED_GET_CAPS. -/
def execRedGetCaps (slot : Slot) (tag : Half) (payload : Bytes) (s : State) : Res :=
  .next (penyen cmdRedGetCaps slot.val tag payload s)

/-- RED_SET_GENERATOR. -/
def execRedSetGenerator (slot : Slot) (tag : Half) (payload : Bytes) (s : State) : Res :=
  .next (penyen cmdRedSetGenerator slot.val tag payload s)

/-- RED_SET_RECOVERY. -/
def execRedSetRecovery (slot : Slot) (tag : Half) (payload : Bytes) (s : State) : Res :=
  .next (penyen cmdRedSetRecovery slot.val tag payload s)

/-- RED_ENABLE. -/
def execRedEnable (slot : Slot) (tag : Half) (payload : Bytes) (s : State) : Res :=
  .next (penyen cmdRedEnable slot.val tag payload s)

/-- RED_GET_INSTANCE. -/
def execRedGetInstance (slot : Slot) (tag : Half) (payload : Bytes) (s : State) : Res :=
  .next (penyen cmdRedGetInstance slot.val tag payload s)

/-- RED_SET_PROTECT. -/
def execRedSetProtect (slot : Slot) (tag : Half) (payload : Bytes) (s : State) : Res :=
  .next (penyen cmdRedSetProtect slot.val tag payload s)

/-- RED_FORCE. -/
def execRedForce (slot : Slot) (tag : Half) (payload : Bytes) (s : State) : Res :=
  .next (penyen cmdRedForce slot.val tag payload s)

/-- RED_GET_PROTECT. -/
def execRedGetProtect (slot : Slot) (tag : Half) (payload : Bytes) (s : State) : Res :=
  .next (penyen cmdRedGetProtect slot.val tag payload s)

/-- RED_SUBSCRIBE. -/
def execRedSubscribe (slot : Slot) (tag : Half) (payload : Bytes) (s : State) : Res :=
  .next (penyen cmdRedSubscribe slot.val tag payload s)

/-- RED_GET_COUNTERS. -/
def execRedGetCounters (slot : Slot) (tag : Half) (payload : Bytes) (s : State) : Res :=
  .next (penyen cmdRedGetCounters slot.val tag payload s)

/-- RED_CLEAR_COUNTERS. -/
def execRedClearCounters (slot : Slot) (tag : Half) (payload : Bytes) (s : State) : Res :=
  .next (penyen cmdRedClearCounters slot.val tag payload s)

end Sys2Proof.Machine
end

