-- ==== Sys2Proof/Machine/Resets.lean ====
section
/-! DEFINITION. Resets, rails, the thermal shutdown, and the pins of the always-on domain (chapters 04 and 23 of the spec). -/

namespace Sys2Proof.Machine

/-- PWS_WAKE_SRC reads a cold start. -/
def State.clearWakeSource (s : State) : State := { s with pws := { s.pws with wakeSource := 0, wakeIndex := 0 } }

/-- The digital die, running or asleep, loses its state, and a wake in progress ends. -/
def State.dieLost (s : State) : State := (s.coldState.modPd0 (fun p => { p with waking := false })).clearWakeSource

/-- RESET_N falls (R518): the die is held in reset; asleep, PD0 asserts INH0 as for a wake. -/
def State.resetLow (s : State) : State :=
  let asleep := s.sleep.phase == .sleeping
  let s := s.modPd0 (fun p => { p with resetN := false })
  if s.pd0.die then s.dieLost
  else if asleep then
    let s := s.dieLost
    if s.pd0.inh0 then s else if s.sleep.inhHold then s.modSleep (fun x => { x with wakeDue := true }) else s.assertInh
  else s

/-- RESET_N_ASSERT. -/
def execResetNAssert (s : State) : Res := .next (if s.pd0.vbatGood ∧ s.pd0.resetN then s.resetLow else s)

/-- RESET_N_RELEASE (R47, R518): the start that follows is cold, with cause RESET_N. -/
def execResetNRelease (s : State) : Res :=
  .next (if s.pd0.vbatGood ∧ !s.pd0.resetN then
    ((s.modPd0 (fun p => { p with resetN := true })).setResetCause 1).clearWakeSource else s)

/-- VBAT falls below the threshold (R514): every record of PD0 is cleared, and what is fused stays. -/
def State.powerLost (s : State) : State :=
  let s := (s.inh0To false).inh1To false
  { State.reset with
    pending := s.pending, tick := s.tick, fresh := s.fresh, out := s.out
    boot := { Boot.reset with
      bootsel := s.boot.bootsel, secver := s.boot.secverFused, keyrev := s.boot.keyrevFused, lcs := s.boot.lcsFused
      secverFused := s.boot.secverFused, keyrevFused := s.boot.keyrevFused, lcsFused := s.boot.lcsFused }
    pd0 := { (default : Pd0) with resetN := s.pd0.resetN }
    board := { Board.reset with gpio := s.board.gpio.map (fun g => { (default : Gpio) with level := g.level, settled := g.level }) }
    crypt := { Crypt.reset with starts := s.crypt.starts } }

/-- POWER_ON_RESET: VBAT crosses the threshold, upwards or downwards (R47, R514). -/
def execPowerOnReset (above : Bool) (s : State) : Res :=
  .next (if above then (if s.pd0.vbatGood then s else s.modPd0 (fun p => { p with vbatGood := true }))
    else if s.pd0.vbatGood then s.powerLost else s)

/-- WATCHDOG_EXPIRY (R89): the watchdog of running firmware. -/
def execWatchdogExpiry (s : State) : Res := .next (if s.running then s.resetDie 2 else s)

/-! Rails (R513). -/

/-- A port's link goes down with its rail, or its attempt ends. -/
def State.railLink (s : State) (p : Nat) : State :=
  let l := (s.phy p).link
  if l = .up then s.linkDown p .down 1 (s.linkHold p)
  else if l = .grantWait ∨ l = .training then s.linkDown p .down 5 (s.linkHold p)
  else s

/-- The ports whose links need rail `r`. -/
def railPorts (r : Nat) : List Nat :=
  (List.range 25).filter (fun p => if r = 2 then decide (p ≤ 4) else r == 3 && (decide (p ≤ 1) || decide (5 ≤ p)))

/-- What a rail that leaves its window does while the die runs and no reset follows. -/
def State.railEffects (s : State) (r : Nat) : State :=
  let s := forAll (railPorts r) (fun p s => s.railLink p) s
  let s := if r = 2 then s.pcieDown else s
  let s := if r = 5 then forAll (List.range 25) (fun p s =>
      if hasPodl p && (s.podlOf p).state.drives then s.podlFault p 5 else s) s else s
  s.setCauseAll 6

/-- A rail leaves its window (R513, R330): VDD, VDDM and VDDIO18 reset the die. -/
def State.railLost (s : State) (r : Nat) : State :=
  let s := if r = 6 then s.vcc5To false else s.railBit r false
  if !s.pd0.die then s
  else if r = 0 ∨ r = 1 ∨ r = 4 then s.resetDie 4
  else s.railEffects r

/-- RAIL_FAULT. -/
def execRailFault (r : Fin 7) (s : State) : Res := .next (if s.pd0.vbatGood && s.railGood r.val then s.railLost r.val else s)

/-- A rail is back in its window (R513): its links may train again. -/
def State.railBack (s : State) (r : Nat) : State :=
  let s := if r = 6 then s.vcc5To true else s.railBit r true
  if !s.pd0.die then s
  else
    let s := s.setCauseAll 6
    if s.running then forAll (railPorts r) (fun p s => if s.canTrain p then s.startTraining p 5 else s) s else s

/-- RAIL_GOOD. -/
def execRailGood (r : Fin 7) (s : State) : Res := .next (if s.pd0.vbatGood && !s.railGood r.val then s.railBack r.val else s)

/-! Thermal shutdown (R515), power-on (R516, R528). -/

/-- PD0 releases INH0 and INH1 and records THERMAL; the die loses power. -/
def State.thermalOff (s : State) : State :=
  let s := (((s.inh0To false).inh1To false).modPd0 (fun p => { p with thermal := true })).dieLost
  s.setResetCause 5

/-- THERMAL_SHUTDOWN. -/
def execThermalShutdown (s : State) : Res :=
  .next (if s.pd0.vbatGood ∧ s.pd0.inh0 ∧ !s.pd0.thermal then s.thermalOff else s)

/-- THERMAL_RECOVERY: PD0 asserts INH0 again; the die starts cold when its rails are good. -/
def execThermalRecovery (s : State) : Res :=
  .next (if s.pd0.vbatGood ∧ s.pd0.thermal then (s.modPd0 (fun p => { p with thermal := false })).assertInh else s)

/-- INH0_ASSERT_AFTER_POR (R516). -/
def execInh0AssertAfterPor (s : State) : Res :=
  .next (if s.pd0.vbatGood ∧ !s.pd0.inh0 ∧ !s.pd0.thermal ∧ !s.sleep.inhHold ∧ s.sleep.phase ≠ .sleeping then s.assertInh else s)

/-- XTAL32K_SWITCH (R528): once after a power-on reset, with or without an oscillating crystal. -/
def execXtal32kSwitch (ok : Bool) (s : State) : Res :=
  .next (if s.pd0.vbatGood ∧ !s.pd0.crystalTried then s.modPd0 (fun p => { p with crystal := ok, crystalTried := true }) else s)

/-! PCIe and the grandmaster. -/

/-- The PCIe link can come up (R92, R457, R513): the die runs with PCIe enabled, and PD5 has power. -/
def State.pcieCanTrain (s : State) : Bool :=
  s.pd0.die && s.pcieEnabled && (!s.running || s.pws.domains.getLsbD 5) && s.railGood 2

/-- PCIE_LINK_UP (R92): the host then sets the endpoint up by writes (State.pcieWrite). -/
def execPcieLinkUp (s : State) : Res :=
  .next (if s.pcieCanTrain then s.modNet (fun n => { n with pcieUp := true }) else s)

/-- GRANDMASTER_CHANGE (R273): the driving instance sees another grandmaster identity. -/
def execGrandmasterChange (gm : DWord) (s : State) : Res :=
  let i := s.time.driver.toNat
  .next (if s.running && s.time.source == 1 && (s.gptp i).gm != gm then
    (s.modGptp i (fun x => { x with gm := gm })).newEpoch 2 else s)

end Sys2Proof.Machine
end

