-- ==== Sys2Proof/Machine/SchedCmds.lean ====
section
/-! DEFINITION. The SCHED commands, stream gates and queue sampling (chapters 08 and 09 of the spec). -/

namespace Sys2Proof.Machine

/-- The queue that port and TC at the head of a payload name. -/
def queueNamed (ports : Nat) (p : Bytes) : Option Answer :=
  firstFail [inRange (byteAt p 0) ports 0, inRange (byteAt p 1) 8 1]

/-- SCHED_GET_CAPS (R239): counts of queues, meters, filters, gates and identification entries, then the ranges of R221 and
R224 (R538; log 22). -/
def cmdSchedGetCaps : Cmd :=
  { op := 0x0600, lengthOk := lenIs 0
    check := fun _ _ _ => none
    run := fun s _ _ _ =>
      (s, .done (stOk ([200, 1024, 2048, 64, 2048, 1, 25600000, 64, 1048576, 0, 25600000, 0, 16777215].flatMap w32))) }

/-- SCHED_SET_QUEUE (R216 to R220, R239): on F25 to F27 only EXPRESS is set, with WEIGHT and OVERHEAD 0 (log 23). -/
def cmdSchedSetQueue : Cmd :=
  { op := 0x0601, lengthOk := lenIs 8
    check := fun s n p =>
      let ext := decide (byteAt p 0 < 25)
      firstFail [queueNamed 28 p, mustOwnPort s n (byteAt p 0), flag p 2, flag p 3,
        need (if ext then 1 ≤ le p 4 2 && le p 4 2 ≤ 1023 else le p 4 2 == 0) (stBadParam 4),
        need (if ext then byteAt p 6 ≤ 63 else byteAt p 6 == 0) (stBadParam 6), commitFree s (byteAt p 2) 2]
    run := fun s _ _ p =>
      let s := s.modQueue (byteAt p 0) (byteAt p 1) (fun q => { q with
        cfgShadow := if byteAt p 0 < 25 then { express := byteAt p 3 == 1, weight := le p 4 2, overhead := byteAt p 6 }
          else { q.cfgShadow with express := byteAt p 3 == 1 } })
      (s.maybeCommit (byteAt p 2) 2, .done (stOk [])) }

/-- SCHED_GET_QUEUE (R239): EXPRESS, reserved, WEIGHT, OVERHEAD, 3 reserved, the head tag and V (log 22). -/
def cmdSchedGetQueue : Cmd :=
  { op := 0x0602, lengthOk := lenIs 4
    check := fun s n p => firstFail [queueNamed 28 p, mayReadPort s n (byteAt p 0), flag p 2]
    run := fun s _ _ p =>
      let q := s.queue (byteAt p 0) (byteAt p 1)
      let c := if byteAt p 2 = 1 then q.cfgShadow else q.cfg
      (s, .done (stOk (w8 (b2n c.express) ++ [0] ++ w16 c.weight ++ w8 c.overhead ++ zeros 3 ++ w64 (q.tag.getD 0)
        ++ w64 (s.egr (byteAt p 0)).v))) }

/-- The fabric tick of the next refill (R221): refills come 205, 205, 205, 205 and 204 ticks apart. -/
def nextRefill (tick : Nat) : Nat :=
  let base := tick / 1024 * 1024
  let r := tick % 1024
  base + (if r < 205 then 205 else if r < 410 then 410 else if r < 615 then 615 else if r < 820 then 820 else 1024)

/-- The low 32 bits of the local clock at the next refill (R223). -/
def State.appliedAt (s : State) : Nat :=
  (s.now + ((nextRefill s.tick - s.tick) * s.time.nextIncr.toNat + s.time.frac) / 2 ^ 32) % 2 ^ 32

/-- SCHED_SET_SHAPER (R221, R223). -/
def cmdSchedSetShaper : Cmd :=
  { op := 0x0603, lengthOk := lenIs 12
    check := fun s n p => firstFail [queueNamed 25 p, mustOwn s n 1 (byteAt p 0), flag p 2,
      between (le p 4 4) 1 25600000 4, between (le p 8 4) 64 1048576 8]
    run := fun s _ _ p =>
      let c : ShaperCfg := { enable := byteAt p 2 == 1, rate := le p 4 4, burst := le p 8 4 }
      (s.modQueue (byteAt p 0) (byteAt p 1) (fun q => { q with shaperNew := some c }), .done (stOk (w32 s.appliedAt))) }

/-- SCHED_GET_SHAPER (R239): ENABLE, 3 reserved, RATE, BURST, credit (log 22). -/
def cmdSchedGetShaper : Cmd :=
  { op := 0x0604, lengthOk := lenIs 4
    check := fun s n p => firstFail [queueNamed 25 p, mayRead s n 1 (byteAt p 0)]
    run := fun s _ _ p =>
      let q := s.queue (byteAt p 0) (byteAt p 1)
      (s, .done (stOk (w8 (b2n q.shaper.enable) ++ zeros 3 ++ w32 q.shaper.rate ++ w32 q.shaper.burst
        ++ w32 (toTwos 32 (q.credit / 2 ^ 32))))) }

/-- SCHED_SET_METER (R224, R239). -/
def cmdSchedSetMeter : Cmd :=
  { op := 0x0605, lengthOk := lenIs 20
    check := fun s n p => firstFail [inRange (le p 0 2) 1024 0, mustOwn s n 10 (le p 0 2), flag p 2,
      between (byteAt p 3) 0 7 3, between (le p 4 4) 0 25600000 4, between (le p 8 4) 0 16777215 8,
      between (le p 12 4) 0 25600000 12, between (le p 16 4) 0 16777215 16, commitFree s (byteAt p 2) 4]
    run := fun s _ _ p =>
      let m := byteAt p 3
      let c : MeterCfg :=
        { enable := bitOf m 0, aware := bitOf m 1, coupling := bitOf m 2, cir := le p 4 4, cbs := le p 8 4
          eir := le p 12 4, ebs := le p 16 4 }
      ((s.modMeter (le p 0 2) (fun m => { m with shadow := c })).maybeCommit (byteAt p 2) 4, .done (stOk [])) }

/-- SCHED_GET_METER (R239): MODE, 3 reserved, CIR, CBS, EIR, EBS and both levels in bytes (log 22). -/
def cmdSchedGetMeter : Cmd :=
  { op := 0x0606, lengthOk := lenIs 4
    check := fun s n p => firstFail [inRange (le p 0 2) 1024 0, mayRead s n 10 (le p 0 2), flag p 2]
    run := fun s _ _ p =>
      let m := (s.meter (le p 0 2)).accrue s.tick
      let c := if byteAt p 2 = 1 then m.shadow else m.cfg
      (s, .done (stOk (w8 (b2n c.enable + 2 * b2n c.aware + 4 * b2n c.coupling) ++ zeros 3 ++ w32 c.cir ++ w32 c.cbs
        ++ w32 c.eir ++ w32 c.ebs ++ w32 (toTwos 32 (m.c / meterUnit)) ++ w32 (toTwos 32 (m.e / meterUnit))))) }

/-! Stream identification (R228 to R230). -/

/-- The stream identification table is not RETIRING (R230). -/
def streamIdle (s : State) : Option Answer := need (!s.net.streamIds.retiring) stBusy

/-- The ranges of a stream identification entry (R228); an unused one has none. -/
def streamIdRanges (p : Bytes) (o : Nat) : Option Answer :=
  firstFail [between (byteAt p o) 0 3 o,
    need (byteAt p o == 0 || decide (byteAt p (o + 1) < 32)) (stBadParam (o + 1)),
    need (byteAt p o == 0 || decide (le p (o + 2) 2 ≤ 2047)) (stBadParam (o + 2)),
    need (byteAt p o == 0 || decide (le p (o + 4) 4 < 2 ^ 28)) (stBadParam (o + 4)),
    need (byteAt p o == 0 || (1 ≤ le p (o + 14) 2 && le p (o + 14) 2 ≤ 4094)) (stBadParam (o + 14)),
    need (byteAt p o != 3 || decide (byteAt p (o + 48) ≤ 63)) (stBadParam (o + 48))]

/-- SCHED_SET_STREAM_ID (R228, R230). -/
def cmdSchedSetStreamId : Cmd :=
  { op := 0x0607, lengthOk := lenIs 68
    check := fun s n p => firstFail [inRange (le p 0 2) 2048 0, mustBeS0 n, streamIdRanges p 4, streamIdle s]
    run := fun s _ _ p =>
      let e := slice p 4 54 ++ zeros 10
      (s.modNet (fun x => { x with streamIds := { x.streamIds with
        staged := if byteAt p 4 = 0 then tdel x.streamIds.staged (le p 0 2) else tset x.streamIds.staged (le p 0 2) e } }),
       .done (stOk [])) }

/-- SCHED_GET_STREAM_ID. -/
def cmdSchedGetStreamId : Cmd :=
  { op := 0x0608, lengthOk := lenIs 4
    check := fun s n p => firstFail [inRange (le p 0 2) 2048 0, mayReadDevice s n, flag p 2]
    run := fun s _ _ p =>
      let t := if byteAt p 2 = 1 then s.net.streamIds.staged else s.net.streamIds.active
      (s, .done (stOk (tgetD t (le p 0 2) (zeros 64)))) }

/-- SCHED_SWAP_STREAM_ID (R230): the staging bank becomes active and the generation increments; the table is RETIRING, and
the response comes when the old generation has retired. -/
def cmdSchedSwapStreamId : Cmd :=
  { op := 0x0609, lengthOk := lenIs 0
    check := fun s n _ => firstFail [mustBeS0 n, streamIdle s]
    run := fun s n tag _ =>
      let old := s.net.customs.gen
      let sw : Swap := { mask := 0, instant := none, old := old, swapped := true, slot := n, tag := tag }
      (s.modNet (fun x => { x with
        customs := { x.customs with gen := (old + 1) % 2 ^ 32 }
        streamIds := { active := x.streamIds.staged, staged := x.streamIds.active, retiring := true, swaps := [sw] } }),
       .later) }

/-! Filters and gates (R231 to R234). -/

/-- The ranges of a stream filter (R231). -/
def filterRanges (p : Bytes) (o : Nat) : Option Answer :=
  let h := le p (o + 2) 2
  let m := le p (o + 6) 2
  firstFail [between (byteAt p o) 0 7 o, between (byteAt p (o + 1)) 0 7 (o + 1),
    need (decide (h ≤ 2047) || h == 0xFFFE || h == 0xFFFF) (stBadParam (o + 2)),
    need (decide (byteAt p (o + 4) ≤ 7) || byteAt p (o + 4) == 0xFF) (stBadParam (o + 4)),
    need (decide (byteAt p (o + 5) < 64) || byteAt p (o + 5) == 0xFF) (stBadParam (o + 5)),
    need (m == 0 || (64 ≤ m && m ≤ 9216)) (stBadParam (o + 6)),
    need (decide (le p (o + 8) 2 < 1024) || le p (o + 8) 2 == 0xFFFF) (stBadParam (o + 8))]

/-- SCHED_SET_FILTER. -/
def cmdSchedSetFilter : Cmd :=
  { op := 0x060A, lengthOk := lenIs 20
    check := fun s n p => firstFail [inRange (le p 0 2) 2048 0, mustBeS0 n, flag p 2, filterRanges p 4,
      commitFree s (byteAt p 2) 5]
    run := fun s _ _ p =>
      let s := s.modNet (fun x => { x with
        filters := tmod x.filters (le p 0 2) default (fun f => { f with shadow := slice p 4 10 ++ zeros 6 }) })
      (s.maybeCommit (byteAt p 2) 5, .done (stOk [])) }

/-- SCHED_GET_FILTER: the filter and BLOCKED. -/
def cmdSchedGetFilter : Cmd :=
  { op := 0x060B, lengthOk := lenIs 4
    check := fun s n p => firstFail [inRange (le p 0 2) 2048 0, mayReadDevice s n, flag p 2]
    run := fun s _ _ p =>
      let f := tgetD s.net.filters (le p 0 2) default
      (s, .done (stOk (padTo 16 (if byteAt p 2 = 1 then f.shadow else f.active) ++ w8 (b2n f.blocked)))) }

/-- The entries of a stream-gate list in a payload. -/
def sgateEntries (p : Bytes) : List (Bool × Nat × Nat) :=
  (List.range (byteAt p 3)).map (fun k =>
    (byteAt p (24 + 8 * k) == 1, byteAt p (25 + 8 * k), le p (28 + 8 * k) 4))

/-- An IPV: a class or 0xFF. -/
def ipvOk (v off : Nat) : Option Answer := need (decide (v ≤ 7) || v == 0xFF) (stBadParam off)

/-- SCHED_SET_STREAM_GATE (R234); STATE 1 is open (log 24). -/
def cmdSchedSetStreamGate : Cmd :=
  { op := 0x060C
    lengthOk := fun p =>
      if 1 ≤ byteAt p 3 ∧ byteAt p 3 ≤ 32 then p.length == 24 + 8 * byteAt p 3
      else 32 ≤ p.length && p.length ≤ 280 && p.length % 8 == 0
    check := fun s n p => firstFail ([inRange (byteAt p 0) 64 0, mustBeS0 n, flag p 1, flag p 2,
      between (byteAt p 3) 1 32 3, flag p 4, ipvOk (byteAt p 5) 5, between (le p 16 4) 64 1000000000 16]
      ++ (List.range (byteAt p 3)).flatMap (fun k =>
        [flag p (24 + 8 * k), ipvOk (byteAt p (25 + 8 * k)) (25 + 8 * k),
         need (32 ≤ le p (28 + 8 * k) 4) (stBadParam (28 + 8 * k))])
      ++ [commitFree s (byteAt p 1) 5])
    run := fun s _ _ p =>
      let l : SGateList :=
        { base := le p 8 8, cycle := le p 16 4, initOpen := byteAt p 4 == 1, initIpv := byteAt p 5
          closeOnInvalid := byteAt p 2 == 1, entries := sgateEntries p }
      let s := s.modNet (fun x => { x with sgates := vmod x.sgates (byteAt p 0) (fun g => { g with shadow := some l }) })
      (s.maybeCommit (byteAt p 1) 5, .done (stOk [])) }

/-- A stream-gate list as SCHED_SET_STREAM_GATE carries it. -/
def SGateList.bytes (g : Nat) (l : SGateList) : Bytes :=
  w8 g ++ [0] ++ w8 (b2n l.closeOnInvalid) ++ w8 l.entries.length ++ w8 (b2n l.initOpen) ++ w8 l.initIpv ++ [0, 0]
    ++ w64 l.base ++ w32 l.cycle ++ zeros 4
    ++ l.entries.flatMap (fun e => w8 (b2n e.1) ++ w8 e.2.1 ++ [0, 0] ++ w32 e.2.2)

/-- SCHED_GET_STREAM_GATE: the list, the start instant and the present entry (log 22). -/
def cmdSchedGetStreamGate : Cmd :=
  { op := 0x060D, lengthOk := lenIs 4
    check := fun s n p => firstFail [inRange (byteAt p 0) 64 0, mayReadDevice s n, flag p 1]
    run := fun s _ _ p =>
      let g := vget s.net.sgates (byteAt p 0)
      let l := if byteAt p 1 = 1 then g.shadow else g.active
      (s, .done (stOk ((match l with
        | some l => l.bytes (byteAt p 0)
        | none => w8 (byteAt p 0) ++ zeros 23) ++ w64 g.start ++ w8 g.entry ++ zeros 7))) }

/-- SCHED_CLEAR_BLOCKED (R232, R234). -/
def cmdSchedClearBlocked : Cmd :=
  { op := 0x060E, lengthOk := lenIs 4
    check := fun _ n p => firstFail [between (byteAt p 0) 0 1 0,
      inRange (le p 2 2) (if byteAt p 0 = 0 then 2048 else 64) 2, mustBeS0 n]
    run := fun s _ _ p =>
      (s.modNet (fun x =>
        if byteAt p 0 = 0 then { x with filters := tmod x.filters (le p 2 2) default (fun f => { f with blocked := false }) }
        else { x with sgates := vmod x.sgates (le p 2 2) (fun g => { g with shut := false }) }), .done (stOk [])) }

/-- STREAM_GATE_ENTRY (R234): the list starts, or goes to the entry at its position. -/
def execStreamGateEntry (g : Fin 64) (s : State) : Res :=
  .next (s.modNet (fun n => { n with sgates := vmod n.sgates g.val (fun x => x.reposition s.now) }))

/-! Admission (R206). -/

/-- The object that an admission command names, by kind: a fabric port, a class, or a queue. -/
def admissionNamed (p : Bytes) : Option Answer :=
  firstFail [between (byteAt p 0) 0 3 0, inRange (byteAt p 2) (if byteAt p 0 = 1 then 8 else 28) 2,
    need (decide (byteAt p 0 < 2) || decide (byteAt p 3 < 8)) (stBadParam 3)]

/-- Its owner: S0 for reserves and alpha, the port's owner for the caps. -/
def admissionOwner (s : State) (n : Nat) (p : Bytes) : Option Answer :=
  if byteAt p 0 < 2 then mustBeS0 n else mustOwnPort s n (byteAt p 2)

/-- The value is in range, and the reserves keep their sum (R206). -/
def admissionRange (s : State) (p : Bytes) : Option Answer :=
  let v := le p 4 4
  match byteAt p 0 with
  | 0 => need (decide (v ≤ 8192) && decide (Buffer.reserves (vset s.net.buffer.reserveShadow (byteAt p 2) v) ≤ 65536))
      (stBadParam 4)
  | 1 => between v 0 9 4
  | 2 => between v 16 131072 4
  | _ => between v 0 131072 4

/-- SCHED_SET_ADMISSION (R206, R239). -/
def cmdSchedSetAdmission : Cmd :=
  { op := 0x060F, lengthOk := lenIs 8
    check := fun s n p => firstFail [admissionNamed p, admissionOwner s n p, flag p 1, admissionRange s p,
      commitFree s (byteAt p 1) 6]
    run := fun s _ _ p =>
      let v := le p 4 4
      let i := byteAt p 2
      let s := match byteAt p 0 with
        | 0 => s.modNet (fun x => { x with buffer := { x.buffer with reserveShadow := vset x.buffer.reserveShadow i v } })
        | 1 => s.modNet (fun x => { x with buffer := { x.buffer with alphaShadow := vset x.buffer.alphaShadow i v } })
        | 2 => s.modQueue i (byteAt p 3) (fun q => { q with capsShadow := { q.capsShadow with cap := v } })
        | _ => s.modQueue i (byteAt p 3) (fun q => { q with capsShadow := { q.capsShadow with ycap := v } })
      (s.maybeCommit (byteAt p 1) 6, .done (stOk [])) }

/-- SCHED_GET_ADMISSION. -/
def cmdSchedGetAdmission : Cmd :=
  { op := 0x0610, lengthOk := lenIs 4
    check := fun s n p => firstFail [admissionNamed p,
      (if byteAt p 0 < 2 then mayReadDevice s n else mayReadPort s n (byteAt p 2)), flag p 1]
    run := fun s _ _ p =>
      let sh := byteAt p 1 == 1
      let b := s.net.buffer
      let i := byteAt p 2
      let c := if sh then (s.queue i (byteAt p 3)).capsShadow else (s.queue i (byteAt p 3)).caps
      let v := match byteAt p 0 with
        | 0 => vget (if sh then b.reserveShadow else b.reserve) i
        | 1 => vget (if sh then b.alphaShadow else b.alpha) i
        | 2 => c.cap
        | _ => c.ycap
      (s, .done (stOk (w32 v))) }

/-! Sampling (R235, R236). -/

/-- A record cleared at an instant. -/
def Sampling.clear (x : Sampling) (now : Nat) : Sampling :=
  { (default : Sampling) with
    enable := x.enable, period := x.period, depthScale := x.depthScale, sojournScale := x.sojournScale, start := now }

/-- The bin of a value at scale `s` (R235). -/
def binOf (s v : Nat) : Nat := if v < 2 ^ s then 0 else min 15 (Nat.log2 (v / 2 ^ s) + 1)

/-- A histogram with one more sample, saturating (R236). -/
def bump (v : Vector Nat 16) (k : Nat) : Vector Nat 16 := vmod v k (fun n => min (2 ^ 32 - 1) (n + 1))

/-- One sample of depth and sojourn (R235, R236). -/
def Sampling.add (x : Sampling) (depth sojourn : Nat) : Sampling :=
  let kd := binOf x.depthScale depth
  let ks := binOf x.sojournScale sojourn
  let first := x.samples == 0
  { x with
    samples := min (2 ^ 64 - 1) (x.samples + 1)
    depthMin := if first then depth else min x.depthMin depth
    depthMax := max x.depthMax depth
    sojournMin := if first then sojourn else min x.sojournMin sojourn
    sojournMax := max x.sojournMax sojourn
    saturated := x.saturated || decide (2 ^ 32 - 2 ≤ vget x.depthBins kd) || decide (2 ^ 32 - 2 ≤ vget x.sojournBins ks)
      || decide (2 ^ 64 - 2 ≤ x.samples)
    depthBins := bump x.depthBins kd
    sojournBins := bump x.sojournBins ks }

/-- The sojourn of a queue (R235): the age of the oldest waybill counted in q. -/
def State.sojourn (s : State) (p tc : Nat) : Nat :=
  match s.net.waybills.find? (fun w => w.egress == p && w.tc == tc) with
  | some w => s.now - w.since
  | none => 0

/-- The local clock has reached a multiple of PERIOD × 1,000 ns on this tick (R235, R275). -/
def State.sampleDue (s : State) (q : Queue) : Bool :=
  let period := max 1 (q.sampling.period * 1000)
  let before : Int := ((s.now * 2 ^ 32 + s.time.frac : Nat) - (s.time.incr.toNat : Int)) / 2 ^ 32
  s.now % period == 0 || decide (before / period < s.now / period)

/-- QUEUE_SAMPLE: a sampled queue enters its histograms. -/
def execQueueSample (p : Port) (tc : TC) (s : State) : Res :=
  let q := s.queue p tc
  .next (if q.sampling.enable && s.sampleDue q then
    s.modQueue p tc (fun q => { q with sampling := q.sampling.add q.depth (s.sojourn p tc) }) else s)

/-- SCHED_SET_SAMPLING (R235, R236, R238). -/
def cmdSchedSetSampling : Cmd :=
  { op := 0x0611, lengthOk := lenIs 12
    check := fun s n p => firstFail [queueNamed 25 p, mustOwn s n 1 (byteAt p 0), flag p 2,
      between (le p 4 4) 1 1000000 4, between (byteAt p 8) 0 31 8, between (byteAt p 9) 0 31 9]
    run := fun s _ _ p =>
      let set (x : Sampling) : Sampling :=
        { x with enable := byteAt p 2 == 1, period := le p 4 4, depthScale := byteAt p 8, sojournScale := byteAt p 9 }
      (s.modQueue (byteAt p 0) (byteAt p 1) (fun q => { q with sampling := (set q.sampling).clear s.now }),
       .done (stOk [])) }

/-- The histogram record (R236). -/
def Sampling.record (p tc : Nat) (x : Sampling) : Bytes :=
  w8 p ++ w8 tc ++ w16 (b2n x.enable + 2 * b2n x.saturated) ++ w32 x.period ++ w64 x.start ++ w64 x.samples
    ++ w32 x.depthMin ++ w32 x.depthMax ++ w32 x.sojournMin ++ w32 x.sojournMax ++ w8 x.depthScale ++ w8 x.sojournScale
    ++ [0, 0] ++ x.depthBins.toList.flatMap w32 ++ x.sojournBins.toList.flatMap w32 ++ zeros 4

/-- SCHED_READ_HIST (R236). -/
def cmdSchedReadHist : Cmd :=
  { op := 0x0612, lengthOk := lenIs 4
    check := fun s n p => firstFail [queueNamed 25 p,
      (if byteAt p 2 = 1 then mustOwn s n 1 (byteAt p 0) else mayRead s n 1 (byteAt p 0)), flag p 2]
    run := fun s _ _ p =>
      let r := (s.queue (byteAt p 0) (byteAt p 1)).sampling.record (byteAt p 0) (byteAt p 1)
      (doIf (byteAt p 2 == 1) (fun s => s.modQueue (byteAt p 0) (byteAt p 1)
        (fun q => { q with sampling := q.sampling.clear s.now })) s, .done (stOk r)) }

/-! Counters (R212, R237). -/

/-- How many objects a kind of SCHED counters has. -/
def schedKindLimit (k : Nat) : Nat := [224, 28, 1, 1024, 2048, 2048, 64].getD k 0

/-- A signed level as 8 bytes. -/
def i64 (x : Int) : Bytes := w64 (toTwos 64 x)

/-- The counters of one object in table order (R212, R237). -/
def State.schedCounters (s : State) (k i : Nat) : Bytes :=
  let b := s.net.buffer
  let pol (l : List PolCtr) : Bytes := counterBytes s (l.map (Ctr.pol i))
  match k with
  | 0 =>
    let q := vget s.net.queues i
    counterBytes s ([QCtr.admitted, .capDrop, .yellowDrop, .dtDrop, .linkDrop, .flushed, .linkAbort].map (Ctr.queue i))
      ++ w64 q.depth ++ w64 (max q.depth q.depthHigh)
      ++ counterBytes s ([QCtr.txFrames, .txBytes, .shaperHoldNs].map (Ctr.queue i))
  | 1 => w64 (vget b.usedRes i) ++ w64 (vget b.resMax i) ++ pol [.convoyLimit, .budgetDefer]
  | 2 => i64 b.free ++ i64 b.sharedMin ++ w64 b.headroomMax
  | 3 => pol [.greenFrames, .greenBytes, .yellowFrames, .yellowBytes, .redFrames]
  | 4 => pol [.idHits]
  | 5 => pol [.matched, .passed, .gateDrop, .sduDrop, .blockedDrop]
  | _ => pol [.closedDrop]

/-- The checks of a SCHED counter command: its first object, the owners of those it names, its count. -/
def schedCtrCheck (p : Bytes) (own : Nat → Bool) : Option Answer :=
  let k := schedKindLimit (byteAt p 0)
  firstFail [between (byteAt p 0) 0 6 0, inRange (le p 2 2) k 2,
    need ((objectsIn (le p 2 2) (le p 4 2) k).all own) stNotOwner, countIn (le p 2 2) (le p 4 2) 64 k 2 4]

/-- The owner resource of an object of a kind: its port, its meter, or S0. -/
def schedOwned (s : State) (n k i : Nat) : Bool :=
  if k = 0 then (if i / 8 < 25 then s.owns n 1 (i / 8) else n == 0)
  else if k = 1 then (if i < 25 then s.owns n 1 i else n == 0)
  else if k = 3 then s.owns n 10 i
  else n == 0

/-- The indices a counter command names. -/
def counterRange (p : Bytes) : List Nat := (List.range (le p 4 2)).map (fun k => le p 2 2 + k)

/-- SCHED_GET_COUNTERS: a read restarts DEPTH_MAX of its queues. -/
def cmdSchedGetCounters : Cmd :=
  { op := 0x0613, lengthOk := lenIs 8
    check := fun s n p => schedCtrCheck p (fun i => !(s.slot n).restricted || schedOwned s n (byteAt p 0) i)
    run := fun s _ _ p =>
      let out := (counterRange p).flatMap (s.schedCounters (byteAt p 0))
      let s := if byteAt p 0 = 0 then forAll (counterRange p) (fun i s =>
          s.modQueue (i / 8) (i % 8) (fun q => { q with depthHigh := q.depth })) s
        else s
      (s, .done (stOk out)) }

/-- The counters of one object go to 0; its marks restart from the present level (R212). -/
def State.clearSched (s : State) (k i : Nat) : State :=
  match k with
  | 0 => (s.clearCtrs (fun c => match c with
      | .queue j x => j == i && [QCtr.admitted, .capDrop, .yellowDrop, .dtDrop, .linkDrop, .flushed, .linkAbort, .txFrames,
          .txBytes, .shaperHoldNs].contains x
      | _ => false)).modQueue (i / 8) (i % 8) (fun q => { q with depthHigh := q.depth })
  | 1 => (s.clearCtrs (fun c => match c with
      | .pol j x => j == i && [PolCtr.convoyLimit, .budgetDefer].contains x
      | _ => false)).modNet (fun n => { n with buffer := { n.buffer with
        resMax := vset n.buffer.resMax i (vget n.buffer.usedRes i) } })
  | 2 => s.modNet (fun n => { n with buffer := { n.buffer with
      sharedMin := n.buffer.free, headroomMax := n.buffer.headroom } })
  | 3 => s.clearCtrs (fun c => match c with
      | .pol j x => j == i && [PolCtr.greenFrames, .greenBytes, .yellowFrames, .yellowBytes, .redFrames].contains x
      | _ => false)
  | 4 => s.clearCtrs (fun c => c == .pol i .idHits)
  | 5 => s.clearCtrs (fun c => match c with
      | .pol j x => j == i && [PolCtr.matched, .passed, .gateDrop, .sduDrop, .blockedDrop].contains x
      | _ => false)
  | _ => s.clearCtrs (fun c => c == .pol i .closedDrop)

/-- SCHED_CLEAR_COUNTERS. -/
def cmdSchedClearCounters : Cmd :=
  { op := 0x0614, lengthOk := lenIs 8
    check := fun s n p => schedCtrCheck p (schedOwned s n (byteAt p 0))
    run := fun s _ _ p => (forAll (counterRange p) (fun i s => s.clearSched (byteAt p 0) i) s, .done (stOk [])) }

/-- SCHED_GET_CAPS. -/
def execSchedGetCaps (slot : Slot) (tag : Half) (payload : Bytes) (s : State) : Res :=
  .next (penyen cmdSchedGetCaps slot.val tag payload s)

/-- SCHED_SET_QUEUE. -/
def execSchedSetQueue (slot : Slot) (tag : Half) (payload : Bytes) (s : State) : Res :=
  .next (penyen cmdSchedSetQueue slot.val tag payload s)

/-- SCHED_GET_QUEUE. -/
def execSchedGetQueue (slot : Slot) (tag : Half) (payload : Bytes) (s : State) : Res :=
  .next (penyen cmdSchedGetQueue slot.val tag payload s)

/-- SCHED_SET_SHAPER. -/
def execSchedSetShaper (slot : Slot) (tag : Half) (payload : Bytes) (s : State) : Res :=
  .next (penyen cmdSchedSetShaper slot.val tag payload s)

/-- SCHED_GET_SHAPER. -/
def execSchedGetShaper (slot : Slot) (tag : Half) (payload : Bytes) (s : State) : Res :=
  .next (penyen cmdSchedGetShaper slot.val tag payload s)

/-- SCHED_SET_METER. -/
def execSchedSetMeter (slot : Slot) (tag : Half) (payload : Bytes) (s : State) : Res :=
  .next (penyen cmdSchedSetMeter slot.val tag payload s)

/-- SCHED_GET_METER. -/
def execSchedGetMeter (slot : Slot) (tag : Half) (payload : Bytes) (s : State) : Res :=
  .next (penyen cmdSchedGetMeter slot.val tag payload s)

/-- SCHED_SET_STREAM_ID. -/
def execSchedSetStreamId (slot : Slot) (tag : Half) (payload : Bytes) (s : State) : Res :=
  .next (penyen cmdSchedSetStreamId slot.val tag payload s)

/-- SCHED_GET_STREAM_ID. -/
def execSchedGetStreamId (slot : Slot) (tag : Half) (payload : Bytes) (s : State) : Res :=
  .next (penyen cmdSchedGetStreamId slot.val tag payload s)

/-- SCHED_SWAP_STREAM_ID. -/
def execSchedSwapStreamId (slot : Slot) (tag : Half) (payload : Bytes) (s : State) : Res :=
  .next (penyen cmdSchedSwapStreamId slot.val tag payload s)

/-- SCHED_SET_FILTER. -/
def execSchedSetFilter (slot : Slot) (tag : Half) (payload : Bytes) (s : State) : Res :=
  .next (penyen cmdSchedSetFilter slot.val tag payload s)

/-- SCHED_GET_FILTER. -/
def execSchedGetFilter (slot : Slot) (tag : Half) (payload : Bytes) (s : State) : Res :=
  .next (penyen cmdSchedGetFilter slot.val tag payload s)

/-- SCHED_SET_STREAM_GATE. -/
def execSchedSetStreamGate (slot : Slot) (tag : Half) (payload : Bytes) (s : State) : Res :=
  .next (penyen cmdSchedSetStreamGate slot.val tag payload s)

/-- SCHED_GET_STREAM_GATE. -/
def execSchedGetStreamGate (slot : Slot) (tag : Half) (payload : Bytes) (s : State) : Res :=
  .next (penyen cmdSchedGetStreamGate slot.val tag payload s)

/-- SCHED_CLEAR_BLOCKED. -/
def execSchedClearBlocked (slot : Slot) (tag : Half) (payload : Bytes) (s : State) : Res :=
  .next (penyen cmdSchedClearBlocked slot.val tag payload s)

/-- SCHED_SET_ADMISSION. -/
def execSchedSetAdmission (slot : Slot) (tag : Half) (payload : Bytes) (s : State) : Res :=
  .next (penyen cmdSchedSetAdmission slot.val tag payload s)

/-- SCHED_GET_ADMISSION. -/
def execSchedGetAdmission (slot : Slot) (tag : Half) (payload : Bytes) (s : State) : Res :=
  .next (penyen cmdSchedGetAdmission slot.val tag payload s)

/-- SCHED_SET_SAMPLING. -/
def execSchedSetSampling (slot : Slot) (tag : Half) (payload : Bytes) (s : State) : Res :=
  .next (penyen cmdSchedSetSampling slot.val tag payload s)

/-- SCHED_READ_HIST. -/
def execSchedReadHist (slot : Slot) (tag : Half) (payload : Bytes) (s : State) : Res :=
  .next (penyen cmdSchedReadHist slot.val tag payload s)

/-- SCHED_GET_COUNTERS. -/
def execSchedGetCounters (slot : Slot) (tag : Half) (payload : Bytes) (s : State) : Res :=
  .next (penyen cmdSchedGetCounters slot.val tag payload s)

/-- SCHED_CLEAR_COUNTERS. -/
def execSchedClearCounters (slot : Slot) (tag : Half) (payload : Bytes) (s : State) : Res :=
  .next (penyen cmdSchedClearCounters slot.val tag payload s)

end Sys2Proof.Machine
end

