-- ==== Sys2Proof/Machine/Dispatch.lean ====
section
/-! DEFINITION. One arm per command, each one direct call of its meaning. -/

namespace Sys2Proof.Machine

/-- The effect of a command on everything but the queue. -/
def exec (i : Instr) (s : State) : Host.Outcome State Fault Refusal :=
  match i with
  | .registerWrite t addr data => Sys2Proof.Machine.execRegisterWrite t addr data s
  | .aliasWrite t addr data => Sys2Proof.Machine.execAliasWrite t addr data s
  | .evuCauseWrite t n v => Sys2Proof.Machine.execEvuCauseWrite t n v s
  | .evuMaskWrite t n v => Sys2Proof.Machine.execEvuMaskWrite t n v s
  | .holdoffExpiry n v => Sys2Proof.Machine.execHoldoffExpiry n v s
  | .evuBootEvtWrite t v => Sys2Proof.Machine.execEvuBootEvtWrite t v s
  | .cmuCommit t v => Sys2Proof.Machine.execCmuCommit t v s
  | .commitApply => Sys2Proof.Machine.execCommitApply s
  | .cmuCommitAtWrite t v => Sys2Proof.Machine.execCmuCommitAtWrite t v s
  | .commitArm t v => Sys2Proof.Machine.execCommitArm t v s
  | .commitCancel t v => Sys2Proof.Machine.execCommitCancel t v s
  | .timedCommitFire => Sys2Proof.Machine.execTimedCommitFire s
  | .spiWrite p addr words spare => Sys2Proof.Machine.execSpiWrite p addr words spare s
  | .spiRead p addr count => Sys2Proof.Machine.execSpiRead p addr count s
  | .spiBadCommand p cmd addr => Sys2Proof.Machine.execSpiBadCommand p cmd addr s
  | .mbxReqHeadWrite t n v => Sys2Proof.Machine.execMbxReqHeadWrite t n v s
  | .requestTake n => Sys2Proof.Machine.execRequestTake n s
  | .responseWrite n => Sys2Proof.Machine.execResponseWrite n s
  | .mbxRspTailWrite t n v => Sys2Proof.Machine.execMbxRspTailWrite t n v s
  | .doneEvent n => Sys2Proof.Machine.execDoneEvent n s
  | .mbxEvtTailWrite t n v => Sys2Proof.Machine.execMbxEvtTailWrite t n v s
  | .envelopeReceive p dst src vid body => Sys2Proof.Machine.execEnvelopeReceive p dst src vid body s
  | .landingBufferWrite t off data => Sys2Proof.Machine.execLandingBufferWrite t off data s
  | .bootXferGo t v => Sys2Proof.Machine.execBootXferGo t v s
  | .chunkDone => Sys2Proof.Machine.execChunkDone s
  | .bootOwnerTimeout => Sys2Proof.Machine.execBootOwnerTimeout s
  | .verifyDone => Sys2Proof.Machine.execVerifyDone s
  | .firmwareStart => Sys2Proof.Machine.execFirmwareStart s
  | .dieStart straps fuses => Sys2Proof.Machine.execDieStart straps fuses s
  | .sealCheckDone disturbed => Sys2Proof.Machine.execSealCheckDone disturbed s
  | .resetNAssert => Sys2Proof.Machine.execResetNAssert s
  | .resetNRelease => Sys2Proof.Machine.execResetNRelease s
  | .powerOnReset above => Sys2Proof.Machine.execPowerOnReset above s
  | .watchdogExpiry => Sys2Proof.Machine.execWatchdogExpiry s
  | .railFault r => Sys2Proof.Machine.execRailFault r s
  | .railGood r => Sys2Proof.Machine.execRailGood r s
  | .thermalShutdown => Sys2Proof.Machine.execThermalShutdown s
  | .thermalRecovery => Sys2Proof.Machine.execThermalRecovery s
  | .jtagUnlockToken token => Sys2Proof.Machine.execJtagUnlockToken token s
  | .debuggerWrite e action => Sys2Proof.Machine.execDebuggerWrite e action s
  | .ringCtrlEnable t n r v => Sys2Proof.Machine.execRingCtrlEnable t n r v s
  | .ringCtrlDisable t n r v => Sys2Proof.Machine.execRingCtrlDisable t n r v s
  | .ringTailWrite t n r v descs => Sys2Proof.Machine.execRingTailWrite t n r v descs s
  | .ringFetchRetry n r descs => Sys2Proof.Machine.execRingFetchRetry n r descs s
  | .txDescriptorReturn n r => Sys2Proof.Machine.execTxDescriptorReturn n r s
  | .canTxDescriptorReturn n r => Sys2Proof.Machine.execCanTxDescriptorReturn n r s
  | .rxRingDeliver n wb descs => Sys2Proof.Machine.execRxRingDeliver n wb descs s
  | .frameStart p preempt => Sys2Proof.Machine.execFrameStart p preempt s
  | .headerHandover p bytes => Sys2Proof.Machine.execHeaderHandover p bytes s
  | .deepRulePass p bytes => Sys2Proof.Machine.execDeepRulePass p bytes s
  | .oversizeRefuse p bytes => Sys2Proof.Machine.execOversizeRefuse p bytes s
  | .rxError p bytes assembly => Sys2Proof.Machine.execRxError p bytes assembly s
  | .frameEnd p bytes fcsOk icvOk fragments => Sys2Proof.Machine.execFrameEnd p bytes fcsOk icvOk fragments s
  | .confirmation p => Sys2Proof.Machine.execConfirmation p s
  | .cellTimeMatch => Sys2Proof.Machine.execCellTimeMatch s
  | .egressChoice p startPs => Sys2Proof.Machine.execEgressChoice p startPs s
  | .txComplete p => Sys2Proof.Machine.execTxComplete p s
  | .shaperRefill => Sys2Proof.Machine.execShaperRefill s
  | .gateEntryBoundary p => Sys2Proof.Machine.execGateEntryBoundary p s
  | .holdAssert p => Sys2Proof.Machine.execHoldAssert p s
  | .gateConfigChange p => Sys2Proof.Machine.execGateConfigChange p s
  | .preemptVerifyResponse p => Sys2Proof.Machine.execPreemptVerifyResponse p s
  | .preemptVerifyTimeout p => Sys2Proof.Machine.execPreemptVerifyTimeout p s
  | .linkDown p => Sys2Proof.Machine.execLinkDown p s
  | .linkUp p sqi => Sys2Proof.Machine.execLinkUp p sqi s
  | .linkHoldExpiry p => Sys2Proof.Machine.execLinkHoldExpiry p s
  | .fdbAgeSweep => Sys2Proof.Machine.execFdbAgeSweep s
  | .conversationSweep => Sys2Proof.Machine.execConversationSweep s
  | .streamGateEntry g => Sys2Proof.Machine.execStreamGateEntry g s
  | .queueSample p tc => Sys2Proof.Machine.execQueueSample p tc s
  | .generationRetired => Sys2Proof.Machine.execGenerationRetired s
  | .timedSwapFire => Sys2Proof.Machine.execTimedSwapFire s
  | .frerResetTimer key => Sys2Proof.Machine.execFrerResetTimer key s
  | .healthReport => Sys2Proof.Machine.execHealthReport s
  | .probeSend p => Sys2Proof.Machine.execProbeSend p s
  | .probeReceive p flags seq => Sys2Proof.Machine.execProbeReceive p flags seq s
  | .probeMissTimeout p => Sys2Proof.Machine.execProbeMissTimeout p s
  | .sqiHoldExpiry p => Sys2Proof.Machine.execSqiHoldExpiry p s
  | .wtrExpiry => Sys2Proof.Machine.execWtrExpiry s
  | .tuIncrIntWrite t v => Sys2Proof.Machine.execTuIncrIntWrite t v s
  | .tuStepHiWrite t v => Sys2Proof.Machine.execTuStepHiWrite t v s
  | .tuNowLoRead t => Sys2Proof.Machine.execTuNowLoRead t s
  | .alarmFire n => Sys2Proof.Machine.execAlarmFire n s
  | .timeIoEdge n falling => Sys2Proof.Machine.execTimeIoEdge n falling s
  | .captureFilterEnd n high => Sys2Proof.Machine.execCaptureFilterEnd n high s
  | .capPopWrite t n v => Sys2Proof.Machine.execCapPopWrite t n v s
  | .timeIoPulseEdge n => Sys2Proof.Machine.execTimeIoPulseEdge n s
  | .syncReceive inst gm domain rate => Sys2Proof.Machine.execSyncReceive inst gm domain rate s
  | .syncTimeout inst => Sys2Proof.Machine.execSyncTimeout inst s
  | .syncTransmit inst p => Sys2Proof.Machine.execSyncTransmit inst p s
  | .pdelayExchange p delay lost => Sys2Proof.Machine.execPdelayExchange p delay lost s
  | .canFrameValid c id format af sdt vcid data sof => Sys2Proof.Machine.execCanFrameValid c id format af sdt vcid data sof s
  | .canProtocolException c xl => Sys2Proof.Machine.execCanProtocolException c xl s
  | .canBusError c kind primary => Sys2Proof.Machine.execCanBusError c kind primary s
  | .canAttemptEnd c outcome stamp => Sys2Proof.Machine.execCanAttemptEnd c outcome stamp s
  | .canSlotLoad c arb => Sys2Proof.Machine.execCanSlotLoad c arb s
  | .canLaunchReached c => Sys2Proof.Machine.execCanLaunchReached c s
  | .canLifetimeExpiry c => Sys2Proof.Machine.execCanLifetimeExpiry c s
  | .canModeApply c => Sys2Proof.Machine.execCanModeApply c s
  | .canRecoveryDone c => Sys2Proof.Machine.execCanRecoveryDone c s
  | .canDetectDwellEnd c => Sys2Proof.Machine.execCanDetectDwellEnd c s
  | .dominantTimeout c own => Sys2Proof.Machine.execDominantTimeout c own s
  | .vcc5Change good => Sys2Proof.Machine.execVcc5Change good s
  | .linScheduleEntry c => Sys2Proof.Machine.execLinScheduleEntry c s
  | .linHeaderReceived c id syncOk => Sys2Proof.Machine.execLinHeaderReceived c id syncOk s
  | .linFrameReceived c id data stamp error => Sys2Proof.Machine.execLinFrameReceived c id data stamp error s
  | .linResponseTimeout c partly => Sys2Proof.Machine.execLinResponseTimeout c partly s
  | .linIdleSleep c => Sys2Proof.Machine.execLinIdleSleep c s
  | .linWakeDetect c => Sys2Proof.Machine.execLinWakeDetect c s
  | .linWakeResume c => Sys2Proof.Machine.execLinWakeResume c s
  | .uartMessageEnd c data stamp bad => Sys2Proof.Machine.execUartMessageEnd c data stamp bad s
  | .uartAccessWaitEnd c => Sys2Proof.Machine.execUartAccessWaitEnd c s
  | .uartTxEnd c => Sys2Proof.Machine.execUartTxEnd c s
  | .uartEchoCollision c => Sys2Proof.Machine.execUartEchoCollision c s
  | .uartLifetimeExpiry c => Sys2Proof.Machine.execUartLifetimeExpiry c s
  | .relayJobStart e snapshot => Sys2Proof.Machine.execRelayJobStart e snapshot s
  | .checkRunEnd e source strikes => Sys2Proof.Machine.execCheckRunEnd e source strikes s
  | .escortedTimeout e source => Sys2Proof.Machine.execEscortedTimeout e source s
  | .selfTestEnd e passed => Sys2Proof.Machine.execSelfTestEnd e passed s
  | .tunnelWaitExpiry t => Sys2Proof.Machine.execTunnelWaitExpiry t s
  | .tunnelFrameReceive bytes stamp => Sys2Proof.Machine.execTunnelFrameReceive bytes stamp s
  | .rngHealthFail test => Sys2Proof.Machine.execRngHealthFail test s
  | .rngReseed => Sys2Proof.Machine.execRngReseed s
  | .mkaFrameReceive p action => Sys2Proof.Machine.execMkaFrameReceive p action s
  | .cdiAcquire t => Sys2Proof.Machine.execCdiAcquire t s
  | .cdiRelease t => Sys2Proof.Machine.execCdiRelease t s
  | .cdiKeyselWrite t v => Sys2Proof.Machine.execCdiKeyselWrite t v s
  | .cdiGo t v => Sys2Proof.Machine.execCdiGo t v s
  | .cdiAbort t v => Sys2Proof.Machine.execCdiAbort t v s
  | .cdiBlockDone => Sys2Proof.Machine.execCdiBlockDone s
  | .remaskPass => Sys2Proof.Machine.execRemaskPass s
  | .grantTick => Sys2Proof.Machine.execGrantTick s
  | .guardCheck => Sys2Proof.Machine.execGuardCheck s
  | .domainOffTimer d => Sys2Proof.Machine.execDomainOffTimer d s
  | .domainUp d => Sys2Proof.Machine.execDomainUp d s
  | .memTestDone failed fail => Sys2Proof.Machine.execMemTestDone failed fail s
  | .boardBudgetBoundary => Sys2Proof.Machine.execBoardBudgetBoundary s
  | .inrushEnd k current => Sys2Proof.Machine.execInrushEnd k current s
  | .podlFault k switch => Sys2Proof.Machine.execPodlFault k switch s
  | .podlFaultTimer k under => Sys2Proof.Machine.execPodlFaultTimer k under s
  | .trainingStart p => Sys2Proof.Machine.execTrainingStart p s
  | .trainingDone p ok sqi => Sys2Proof.Machine.execTrainingDone p ok sqi s
  | .trainGrantRetry p => Sys2Proof.Machine.execTrainGrantRetry p s
  | .coeffStore p => Sys2Proof.Machine.execCoeffStore p s
  | .sqiSample p sqi => Sys2Proof.Machine.execSqiSample p sqi s
  | .tc10SleepRequest p => Sys2Proof.Machine.execTc10SleepRequest p s
  | .tc10WakeDetect p => Sys2Proof.Machine.execTc10WakeDetect p s
  | .plcaBeaconTimeout p => Sys2Proof.Machine.execPlcaBeaconTimeout p s
  | .gpioEdge pin level => Sys2Proof.Machine.execGpioEdge pin level s
  | .gpioDebounceEnd pin => Sys2Proof.Machine.execGpioDebounceEnd pin s
  | .wakePinEvent pin level => Sys2Proof.Machine.execWakePinEvent pin level s
  | .hostWake path => Sys2Proof.Machine.execHostWake path s
  | .canWakePattern c => Sys2Proof.Machine.execCanWakePattern c s
  | .canWakeFrame c id dlc data => Sys2Proof.Machine.execCanWakeFrame c id dlc data s
  | .wakeDecoderIdle c => Sys2Proof.Machine.execWakeDecoderIdle c s
  | .nmRepeat c => Sys2Proof.Machine.execNmRepeat c s
  | .segmentQuiet n => Sys2Proof.Machine.execSegmentQuiet n s
  | .sleepTimeout => Sys2Proof.Machine.execSleepTimeout s
  | .prepareDone sram => Sys2Proof.Machine.execPrepareDone sram s
  | .inh0HoldEnd => Sys2Proof.Machine.execInh0HoldEnd s
  | .droverLoop load overran => Sys2Proof.Machine.execDroverLoop load overran s
  | .measurementSample x => Sys2Proof.Machine.execMeasurementSample x s
  | .lldpReceive p chassis portId ttl => Sys2Proof.Machine.execLldpReceive p chassis portId ttl s
  | .lldpTtlExpiry p => Sys2Proof.Machine.execLldpTtlExpiry p s
  | .sysGetCaps slot tag payload => Sys2Proof.Machine.execSysGetCaps slot tag payload s
  | .sysGetInfo slot tag payload => Sys2Proof.Machine.execSysGetInfo slot tag payload s
  | .sysPing slot tag payload => Sys2Proof.Machine.execSysPing slot tag payload s
  | .sysReset slot tag payload => Sys2Proof.Machine.execSysReset slot tag payload s
  | .sysGpioConfig slot tag payload => Sys2Proof.Machine.execSysGpioConfig slot tag payload s
  | .sysGpioWrite slot tag payload => Sys2Proof.Machine.execSysGpioWrite slot tag payload s
  | .sysGpioRead slot tag payload => Sys2Proof.Machine.execSysGpioRead slot tag payload s
  | .sysI2cXfer slot tag payload => Sys2Proof.Machine.execSysI2cXfer slot tag payload s
  | .sysMdioAccess slot tag payload => Sys2Proof.Machine.execSysMdioAccess slot tag payload s
  | .slotGetCaps slot tag payload => Sys2Proof.Machine.execSlotGetCaps slot tag payload s
  | .slotOpen slot tag payload => Sys2Proof.Machine.execSlotOpen slot tag payload s
  | .slotClose slot tag payload => Sys2Proof.Machine.execSlotClose slot tag payload s
  | .slotBind slot tag payload => Sys2Proof.Machine.execSlotBind slot tag payload s
  | .slotUnbind slot tag payload => Sys2Proof.Machine.execSlotUnbind slot tag payload s
  | .slotGrant slot tag payload => Sys2Proof.Machine.execSlotGrant slot tag payload s
  | .slotRevoke slot tag payload => Sys2Proof.Machine.execSlotRevoke slot tag payload s
  | .slotGetState slot tag payload => Sys2Proof.Machine.execSlotGetState slot tag payload s
  | .slotSetReadPolicy slot tag payload => Sys2Proof.Machine.execSlotSetReadPolicy slot tag payload s
  | .slotFence slot tag payload => Sys2Proof.Machine.execSlotFence slot tag payload s
  | .slotUnfence slot tag payload => Sys2Proof.Machine.execSlotUnfence slot tag payload s
  | .slotGetOwner slot tag payload => Sys2Proof.Machine.execSlotGetOwner slot tag payload s
  | .slotGetStats slot tag payload => Sys2Proof.Machine.execSlotGetStats slot tag payload s
  | .slotSetWritePermit slot tag payload => Sys2Proof.Machine.execSlotSetWritePermit slot tag payload s
  | .slotRekey slot tag payload => Sys2Proof.Machine.execSlotRekey slot tag payload s
  | .diagGetCaps slot tag payload => Sys2Proof.Machine.execDiagGetCaps slot tag payload s
  | .diagGetBootRecord slot tag payload => Sys2Proof.Machine.execDiagGetBootRecord slot tag payload s
  | .diagAdvanceSecver slot tag payload => Sys2Proof.Machine.execDiagAdvanceSecver slot tag payload s
  | .diagRevokeVendorKey slot tag payload => Sys2Proof.Machine.execDiagRevokeVendorKey slot tag payload s
  | .diagLcsTransition slot tag payload => Sys2Proof.Machine.execDiagLcsTransition slot tag payload s
  | .diagUnlockChallenge slot tag payload => Sys2Proof.Machine.execDiagUnlockChallenge slot tag payload s
  | .diagUnlockResponse slot tag payload => Sys2Proof.Machine.execDiagUnlockResponse slot tag payload s
  | .diagRelock slot tag payload => Sys2Proof.Machine.execDiagRelock slot tag payload s
  | .portGetCaps slot tag payload => Sys2Proof.Machine.execPortGetCaps slot tag payload s
  | .portSetMode slot tag payload => Sys2Proof.Machine.execPortSetMode slot tag payload s
  | .portGetMode slot tag payload => Sys2Proof.Machine.execPortGetMode slot tag payload s
  | .portGetStatus slot tag payload => Sys2Proof.Machine.execPortGetStatus slot tag payload s
  | .portForgetCoeffs slot tag payload => Sys2Proof.Machine.execPortForgetCoeffs slot tag payload s
  | .portSetWake slot tag payload => Sys2Proof.Machine.execPortSetWake slot tag payload s
  | .portSendWake slot tag payload => Sys2Proof.Machine.execPortSendWake slot tag payload s
  | .portSetPodl slot tag payload => Sys2Proof.Machine.execPortSetPodl slot tag payload s
  | .portPodlControl slot tag payload => Sys2Proof.Machine.execPortPodlControl slot tag payload s
  | .portGetPodl slot tag payload => Sys2Proof.Machine.execPortGetPodl slot tag payload s
  | .portGetPhyCounters slot tag payload => Sys2Proof.Machine.execPortGetPhyCounters slot tag payload s
  | .portClearPhyCounters slot tag payload => Sys2Proof.Machine.execPortClearPhyCounters slot tag payload s
  | .portSetFwdConfig slot tag payload => Sys2Proof.Machine.execPortSetFwdConfig slot tag payload s
  | .portGetFwdConfig slot tag payload => Sys2Proof.Machine.execPortGetFwdConfig slot tag payload s
  | .portGetCounters slot tag payload => Sys2Proof.Machine.execPortGetCounters slot tag payload s
  | .portClearCounters slot tag payload => Sys2Proof.Machine.execPortClearCounters slot tag payload s
  | .portGetPipelineStats slot tag payload => Sys2Proof.Machine.execPortGetPipelineStats slot tag payload s
  | .fdbGetCaps slot tag payload => Sys2Proof.Machine.execFdbGetCaps slot tag payload s
  | .fdbAdd slot tag payload => Sys2Proof.Machine.execFdbAdd slot tag payload s
  | .fdbDelete slot tag payload => Sys2Proof.Machine.execFdbDelete slot tag payload s
  | .fdbLookup slot tag payload => Sys2Proof.Machine.execFdbLookup slot tag payload s
  | .fdbFlush slot tag payload => Sys2Proof.Machine.execFdbFlush slot tag payload s
  | .fdbSetAging slot tag payload => Sys2Proof.Machine.execFdbSetAging slot tag payload s
  | .fdbRead slot tag payload => Sys2Proof.Machine.execFdbRead slot tag payload s
  | .fdbSetVlan slot tag payload => Sys2Proof.Machine.execFdbSetVlan slot tag payload s
  | .fdbDeleteVlan slot tag payload => Sys2Proof.Machine.execFdbDeleteVlan slot tag payload s
  | .fdbGetVlan slot tag payload => Sys2Proof.Machine.execFdbGetVlan slot tag payload s
  | .custGetCaps slot tag payload => Sys2Proof.Machine.execCustGetCaps slot tag payload s
  | .custSetZone slot tag payload => Sys2Proof.Machine.execCustSetZone slot tag payload s
  | .custSetZoneMap slot tag payload => Sys2Proof.Machine.execCustSetZoneMap slot tag payload s
  | .custSetPair slot tag payload => Sys2Proof.Machine.execCustSetPair slot tag payload s
  | .custSetRule slot tag payload => Sys2Proof.Machine.execCustSetRule slot tag payload s
  | .custClearRules slot tag payload => Sys2Proof.Machine.execCustClearRules slot tag payload s
  | .custGetRule slot tag payload => Sys2Proof.Machine.execCustGetRule slot tag payload s
  | .custSetCanRule slot tag payload => Sys2Proof.Machine.execCustSetCanRule slot tag payload s
  | .custGetCanRule slot tag payload => Sys2Proof.Machine.execCustGetCanRule slot tag payload s
  | .custSetCanDefault slot tag payload => Sys2Proof.Machine.execCustSetCanDefault slot tag payload s
  | .custSwap slot tag payload => Sys2Proof.Machine.execCustSwap slot tag payload s
  | .custGetGen slot tag payload => Sys2Proof.Machine.execCustGetGen slot tag payload s
  | .custSetConvTimeouts slot tag payload => Sys2Proof.Machine.execCustSetConvTimeouts slot tag payload s
  | .custFlushConv slot tag payload => Sys2Proof.Machine.execCustFlushConv slot tag payload s
  | .custReadConv slot tag payload => Sys2Proof.Machine.execCustReadConv slot tag payload s
  | .custQuarantine slot tag payload => Sys2Proof.Machine.execCustQuarantine slot tag payload s
  | .custGetCounters slot tag payload => Sys2Proof.Machine.execCustGetCounters slot tag payload s
  | .custClearCounters slot tag payload => Sys2Proof.Machine.execCustClearCounters slot tag payload s
  | .schedGetCaps slot tag payload => Sys2Proof.Machine.execSchedGetCaps slot tag payload s
  | .schedSetQueue slot tag payload => Sys2Proof.Machine.execSchedSetQueue slot tag payload s
  | .schedGetQueue slot tag payload => Sys2Proof.Machine.execSchedGetQueue slot tag payload s
  | .schedSetShaper slot tag payload => Sys2Proof.Machine.execSchedSetShaper slot tag payload s
  | .schedGetShaper slot tag payload => Sys2Proof.Machine.execSchedGetShaper slot tag payload s
  | .schedSetMeter slot tag payload => Sys2Proof.Machine.execSchedSetMeter slot tag payload s
  | .schedGetMeter slot tag payload => Sys2Proof.Machine.execSchedGetMeter slot tag payload s
  | .schedSetStreamId slot tag payload => Sys2Proof.Machine.execSchedSetStreamId slot tag payload s
  | .schedGetStreamId slot tag payload => Sys2Proof.Machine.execSchedGetStreamId slot tag payload s
  | .schedSwapStreamId slot tag payload => Sys2Proof.Machine.execSchedSwapStreamId slot tag payload s
  | .schedSetFilter slot tag payload => Sys2Proof.Machine.execSchedSetFilter slot tag payload s
  | .schedGetFilter slot tag payload => Sys2Proof.Machine.execSchedGetFilter slot tag payload s
  | .schedSetStreamGate slot tag payload => Sys2Proof.Machine.execSchedSetStreamGate slot tag payload s
  | .schedGetStreamGate slot tag payload => Sys2Proof.Machine.execSchedGetStreamGate slot tag payload s
  | .schedClearBlocked slot tag payload => Sys2Proof.Machine.execSchedClearBlocked slot tag payload s
  | .schedSetAdmission slot tag payload => Sys2Proof.Machine.execSchedSetAdmission slot tag payload s
  | .schedGetAdmission slot tag payload => Sys2Proof.Machine.execSchedGetAdmission slot tag payload s
  | .schedSetSampling slot tag payload => Sys2Proof.Machine.execSchedSetSampling slot tag payload s
  | .schedReadHist slot tag payload => Sys2Proof.Machine.execSchedReadHist slot tag payload s
  | .schedGetCounters slot tag payload => Sys2Proof.Machine.execSchedGetCounters slot tag payload s
  | .schedClearCounters slot tag payload => Sys2Proof.Machine.execSchedClearCounters slot tag payload s
  | .gateGetCaps slot tag payload => Sys2Proof.Machine.execGateGetCaps slot tag payload s
  | .gateSetAdminHeader slot tag payload => Sys2Proof.Machine.execGateSetAdminHeader slot tag payload s
  | .gateSetAdminEntries slot tag payload => Sys2Proof.Machine.execGateSetAdminEntries slot tag payload s
  | .gateGetList slot tag payload => Sys2Proof.Machine.execGateGetList slot tag payload s
  | .gateCommitAdmin slot tag payload => Sys2Proof.Machine.execGateCommitAdmin slot tag payload s
  | .gateCancelChange slot tag payload => Sys2Proof.Machine.execGateCancelChange slot tag payload s
  | .gateGetStatus slot tag payload => Sys2Proof.Machine.execGateGetStatus slot tag payload s
  | .gateSetQueueTiming slot tag payload => Sys2Proof.Machine.execGateSetQueueTiming slot tag payload s
  | .gateGetQueueTiming slot tag payload => Sys2Proof.Machine.execGateGetQueueTiming slot tag payload s
  | .gateSetPreempt slot tag payload => Sys2Proof.Machine.execGateSetPreempt slot tag payload s
  | .gateGetCounters slot tag payload => Sys2Proof.Machine.execGateGetCounters slot tag payload s
  | .gateClearCounters slot tag payload => Sys2Proof.Machine.execGateClearCounters slot tag payload s
  | .timeGetCaps slot tag payload => Sys2Proof.Machine.execTimeGetCaps slot tag payload s
  | .timeGetNow slot tag payload => Sys2Proof.Machine.execTimeGetNow slot tag payload s
  | .timeSetSource slot tag payload => Sys2Proof.Machine.execTimeSetSource slot tag payload s
  | .timeNewEpoch slot tag payload => Sys2Proof.Machine.execTimeNewEpoch slot tag payload s
  | .timeStep slot tag payload => Sys2Proof.Machine.execTimeStep slot tag payload s
  | .timeSetRate slot tag payload => Sys2Proof.Machine.execTimeSetRate slot tag payload s
  | .timeSetDomain slot tag payload => Sys2Proof.Machine.execTimeSetDomain slot tag payload s
  | .timeEnableDomain slot tag payload => Sys2Proof.Machine.execTimeEnableDomain slot tag payload s
  | .timeGetDomain slot tag payload => Sys2Proof.Machine.execTimeGetDomain slot tag payload s
  | .timeSetPort slot tag payload => Sys2Proof.Machine.execTimeSetPort slot tag payload s
  | .timeSetAlarm slot tag payload => Sys2Proof.Machine.execTimeSetAlarm slot tag payload s
  | .timeSetIo slot tag payload => Sys2Proof.Machine.execTimeSetIo slot tag payload s
  | .timeReadCaptures slot tag payload => Sys2Proof.Machine.execTimeReadCaptures slot tag payload s
  | .timeGetCounters slot tag payload => Sys2Proof.Machine.execTimeGetCounters slot tag payload s
  | .redGetCaps slot tag payload => Sys2Proof.Machine.execRedGetCaps slot tag payload s
  | .redSetGenerator slot tag payload => Sys2Proof.Machine.execRedSetGenerator slot tag payload s
  | .redSetRecovery slot tag payload => Sys2Proof.Machine.execRedSetRecovery slot tag payload s
  | .redEnable slot tag payload => Sys2Proof.Machine.execRedEnable slot tag payload s
  | .redGetInstance slot tag payload => Sys2Proof.Machine.execRedGetInstance slot tag payload s
  | .redSetProtect slot tag payload => Sys2Proof.Machine.execRedSetProtect slot tag payload s
  | .redForce slot tag payload => Sys2Proof.Machine.execRedForce slot tag payload s
  | .redGetProtect slot tag payload => Sys2Proof.Machine.execRedGetProtect slot tag payload s
  | .redSubscribe slot tag payload => Sys2Proof.Machine.execRedSubscribe slot tag payload s
  | .redGetCounters slot tag payload => Sys2Proof.Machine.execRedGetCounters slot tag payload s
  | .redClearCounters slot tag payload => Sys2Proof.Machine.execRedClearCounters slot tag payload s
  | .canGetCaps slot tag payload => Sys2Proof.Machine.execCanGetCaps slot tag payload s
  | .canSetConfig slot tag payload => Sys2Proof.Machine.execCanSetConfig slot tag payload s
  | .canGetConfig slot tag payload => Sys2Proof.Machine.execCanGetConfig slot tag payload s
  | .canSetMode slot tag payload => Sys2Proof.Machine.execCanSetMode slot tag payload s
  | .canGetStatus slot tag payload => Sys2Proof.Machine.execCanGetStatus slot tag payload s
  | .canSetQueue slot tag payload => Sys2Proof.Machine.execCanSetQueue slot tag payload s
  | .canSetFilter slot tag payload => Sys2Proof.Machine.execCanSetFilter slot tag payload s
  | .canTransmit slot tag payload => Sys2Proof.Machine.execCanTransmit slot tag payload s
  | .canRxRead slot tag payload => Sys2Proof.Machine.execCanRxRead slot tag payload s
  | .canRxRelease slot tag payload => Sys2Proof.Machine.execCanRxRelease slot tag payload s
  | .canRecover slot tag payload => Sys2Proof.Machine.execCanRecover slot tag payload s
  | .canFlushQueue slot tag payload => Sys2Proof.Machine.execCanFlushQueue slot tag payload s
  | .canDetectRate slot tag payload => Sys2Proof.Machine.execCanDetectRate slot tag payload s
  | .canGetCounters slot tag payload => Sys2Proof.Machine.execCanGetCounters slot tag payload s
  | .canClearCounters slot tag payload => Sys2Proof.Machine.execCanClearCounters slot tag payload s
  | .linGetCaps slot tag payload => Sys2Proof.Machine.execLinGetCaps slot tag payload s
  | .linSetConfig slot tag payload => Sys2Proof.Machine.execLinSetConfig slot tag payload s
  | .linSetMode slot tag payload => Sys2Proof.Machine.execLinSetMode slot tag payload s
  | .linSetFrame slot tag payload => Sys2Proof.Machine.execLinSetFrame slot tag payload s
  | .linSetSchedule slot tag payload => Sys2Proof.Machine.execLinSetSchedule slot tag payload s
  | .linSelectSchedule slot tag payload => Sys2Proof.Machine.execLinSelectSchedule slot tag payload s
  | .linSetPublish slot tag payload => Sys2Proof.Machine.execLinSetPublish slot tag payload s
  | .linSendWake slot tag payload => Sys2Proof.Machine.execLinSendWake slot tag payload s
  | .linGetStatus slot tag payload => Sys2Proof.Machine.execLinGetStatus slot tag payload s
  | .serSetConfig slot tag payload => Sys2Proof.Machine.execSerSetConfig slot tag payload s
  | .serSetMode slot tag payload => Sys2Proof.Machine.execSerSetMode slot tag payload s
  | .serTransmit slot tag payload => Sys2Proof.Machine.execSerTransmit slot tag payload s
  | .serGetStatus slot tag payload => Sys2Proof.Machine.execSerGetStatus slot tag payload s
  | .serRxRead slot tag payload => Sys2Proof.Machine.execSerRxRead slot tag payload s
  | .serRxRelease slot tag payload => Sys2Proof.Machine.execSerRxRelease slot tag payload s
  | .serGetCounters slot tag payload => Sys2Proof.Machine.execSerGetCounters slot tag payload s
  | .serClearCounters slot tag payload => Sys2Proof.Machine.execSerClearCounters slot tag payload s
  | .routeGetCaps slot tag payload => Sys2Proof.Machine.execRouteGetCaps slot tag payload s
  | .routeSetRule slot tag payload => Sys2Proof.Machine.execRouteSetRule slot tag payload s
  | .routeClear slot tag payload => Sys2Proof.Machine.execRouteClear slot tag payload s
  | .routeGetRule slot tag payload => Sys2Proof.Machine.execRouteGetRule slot tag payload s
  | .routeSwap slot tag payload => Sys2Proof.Machine.execRouteSwap slot tag payload s
  | .routeGetGen slot tag payload => Sys2Proof.Machine.execRouteGetGen slot tag payload s
  | .routeSetTunnel slot tag payload => Sys2Proof.Machine.execRouteSetTunnel slot tag payload s
  | .routeGetTunnel slot tag payload => Sys2Proof.Machine.execRouteGetTunnel slot tag payload s
  | .routeSetEngine slot tag payload => Sys2Proof.Machine.execRouteSetEngine slot tag payload s
  | .routeGetEngines slot tag payload => Sys2Proof.Machine.execRouteGetEngines slot tag payload s
  | .routeGetCounters slot tag payload => Sys2Proof.Machine.execRouteGetCounters slot tag payload s
  | .routeClearCounters slot tag payload => Sys2Proof.Machine.execRouteClearCounters slot tag payload s
  | .escGetCaps slot tag payload => Sys2Proof.Machine.execEscGetCaps slot tag payload s
  | .escSetConfig slot tag payload => Sys2Proof.Machine.execEscSetConfig slot tag payload s
  | .escGetStatus slot tag payload => Sys2Proof.Machine.execEscGetStatus slot tag payload s
  | .escSetSafe slot tag payload => Sys2Proof.Machine.execEscSetSafe slot tag payload s
  | .escGetSafe slot tag payload => Sys2Proof.Machine.execEscGetSafe slot tag payload s
  | .escAckFault slot tag payload => Sys2Proof.Machine.execEscAckFault slot tag payload s
  | .escTestEngine slot tag payload => Sys2Proof.Machine.execEscTestEngine slot tag payload s
  | .escInject slot tag payload => Sys2Proof.Machine.execEscInject slot tag payload s
  | .escGetCounters slot tag payload => Sys2Proof.Machine.execEscGetCounters slot tag payload s
  | .escClearCounters slot tag payload => Sys2Proof.Machine.execEscClearCounters slot tag payload s
  | .cryptGetCaps slot tag payload => Sys2Proof.Machine.execCryptGetCaps slot tag payload s
  | .cryptSetPort slot tag payload => Sys2Proof.Machine.execCryptSetPort slot tag payload s
  | .cryptSetMka slot tag payload => Sys2Proof.Machine.execCryptSetMka slot tag payload s
  | .cryptInstallSa slot tag payload => Sys2Proof.Machine.execCryptInstallSa slot tag payload s
  | .cryptSetTxAn slot tag payload => Sys2Proof.Machine.execCryptSetTxAn slot tag payload s
  | .cryptDeleteSa slot tag payload => Sys2Proof.Machine.execCryptDeleteSa slot tag payload s
  | .cryptGetSa slot tag payload => Sys2Proof.Machine.execCryptGetSa slot tag payload s
  | .cryptSetProfile slot tag payload => Sys2Proof.Machine.execCryptSetProfile slot tag payload s
  | .cryptGetProfile slot tag payload => Sys2Proof.Machine.execCryptGetProfile slot tag payload s
  | .cryptOpen slot tag payload => Sys2Proof.Machine.execCryptOpen slot tag payload s
  | .cryptUpdate slot tag payload => Sys2Proof.Machine.execCryptUpdate slot tag payload s
  | .cryptFinal slot tag payload => Sys2Proof.Machine.execCryptFinal slot tag payload s
  | .cryptSave slot tag payload => Sys2Proof.Machine.execCryptSave slot tag payload s
  | .cryptRestore slot tag payload => Sys2Proof.Machine.execCryptRestore slot tag payload s
  | .cryptOneshot slot tag payload => Sys2Proof.Machine.execCryptOneshot slot tag payload s
  | .cryptBreakLock slot tag payload => Sys2Proof.Machine.execCryptBreakLock slot tag payload s
  | .cryptGetCounters slot tag payload => Sys2Proof.Machine.execCryptGetCounters slot tag payload s
  | .cryptClearCounters slot tag payload => Sys2Proof.Machine.execCryptClearCounters slot tag payload s
  | .keyGetCaps slot tag payload => Sys2Proof.Machine.execKeyGetCaps slot tag payload s
  | .keyImport slot tag payload => Sys2Proof.Machine.execKeyImport slot tag payload s
  | .keyDerive slot tag payload => Sys2Proof.Machine.execKeyDerive slot tag payload s
  | .keyPrefetch slot tag payload => Sys2Proof.Machine.execKeyPrefetch slot tag payload s
  | .keyRefresh slot tag payload => Sys2Proof.Machine.execKeyRefresh slot tag payload s
  | .keyInvalidate slot tag payload => Sys2Proof.Machine.execKeyInvalidate slot tag payload s
  | .keyErase slot tag payload => Sys2Proof.Machine.execKeyErase slot tag payload s
  | .keyNarrowMask slot tag payload => Sys2Proof.Machine.execKeyNarrowMask slot tag payload s
  | .keyGetAttr slot tag payload => Sys2Proof.Machine.execKeyGetAttr slot tag payload s
  | .keySetService slot tag payload => Sys2Proof.Machine.execKeySetService slot tag payload s
  | .keyGetCounters slot tag payload => Sys2Proof.Machine.execKeyGetCounters slot tag payload s
  | .keyClearCounters slot tag payload => Sys2Proof.Machine.execKeyClearCounters slot tag payload s
  | .pwrGetCaps slot tag payload => Sys2Proof.Machine.execPwrGetCaps slot tag payload s
  | .pwrGetStatus slot tag payload => Sys2Proof.Machine.execPwrGetStatus slot tag payload s
  | .pwrSetCeiling slot tag payload => Sys2Proof.Machine.execPwrSetCeiling slot tag payload s
  | .pwrSetBoardBudget slot tag payload => Sys2Proof.Machine.execPwrSetBoardBudget slot tag payload s
  | .pwrSetDomain slot tag payload => Sys2Proof.Machine.execPwrSetDomain slot tag payload s
  | .pwrGetGrants slot tag payload => Sys2Proof.Machine.execPwrGetGrants slot tag payload s
  | .pwrGetCounters slot tag payload => Sys2Proof.Machine.execPwrGetCounters slot tag payload s
  | .pwrClearCounters slot tag payload => Sys2Proof.Machine.execPwrClearCounters slot tag payload s
  | .sleepGetCaps slot tag payload => Sys2Proof.Machine.execSleepGetCaps slot tag payload s
  | .sleepRequest slot tag payload => Sys2Proof.Machine.execSleepRequest slot tag payload s
  | .sleepCancel slot tag payload => Sys2Proof.Machine.execSleepCancel slot tag payload s
  | .sleepGetStatus slot tag payload => Sys2Proof.Machine.execSleepGetStatus slot tag payload s
  | .sleepSegment slot tag payload => Sys2Proof.Machine.execSleepSegment slot tag payload s
  | .sleepSetPin slot tag payload => Sys2Proof.Machine.execSleepSetPin slot tag payload s
  | .sleepSetCanWake slot tag payload => Sys2Proof.Machine.execSleepSetCanWake slot tag payload s
  | .sleepSetNm slot tag payload => Sys2Proof.Machine.execSleepSetNm slot tag payload s
  | .sleepSetHostWake slot tag payload => Sys2Proof.Machine.execSleepSetHostWake slot tag payload s
  | .sleepSetInh slot tag payload => Sys2Proof.Machine.execSleepSetInh slot tag payload s
  | .sleepGetWakeRecord slot tag payload => Sys2Proof.Machine.execSleepGetWakeRecord slot tag payload s
  | .sleepGetCounters slot tag payload => Sys2Proof.Machine.execSleepGetCounters slot tag payload s
  | .sleepClearCounters slot tag payload => Sys2Proof.Machine.execSleepClearCounters slot tag payload s
  | .measGetCaps slot tag payload => Sys2Proof.Machine.execMeasGetCaps slot tag payload s
  | .measRead slot tag payload => Sys2Proof.Machine.execMeasRead slot tag payload s
  | .measRunTdr slot tag payload => Sys2Proof.Machine.execMeasRunTdr slot tag payload s
  | .measRunTerm slot tag payload => Sys2Proof.Machine.execMeasRunTerm slot tag payload s
  | .measGetPartner slot tag payload => Sys2Proof.Machine.execMeasGetPartner slot tag payload s
  | .drovGetCaps slot tag payload => Sys2Proof.Machine.execDrovGetCaps slot tag payload s
  | .drovGrant slot tag payload => Sys2Proof.Machine.execDrovGrant slot tag payload s
  | .drovRevoke slot tag payload => Sys2Proof.Machine.execDrovRevoke slot tag payload s
  | .drovGetMandate slot tag payload => Sys2Proof.Machine.execDrovGetMandate slot tag payload s
  | .drovReadLedger slot tag payload => Sys2Proof.Machine.execDrovReadLedger slot tag payload s
  | .drovPause slot tag payload => Sys2Proof.Machine.execDrovPause slot tag payload s
  | .drovGetCounters slot tag payload => Sys2Proof.Machine.execDrovGetCounters slot tag payload s
  | .drovClearCounters slot tag payload => Sys2Proof.Machine.execDrovClearCounters slot tag payload s
  | .xtal32kSwitch ok => Sys2Proof.Machine.execXtal32kSwitch ok s
  | .inh0AssertAfterPor => Sys2Proof.Machine.execInh0AssertAfterPor s
  | .inh1DelayExpiry => Sys2Proof.Machine.execInh1DelayExpiry s
  | .pcieLinkUp => Sys2Proof.Machine.execPcieLinkUp s
  | .grandmasterChange gm => Sys2Proof.Machine.execGrandmasterChange gm s
  | .wakeDecodingError c fd => Sys2Proof.Machine.execWakeDecodingError c fd s

end Sys2Proof.Machine
end

