-- ==== Sys2Proof/Machine/Idle.lean ====
section
/-! DEFINITION. What the block does when no command waits: frames built inside it enter their pipeline, a transmit ring has its turn, a due reset begins, the sleep
sequence moves on, and one fabric tick passes (DESIGN CHOICE, log 1). -/

namespace Sys2Proof.Machine

/-- The oldest frame built inside the device is classified and enters the fabric (R18, R129): not before the memory test has
ended (R460), and not in PREPARE (R485). -/
def State.giveFrame (s : State) : State :=
  match s.net.outbox with
  | [] => s
  | o :: os =>
    if s.memTest.result = 2 ∨ s.sleep.phase = .prepare then s
    else
      let x : Intake :=
        { port := o.ingress, slot := 0xFF, bytes := o.bytes, ended := true, maxFrame := 9216, stamp := s.now
          stampFrac := s.time.frac / 65536, preempt := false, direct := o.direct, tc := o.tc, launch := o.launch, ring := none, oneStep := o.oneStep }
      ((s.modNet (fun n => { n with outbox := os })).wholeFrame x).2

/-- An answered SYS_RESET of S0 whose response is still to be written. -/
def SlotRec.resetUnwritten (x : SlotRec) : Bool := x.inFlight.any (fun f => f.op == 0x0103 && f.answer.isSome && !f.dup)

/-- The reset of an Ethernet-bound S0 begins once its response frame has left the management port (R84). -/
def State.dueReset (s : State) : State :=
  let x := s.slot 0
  if x.resetDue && x.isEth && !x.resetUnwritten && s.net.outbox.isEmpty then s.resetDie 3 else s

/-- The block with an empty queue. -/
def State.idle (s : State) : State :=
  let s := if s.running then s.giveFrame.serveRings.dueReset else s
  let s := if s.running ∧ (s.sleep.phase = .indicate ∨ s.sleep.phase = .quiet) then s.sleepAdvance else s
  s.fabricTick 0

end Sys2Proof.Machine
end

