-- ==== Sys2Proof/Safety.lean ====
section
/-! DEFINITION. The terms in which claims are stated: what one step may never take back, what a Penyen command that is admitted does,
and where a command's effect stays. -/

namespace Sys2Proof.Machine

/-! What no step takes back. -/

/-- The memories of an image are in their one canonical form. -/
def Store.wf (x : Store) : Bool := x.sram.wf && x.tcm.toList.all Memory.wf && x.microcode.wf

/-- Every memory is in its one canonical form: the mailbox buffers, the retention SRAM, the TCMs and the microcode store. -/
def State.canonical (s : State) : Prop := (s.ram.wf && s.store.wf) = true

/-- `t` follows `s`: what holds between the state a command runs on and the state it leaves, whatever the command. The queue is not
touched; memory stays canonical; nothing sent is taken back; ticks and free draws only advance; a revoked vendor key stays revoked. -/
structure State.Follows (s t : State) : Prop where
  queue : t.pending = s.pending
  memory : s.canonical → t.canonical
  output : s.out <:+ t.out
  draws : s.fresh ≤ t.fresh
  ticks : s.tick ≤ t.tick
  revoked : s.boot.keyrevFused &&& t.boot.keyrevFused = s.boot.keyrevFused

/-! Penyen commands. -/

/-- A row of the Penyen protocol: slot, tag and payload. -/
abbrev Row := Slot → Half → Bytes → Instr

/-- The state on which a command of a slot runs: where nothing is in flight it has just been taken (R66); the round-robin has come to
its slot (R67). -/
def State.asTaken (s : State) (c : Cmd) (n : Nat) (tag : Half) (p : Bytes) : State :=
  match (s.slot n).inFlight with
  | [] => (s.take n (BitVec.ofNat 16 c.op) tag p none).serveSlot n
  | _ :: _ => s.serveSlot n

/-- It is the turn of a command (R66, R67): firmware runs, the round-robin has come to its slot, and the command is the oldest in
flight and unanswered, or nothing is in flight, the slot has a transport and the tag is not in its window. -/
def State.turnOf (s : State) (c : Cmd) (n : Nat) (tag : Half) (p : Bytes) : Bool :=
  s.running && s.hasTurn n &&
    match (s.slot n).inFlight with
    | [] => (s.slot n).state != .unbound && ((s.slot n).holder tag).isNone
    | f :: _ => f.isFront (BitVec.ofNat 16 c.op) tag p

/-- The oldest command was in flight when its slot was fenced or unbound (R53). -/
def State.excusedAt (s : State) (n : Nat) : Bool :=
  match (s.slot n).inFlight with
  | [] => false
  | f :: _ => f.excused

/-- The command's work goes on after its response: it answers ST_ACCEPTED (R68). -/
def Cmd.startsJob (c : Cmd) (s : State) (n : Nat) (tag : Half) (p : Bytes) : Bool :=
  match (c.run s n tag p).2 with
  | .accepted => true
  | _ => false

/-- It is a command's turn, and it passes every check of R65. -/
def State.passes (s : State) (c : Cmd) (n : Nat) (tag : Half) (p : Bytes) : Bool :=
  s.turnOf c n tag p && (c.refusal (s.asTaken c n tag p) n (s.excusedAt n) p).isNone

/-- A command is admitted: it passes, and where its work goes on after its response its slot has fewer than four such jobs (R68). -/
def State.admitted (s : State) (c : Cmd) (n : Nat) (tag : Half) (p : Bytes) : Bool :=
  s.passes c n tag p && (decide ((s.slot n).jobs.length < 4) || !c.startsJob (s.asTaken c n tag p) n tag p)

/-- A command is refused with an answer of R65: it is its turn, and `a` is the answer of the first check that fails. -/
def State.turnedAway (s : State) (c : Cmd) (n : Nat) (tag : Half) (p : Bytes) (a : Answer) : Prop :=
  s.turnOf c n tag p = true ∧ c.refusal (s.asTaken c n tag p) n (s.excusedAt n) p = some a

/-- An admitted command has run: its effect, and its answer; ST_ACCEPTED with a job; or the mark that its answer comes later. -/
def State.served (s : State) (c : Cmd) (n : Nat) (tag : Half) (p : Bytes) : State :=
  match c.run (s.asTaken c n tag p) n tag p with
  | (t, .done a) => t.answerFront n a
  | (t, .later) => t.modSlot n (fun x => { x with inFlight := startFrontOf x.inFlight })
  | (t, .accepted) =>
    (t.modSlot n (fun x => { x with
      jobs := x.jobs ++ [{ tag := tag, op := BitVec.ofNat 16 c.op, finished := false }] })).answerFront n (answer 2 [])

/-- A row completes: wherever its command is admitted, the next state is the one in which it has been served. -/
def Completes (r : Row) (c : Cmd) : Prop :=
  ∀ (s : State) (n : Slot) (tag : Half) (p : Bytes),
    s.admitted c n.val tag p = true → exec (r n tag p) s = .next (s.served c n.val tag p)

/-! The rows of each command group with their commands. -/

/-- A property of the SYS, SLOT and DIAG commands. -/
def SysRows (P : Row → Cmd → Prop) : Prop :=
  P .sysGetCaps cmdSysGetCaps ∧ P .sysGetInfo cmdSysGetInfo ∧ P .sysPing cmdSysPing ∧ P .sysReset cmdSysReset ∧
    P .sysGpioConfig cmdSysGpioConfig ∧ P .sysGpioWrite cmdSysGpioWrite ∧ P .sysGpioRead cmdSysGpioRead ∧
    P .sysI2cXfer cmdSysI2cXfer ∧ P .sysMdioAccess cmdSysMdioAccess ∧ P .slotGetCaps cmdSlotGetCaps ∧
    P .slotOpen cmdSlotOpen ∧ P .slotClose cmdSlotClose ∧ P .slotBind cmdSlotBind ∧ P .slotUnbind cmdSlotUnbind ∧
    P .slotGrant cmdSlotGrant ∧ P .slotRevoke cmdSlotRevoke ∧ P .slotGetState cmdSlotGetState ∧
    P .slotSetReadPolicy cmdSlotSetReadPolicy ∧ P .slotFence cmdSlotFence ∧ P .slotUnfence cmdSlotUnfence ∧
    P .slotGetOwner cmdSlotGetOwner ∧ P .slotGetStats cmdSlotGetStats ∧ P .slotSetWritePermit cmdSlotSetWritePermit ∧
    P .slotRekey cmdSlotRekey ∧ P .diagGetCaps cmdDiagGetCaps ∧ P .diagGetBootRecord cmdDiagGetBootRecord ∧
    P .diagAdvanceSecver cmdDiagAdvanceSecver ∧ P .diagRevokeVendorKey cmdDiagRevokeVendorKey ∧
    P .diagLcsTransition cmdDiagLcsTransition ∧ P .diagUnlockChallenge cmdDiagUnlockChallenge ∧
    P .diagUnlockResponse cmdDiagUnlockResponse ∧ P .diagRelock cmdDiagRelock

/-- A property of the PORT and FDB commands. -/
def PortRows (P : Row → Cmd → Prop) : Prop :=
  P .portGetCaps cmdPortGetCaps ∧ P .portSetMode cmdPortSetMode ∧ P .portGetMode cmdPortGetMode ∧
    P .portGetStatus cmdPortGetStatus ∧ P .portForgetCoeffs cmdPortForgetCoeffs ∧ P .portSetWake cmdPortSetWake ∧
    P .portSendWake cmdPortSendWake ∧ P .portSetPodl cmdPortSetPodl ∧ P .portPodlControl cmdPortPodlControl ∧
    P .portGetPodl cmdPortGetPodl ∧ P .portGetPhyCounters cmdPortGetPhyCounters ∧
    P .portClearPhyCounters cmdPortClearPhyCounters ∧ P .portSetFwdConfig cmdPortSetFwdConfig ∧
    P .portGetFwdConfig cmdPortGetFwdConfig ∧ P .portGetCounters cmdPortGetCounters ∧
    P .portClearCounters cmdPortClearCounters ∧ P .portGetPipelineStats cmdPortGetPipelineStats ∧
    P .fdbGetCaps cmdFdbGetCaps ∧ P .fdbAdd cmdFdbAdd ∧ P .fdbDelete cmdFdbDelete ∧ P .fdbLookup cmdFdbLookup ∧
    P .fdbFlush cmdFdbFlush ∧ P .fdbSetAging cmdFdbSetAging ∧ P .fdbRead cmdFdbRead ∧ P .fdbSetVlan cmdFdbSetVlan ∧
    P .fdbDeleteVlan cmdFdbDeleteVlan ∧ P .fdbGetVlan cmdFdbGetVlan

/-- A property of the CUST and RED commands. -/
def CustRows (P : Row → Cmd → Prop) : Prop :=
  P .custGetCaps cmdCustGetCaps ∧ P .custSetZone cmdCustSetZone ∧ P .custSetZoneMap cmdCustSetZoneMap ∧
    P .custSetPair cmdCustSetPair ∧ P .custSetRule cmdCustSetRule ∧ P .custClearRules cmdCustClearRules ∧
    P .custGetRule cmdCustGetRule ∧ P .custSetCanRule cmdCustSetCanRule ∧ P .custGetCanRule cmdCustGetCanRule ∧
    P .custSetCanDefault cmdCustSetCanDefault ∧ P .custSwap cmdCustSwap ∧ P .custGetGen cmdCustGetGen ∧
    P .custSetConvTimeouts cmdCustSetConvTimeouts ∧ P .custFlushConv cmdCustFlushConv ∧ P .custReadConv cmdCustReadConv ∧
    P .custQuarantine cmdCustQuarantine ∧ P .custGetCounters cmdCustGetCounters ∧ P .custClearCounters cmdCustClearCounters ∧
    P .redGetCaps cmdRedGetCaps ∧ P .redSetGenerator cmdRedSetGenerator ∧ P .redSetRecovery cmdRedSetRecovery ∧
    P .redEnable cmdRedEnable ∧ P .redGetInstance cmdRedGetInstance ∧ P .redSetProtect cmdRedSetProtect ∧
    P .redForce cmdRedForce ∧ P .redGetProtect cmdRedGetProtect ∧ P .redSubscribe cmdRedSubscribe ∧
    P .redGetCounters cmdRedGetCounters ∧ P .redClearCounters cmdRedClearCounters

/-- A property of the SCHED and GATE commands. -/
def SchedRows (P : Row → Cmd → Prop) : Prop :=
  P .schedGetCaps cmdSchedGetCaps ∧ P .schedSetQueue cmdSchedSetQueue ∧ P .schedGetQueue cmdSchedGetQueue ∧
    P .schedSetShaper cmdSchedSetShaper ∧ P .schedGetShaper cmdSchedGetShaper ∧ P .schedSetMeter cmdSchedSetMeter ∧
    P .schedGetMeter cmdSchedGetMeter ∧ P .schedSetStreamId cmdSchedSetStreamId ∧ P .schedGetStreamId cmdSchedGetStreamId ∧
    P .schedSwapStreamId cmdSchedSwapStreamId ∧ P .schedSetFilter cmdSchedSetFilter ∧ P .schedGetFilter cmdSchedGetFilter ∧
    P .schedSetStreamGate cmdSchedSetStreamGate ∧ P .schedGetStreamGate cmdSchedGetStreamGate ∧
    P .schedClearBlocked cmdSchedClearBlocked ∧ P .schedSetAdmission cmdSchedSetAdmission ∧
    P .schedGetAdmission cmdSchedGetAdmission ∧ P .schedSetSampling cmdSchedSetSampling ∧ P .schedReadHist cmdSchedReadHist ∧
    P .schedGetCounters cmdSchedGetCounters ∧ P .schedClearCounters cmdSchedClearCounters ∧ P .gateGetCaps cmdGateGetCaps ∧
    P .gateSetAdminHeader cmdGateSetAdminHeader ∧ P .gateSetAdminEntries cmdGateSetAdminEntries ∧
    P .gateGetList cmdGateGetList ∧ P .gateCommitAdmin cmdGateCommitAdmin ∧ P .gateCancelChange cmdGateCancelChange ∧
    P .gateGetStatus cmdGateGetStatus ∧ P .gateSetQueueTiming cmdGateSetQueueTiming ∧
    P .gateGetQueueTiming cmdGateGetQueueTiming ∧ P .gateSetPreempt cmdGateSetPreempt ∧
    P .gateGetCounters cmdGateGetCounters ∧ P .gateClearCounters cmdGateClearCounters

/-- A property of the TIME, PWR and SLEEP commands, without the two whose statement is their own. -/
def TimeRows (P : Row → Cmd → Prop) : Prop :=
  P .timeGetCaps cmdTimeGetCaps ∧ P .timeGetNow cmdTimeGetNow ∧ P .timeSetSource cmdTimeSetSource ∧
    P .timeNewEpoch cmdTimeNewEpoch ∧ P .timeStep cmdTimeStep ∧ P .timeSetDomain cmdTimeSetDomain ∧
    P .timeEnableDomain cmdTimeEnableDomain ∧ P .timeGetDomain cmdTimeGetDomain ∧ P .timeSetPort cmdTimeSetPort ∧
    P .timeSetAlarm cmdTimeSetAlarm ∧ P .timeSetIo cmdTimeSetIo ∧ P .timeReadCaptures cmdTimeReadCaptures ∧
    P .timeGetCounters cmdTimeGetCounters ∧ P .pwrGetCaps cmdPwrGetCaps ∧ P .pwrGetStatus cmdPwrGetStatus ∧
    P .pwrSetCeiling cmdPwrSetCeiling ∧ P .pwrSetBoardBudget cmdPwrSetBoardBudget ∧ P .pwrSetDomain cmdPwrSetDomain ∧
    P .pwrGetGrants cmdPwrGetGrants ∧ P .pwrGetCounters cmdPwrGetCounters ∧ P .pwrClearCounters cmdPwrClearCounters ∧
    P .sleepGetCaps cmdSleepGetCaps ∧ P .sleepCancel cmdSleepCancel ∧ P .sleepGetStatus cmdSleepGetStatus ∧
    P .sleepSegment cmdSleepSegment ∧ P .sleepSetPin cmdSleepSetPin ∧ P .sleepSetCanWake cmdSleepSetCanWake ∧
    P .sleepSetNm cmdSleepSetNm ∧ P .sleepSetHostWake cmdSleepSetHostWake ∧ P .sleepSetInh cmdSleepSetInh ∧
    P .sleepGetWakeRecord cmdSleepGetWakeRecord ∧ P .sleepGetCounters cmdSleepGetCounters ∧
    P .sleepClearCounters cmdSleepClearCounters

/-- A property of the CAN, LIN and SER commands, without the two releases. -/
def EdgeRows (P : Row → Cmd → Prop) : Prop :=
  P .canGetCaps cmdCanGetCaps ∧ P .canSetConfig cmdCanSetConfig ∧ P .canGetConfig cmdCanGetConfig ∧
    P .canSetMode cmdCanSetMode ∧ P .canGetStatus cmdCanGetStatus ∧ P .canSetQueue cmdCanSetQueue ∧
    P .canSetFilter cmdCanSetFilter ∧ P .canTransmit cmdCanTransmit ∧ P .canRxRead cmdCanRxRead ∧
    P .canRecover cmdCanRecover ∧ P .canFlushQueue cmdCanFlushQueue ∧ P .canDetectRate cmdCanDetectRate ∧
    P .canGetCounters cmdCanGetCounters ∧ P .canClearCounters cmdCanClearCounters ∧ P .linGetCaps cmdLinGetCaps ∧
    P .linSetConfig cmdLinSetConfig ∧ P .linSetMode cmdLinSetMode ∧ P .linSetFrame cmdLinSetFrame ∧
    P .linSetSchedule cmdLinSetSchedule ∧ P .linSelectSchedule cmdLinSelectSchedule ∧ P .linSetPublish cmdLinSetPublish ∧
    P .linSendWake cmdLinSendWake ∧ P .linGetStatus cmdLinGetStatus ∧ P .serSetConfig cmdSerSetConfig ∧
    P .serSetMode cmdSerSetMode ∧ P .serTransmit cmdSerTransmit ∧ P .serGetStatus cmdSerGetStatus ∧
    P .serRxRead cmdSerRxRead ∧ P .serGetCounters cmdSerGetCounters ∧ P .serClearCounters cmdSerClearCounters

/-- A property of the ROUTE and ESC commands. -/
def RelayRows (P : Row → Cmd → Prop) : Prop :=
  P .routeGetCaps cmdRouteGetCaps ∧ P .routeSetRule cmdRouteSetRule ∧ P .routeClear cmdRouteClear ∧
    P .routeGetRule cmdRouteGetRule ∧ P .routeSwap cmdRouteSwap ∧ P .routeGetGen cmdRouteGetGen ∧
    P .routeSetTunnel cmdRouteSetTunnel ∧ P .routeGetTunnel cmdRouteGetTunnel ∧ P .routeSetEngine cmdRouteSetEngine ∧
    P .routeGetEngines cmdRouteGetEngines ∧ P .routeGetCounters cmdRouteGetCounters ∧
    P .routeClearCounters cmdRouteClearCounters ∧ P .escGetCaps cmdEscGetCaps ∧ P .escSetConfig cmdEscSetConfig ∧
    P .escGetStatus cmdEscGetStatus ∧ P .escSetSafe cmdEscSetSafe ∧ P .escGetSafe cmdEscGetSafe ∧
    P .escAckFault cmdEscAckFault ∧ P .escTestEngine cmdEscTestEngine ∧ P .escInject cmdEscInject ∧
    P .escGetCounters cmdEscGetCounters ∧ P .escClearCounters cmdEscClearCounters

/-- A property of the CRYPT and KEY commands. -/
def CryptRows (P : Row → Cmd → Prop) : Prop :=
  P .cryptGetCaps cmdCryptGetCaps ∧ P .cryptSetPort cmdCryptSetPort ∧ P .cryptSetMka cmdCryptSetMka ∧
    P .cryptInstallSa cmdCryptInstallSa ∧ P .cryptSetTxAn cmdCryptSetTxAn ∧ P .cryptDeleteSa cmdCryptDeleteSa ∧
    P .cryptGetSa cmdCryptGetSa ∧ P .cryptSetProfile cmdCryptSetProfile ∧ P .cryptGetProfile cmdCryptGetProfile ∧
    P .cryptOpen cmdCryptOpen ∧ P .cryptUpdate cmdCryptUpdate ∧ P .cryptFinal cmdCryptFinal ∧ P .cryptSave cmdCryptSave ∧
    P .cryptRestore cmdCryptRestore ∧ P .cryptOneshot cmdCryptOneshot ∧ P .cryptBreakLock cmdCryptBreakLock ∧
    P .cryptGetCounters cmdCryptGetCounters ∧ P .cryptClearCounters cmdCryptClearCounters ∧ P .keyGetCaps cmdKeyGetCaps ∧
    P .keyImport cmdKeyImport ∧ P .keyDerive cmdKeyDerive ∧ P .keyPrefetch cmdKeyPrefetch ∧ P .keyRefresh cmdKeyRefresh ∧
    P .keyInvalidate cmdKeyInvalidate ∧ P .keyErase cmdKeyErase ∧ P .keyNarrowMask cmdKeyNarrowMask ∧
    P .keyGetAttr cmdKeyGetAttr ∧ P .keySetService cmdKeySetService ∧ P .keyGetCounters cmdKeyGetCounters ∧
    P .keyClearCounters cmdKeyClearCounters

/-- A property of the MEAS and DROV commands. -/
def DrovRows (P : Row → Cmd → Prop) : Prop :=
  P .measGetCaps cmdMeasGetCaps ∧ P .measRead cmdMeasRead ∧ P .measRunTdr cmdMeasRunTdr ∧ P .measRunTerm cmdMeasRunTerm ∧
    P .measGetPartner cmdMeasGetPartner ∧ P .drovGetCaps cmdDrovGetCaps ∧ P .drovGrant cmdDrovGrant ∧
    P .drovRevoke cmdDrovRevoke ∧ P .drovGetMandate cmdDrovGetMandate ∧ P .drovReadLedger cmdDrovReadLedger ∧
    P .drovPause cmdDrovPause ∧ P .drovGetCounters cmdDrovGetCounters ∧ P .drovClearCounters cmdDrovClearCounters

/-- A property of every row that runs as its command does; four rows have a statement of their own. -/
def PenyenRows (P : Row → Cmd → Prop) : Prop :=
  SysRows P ∧ PortRows P ∧ CustRows P ∧ SchedRows P ∧ TimeRows P ∧ EdgeRows P ∧ RelayRows P ∧ CryptRows P ∧ DrovRows P

/-! Where effects stay. -/

/-- `s` with the slots of `t` and the slot that was served last. -/
def State.servedAs (s t : State) : State := { s with slots := t.slots, lastServed := t.lastServed }

/-- `t` differs from `s` in slots only at slot `n`, and there only in what a command's life touches: flight, tags, jobs, counters. -/
def SlotsBut (n : Nat) (s t : State) : Prop :=
  (∀ m, m ≠ n → t.slot m = s.slot m) ∧
    t.slot n = { s.slot n with
      inFlight := (t.slot n).inFlight, tags := (t.slot n).tags, jobs := (t.slot n).jobs, stats := (t.slot n).stats }

/-- An instruction's next states stay inside a frame. -/
def Within (r : Row) (frame : State → State → State) : Prop :=
  ∀ (s t : State) (n : Slot) (tag : Half) (p : Bytes),
    exec (r n tag p) s = .next t → t = frame s t ∧ SlotsBut n.val s t

/-- Nothing but the slots. -/
def onlySlots (s t : State) : State := s.servedAs t
/-- The slots, and the free draws. -/
def onlyDraws (s t : State) : State := { s.servedAs t with fresh := t.fresh }
/-- The slots, the free draws, and the counters. -/
def onlyTallies (s t : State) : State := { s.servedAs t with fresh := t.fresh, counters := t.counters }
/-- The slots, the Drover's mark that something happened, and one more field. -/
def alsoCounters (s t : State) : State := { s.servedAs t with drover := { s.drover with active := t.drover.active }, counters := t.counters }
def alsoNet (s t : State) : State := { s.servedAs t with drover := { s.drover with active := t.drover.active }, net := t.net }
def alsoCan (s t : State) : State := { s.servedAs t with drover := { s.drover with active := t.drover.active }, can := t.can }
def alsoLin (s t : State) : State := { s.servedAs t with drover := { s.drover with active := t.drover.active }, lin := t.lin }
def alsoUart (s t : State) : State := { s.servedAs t with drover := { s.drover with active := t.drover.active }, uart := t.uart }
def alsoUartDraws (s t : State) : State := { alsoUart s t with fresh := t.fresh }
def alsoRelay (s t : State) : State := { s.servedAs t with drover := { s.drover with active := t.drover.active }, relay := t.relay }
def alsoSleep (s t : State) : State := { s.servedAs t with drover := { s.drover with active := t.drover.active }, sleep := t.sleep }
def alsoTime (s t : State) : State := { s.servedAs t with drover := { s.drover with active := t.drover.active }, time := t.time }
def alsoPower (s t : State) : State := { s.servedAs t with drover := { s.drover with active := t.drover.active }, power := t.power }
def alsoCrypt (s t : State) : State := { s.servedAs t with drover := { s.drover with active := t.drover.active }, crypt := t.crypt }
def alsoCryptCounters (s t : State) : State := { alsoCrypt s t with counters := t.counters }
def alsoKeys (s t : State) : State := { s.servedAs t with drover := { s.drover with active := t.drover.active }, keys := t.keys }

end Sys2Proof.Machine
end

