-- ==== Sys2Proof/Certificates/Slice0/Obligations.lean ====
section
/-! DEFINITION. The statements about the model. Each docstring names the rules it rests on, or the log entry of a choice. -/

open Sys2Proof Sys2Proof.Machine

/-! The step. -/

/-- A step runs the command at the front of the queue on the state with the queue's rest, and answers its outcome. -/
def Obligations.StepRunsFrontCommand : Prop :=
  ∀ (c : Instr) (cs : List Instr) (s : State), step { s with pending := c :: cs } = exec c { s with pending := cs }

/-- The model's choice (log 1): with no command, no frame of its own to send, no descriptor waiting for its turn, no reset due and no
sleep request under way, one fabric tick passes and nothing else happens but what the running clock does. -/
def Obligations.IdleStepPassesOneTick : Prop :=
  ∀ (s : State), s.pending = [] → s.net.outbox = [] → (∀ (n : Slot) (r : Fin 4), (s.ringAt n.val r.val).queue = []) →
    (s.slot 0).resetDue = false → s.sleep.phase = .awake → s.time.ns < 2 ^ 64 →
    step s = .next { s with tick := s.tick + 1, time := if s.pd0.die then s.time.tick else s.time }

/-- The state after power-on reset has canonical memory and no command waiting. -/
def Obligations.ResetMemoryIsCanonical : Prop := State.reset.canonical ∧ State.reset.pending = []

/-- Every step keeps the memory canonical, from every state whose memory is. -/
def Obligations.StepKeepsMemoryCanonical : Prop :=
  ∀ (s t : State), s.canonical → step s = .next t → t.canonical

/-- A step takes exactly the front command off the queue, and no command puts one in. -/
def Obligations.StepTakesOnlyTheFrontCommand : Prop :=
  ∀ (s t : State), step s = .next t → t.pending = s.pending.tail

/-- What the device has sent is never taken back (the record is the model's own, log 6), ticks are never lost, and no free value is
drawn twice (log 2). -/
def Obligations.StepKeepsWhatWasSent : Prop :=
  ∀ (s t : State), step s = .next t → s.out <:+ t.out ∧ s.tick ≤ t.tick ∧ s.fresh ≤ t.fresh

/-- A vendor key once revoked in the fuses is revoked after every step (R101), whatever the step: no command, no reset and no loss of
power restores it. -/
def Obligations.RevokedVendorKeyStaysRevoked : Prop :=
  ∀ (s t : State) (k : Nat), step s = .next t → s.boot.keyrevFused.getLsbD k = true → t.boot.keyrevFused.getLsbD k = true

/-! The direct window. -/

/-- Registers of the window right after power-on reset, as a transport reads them (R37, R38, R43, R47, R48, R270): the values the spec
states. -/
def Obligations.WindowRegistersAfterReset : Prop :=
  ∀ (t : Transport) (n : Slot),
    let read (a : Nat) : Option Nat := (State.reset.regRead t a).map (·.1)
    read 0x0000 = some 0x7120B002 ∧ read 0x0004 = some 0 ∧ read 0x0008 = some 0 ∧ read 0x000C = some 0 ∧
    read 0x0014 = some 0xFFFF ∧
    read (0x1000 + 16 * n.val) = some 0 ∧ read (0x1004 + 16 * n.val) = some 0 ∧
    read (0x1008 + 16 * n.val) = some 0x37BAC688 ∧ read (0x100C + 16 * n.val) = some 0 ∧
    read 0x2004 = some 0 ∧ read 0x2008 = some 0 ∧ read 0x200C = some 0 ∧ read 0x2010 = some 0 ∧ read 0x2014 = some 0 ∧
    read 0x3000 = some 1 ∧ read 0x3008 = some 750 ∧ read 0x300C = some 1400 ∧ read 0x3010 = some 0 ∧ read 0x3014 = some 1 ∧
    read 0x4000 = some 0 ∧ read 0x4008 = some 0 ∧ read 0x400C = some 0 ∧ read 0x401C = some 0 ∧
    read 0x20014 = some 0x40000000 ∧ read 0x20018 = some 1

/-- After a cold start every pair among Z0, Z30 and Z31 is OPEN without TRACK and every other pair is BLOCK: right after power-on, and
after every reset of the die (here the watchdog's). -/
def Obligations.ColdFirewallOpensOnlyOwnZones : Prop :=
  ∀ (a b : Fin 32),
    let want := if (a.val = 0 ∨ a.val = 30 ∨ a.val = 31) ∧ (b.val = 0 ∨ b.val = 30 ∨ b.val = 31) then 3 else 0
    State.reset.net.customs.pair a.val b.val = want ∧
    ∀ (s : State), s.running = true →
      ∃ t, exec .watchdogExpiry s = .next t ∧ t.net.customs.pair a.val b.val = want

/-- A 32-bit write of HIU_SCRATCH stores the word, and an alias write of one of its bits changes that bit alone (R33, R37); nothing
else changes. -/
def Obligations.ScratchAndAliasWritesStore : Prop :=
  ∀ (s : State) (t : Transport) (v : Word) (b : Fin 32), s.reaches t = true →
    exec (.registerWrite t 4 (wordBytes v)) s = .next { s with hiu := { s.hiu with scratch := v } } ∧
    exec (.aliasWrite t (0x80 + 4 * b.val) (wordBytes v)) s = .next { s with hiu := { s.hiu with
      scratch := if v.getLsbD 0 then s.hiu.scratch ||| (1#32 <<< b.val) else s.hiu.scratch &&& ~~~(1#32 <<< b.val) } }

/-- The EVU rows (R29, R39, R41). A permitted transport clears causes by writing 1, and sets the mask; the end of a holdoff clears it. Of
the slots only the EVU record of slot n changes, and of that only the field named, and the holdoff marks of vectors; beside it only the
PCIe function's pending bits and what is sent. A vector that is left pending by a write sends its MSI-X message where the host has enabled
and not masked it and no holdoff runs; so does a vector at the end of its holdoff whose message was delayed and that is still pending;
another vector sends nothing then. Any enabled transport clears STATE_CHANGE by writing 1, and changes nothing else. -/
def Obligations.EvuRowsAct : Prop :=
  ∀ (s : State) (t : Transport) (n : Slot) (v : Word) (k : Fin 8),
    let e := (s.slot n.val).evu
    let alone (q : State) : Prop :=
      (∀ m, m ≠ n.val → q.slot m = s.slot m) ∧ q.slot n.val = { s.slot n.val with evu := (q.slot n.val).evu } ∧
        q = { s with slots := q.slots, pcie := q.pcie, out := q.out } ∧
        (q.slot n.val).evu.vmap = e.vmap ∧ (q.slot n.val).evu.holdoff = e.holdoff
    let open_ (f : Fin 16) : Prop :=
      s.running = true ∧ (s.slot n.val).binding = .pcie f ∧ (s.pcieFn f.val).msix = true ∧ s.fnAwake f.val = true ∧
        (s.pcieFn f.val).funcMask = false ∧ (vget (s.pcieFn f.val).table k.val).masked = false
    let sent (f : Fin 16) : Out := .msix f k.val (vget (s.pcieFn f.val).table k.val).addr (vget (s.pcieFn f.val).table k.val).data
    (s.reaches t = true → s.mayEvu t n.val = true →
      (∃ q, exec (.evuCauseWrite t n v) s = .next q ∧ alone q ∧ (q.slot n.val).evu.cause = e.cause &&& ~~~(v.setWidth 10) ∧
        (q.slot n.val).evu.mask = e.mask ∧
        ∀ f, open_ f → e.holding.getLsbD k.val = false → (q.slot n.val).evu.isPending k.val = true → sent f ∈ q.out) ∧
      (∃ q, exec (.evuMaskWrite t n v) s = .next q ∧ alone q ∧ (q.slot n.val).evu.mask = v.setWidth 10 ∧
        (q.slot n.val).evu.cause = e.cause ∧
        ∀ f, open_ f → e.holding.getLsbD k.val = false → (q.slot n.val).evu.isPending k.val = true → sent f ∈ q.out)) ∧
    (e.holding.getLsbD k.val = true →
      ∃ q, exec (.holdoffExpiry n k) s = .next q ∧ alone q ∧ (q.slot n.val).evu.cause = e.cause ∧
        (q.slot n.val).evu.mask = e.mask ∧ (q.slot n.val).evu.delayed.getLsbD k.val = false ∧
        (e.delayed.getLsbD k.val = false ∨ e.isPending k.val = false →
          (q.slot n.val).evu.holding.getLsbD k.val = false ∧ q.out = s.out) ∧
        (∀ f, open_ f → e.delayed.getLsbD k.val = true → e.isPending k.val = true → q.out = sent f :: s.out)) ∧
    (s.reaches t = true →
      exec (.evuBootEvtWrite t v) s = .next { s with boot := { s.boot with bootEvt := s.boot.bootEvt && !v.getLsbD 0 } })

/-- The commit unit's rows (R44, R45): a commit waits as BUSY; it applies once, clearing BUSY; a disarmed unit takes a new instant; ARM
with a mask, a running clock and an instant ahead arms; CANCEL while armed disarms, sets CANCELLED and COMMIT everywhere; the armed
commit fires at its instant with FIRED and without LATE of its own. -/
def Obligations.CommitUnitRowsAct : Prop :=
  ∀ (s : State) (t : Transport) (v : Word),
    (s.reaches t = true → s.mayCommit t = true → (v.setWidth 16 : BitVec 16) ≠ 0 →
      exec (.cmuCommit t v) s = .next { s with cmu := { s.cmu with queued := s.cmu.queued ||| v.setWidth 16, busy := true } }) ∧
    (s.cmu.busy = true → exec .commitApply s = .next s.applyQueued) ∧
    (s.reaches t = true → s.mayCommit t = true → s.cmu.arm = false →
      exec (.cmuCommitAtWrite t v) s = .next { s with cmu := { s.cmu with atTime := v } }) ∧
    (s.reaches t = true → s.mayCommit t = true → s.cmu.arm = false → v.getLsbD 17 = false → (v.setWidth 16 : BitVec 16) ≠ 0 →
      s.time.run = true → 0 < diff32 s.cmu.atTime.toNat s.now →
      exec (.commitArm t v) s = .next { s with cmu := { s.cmu with arm := true, atMask := v.setWidth 16 } }) ∧
    (s.reaches t = true → s.mayCommit t = true → s.cmu.arm = true →
      exec (.commitCancel t v) s =
        .next (State.setCauseAll { s with cmu := { s.cmu with arm := false, cancelled := true } } 5)) ∧
    (s.cmu.arm = true → diff32 s.cmu.atTime.toNat s.now ≤ 0 →
      exec .timedCommitFire s =
        .next (State.applyCommit { s with cmu := { s.cmu with arm := false, fired := true } } s.cmu.atMask))

/-- While ARM is 1 the timed commit's registers hold (R45): a write of the instant is ignored with ARM_ERR; a write of the control
register without CANCEL changes nothing, with ARM_ERR exactly if it names another mask. -/
def Obligations.ArmedCommitKeepsItsRegisters : Prop :=
  ∀ (s : State) (t : Transport) (v : Word), s.reaches t = true → s.mayCommit t = true → s.cmu.arm = true →
    exec (.cmuCommitAtWrite t v) s = .next { s with cmu := { s.cmu with armErr := true } } ∧
    (v.getLsbD 17 = false →
      exec (.commitArm t v) s = .next { s with cmu := { s.cmu with
        armErr := s.cmu.armErr || decide ((v.setWidth 16 : BitVec 16) ≠ s.cmu.atMask) } })

/-- A transport without permit writes no CMU register and no other slot's EVU register (R29): PERM_ERR, and nothing else but its
report. -/
def Obligations.UnpermittedWritesOnlyReport : Prop :=
  ∀ (s : State) (t : Transport) (n : Slot) (v : Word), s.reaches t = true →
    (s.mayCommit t = false →
      exec (.cmuCommit t v) s = .next (s.permErr t 0x2000) ∧ (s.permErr t 0x2000).cmu = s.cmu ∧
      (s.permErr t 0x2000).hiu.err.getLsbD 3 = true) ∧
    (s.mayEvu t n.val = false →
      exec (.evuMaskWrite t n v) s = .next (s.permErr t (0x1004 + 16 * n.val)) ∧
      ((s.permErr t (0x1004 + 16 * n.val)).slot n.val).evu.mask = (s.slot n.val).evu.mask ∧
      (s.permErr t (0x1004 + 16 * n.val)).hiu.err.getLsbD 3 = true)

/-- An access to the alias region that is not an aligned 32-bit one is undefined (R35): the machine stops. -/
def Obligations.AliasAccessMustBeAlignedWord : Prop :=
  ∀ (s : State) (t : Transport) (p : Fin 2) (addr : Nat) (data : Bytes) (w : Word) (ws : List Word) (k : Nat),
    addr < 0x200000 →
    (s.reaches t = true → data ≠ [] → data.length ≠ 4 ∨ addr % 4 ≠ 0 →
      exec (.registerWrite t (0x200000 + addr) data) s = .fault .aliasAccess ∧
      exec (.aliasWrite t addr data) s = .fault .aliasAccess) ∧
    (s.reaches (spiTransport p) = true → addr % 4 ≠ 0 →
      exec (.spiWrite p (0x200000 + addr) (w :: ws) false) s = .fault .aliasAccess ∧
      exec (.spiRead p (0x200000 + addr) (k + 1)) s = .fault .aliasAccess)

/-- A write of HIU_TEST, whose bits are all RSVL, with another value than it reads is undefined (R8): the machine stops; writing back
what it reads changes nothing. -/
def Obligations.TestControlsMustBeWrittenBack : Prop :=
  ∀ (s : State) (t : Transport) (v : Word), s.reaches t = true →
    exec (.registerWrite t 0x18 (wordBytes v)) s = if v = s.hiu.test then .next s else .fault .testControl

/-- SPI transactions (R36, R97, R98): one that breaks off inside a word is undefined and the machine stops; one that ends on a word
boundary writes its words in order, each as a 32-bit write, after the status word; a read of HIU_ID returns it; a bad command byte only
reports. -/
def Obligations.SpiTransactionsWriteWholeWords : Prop :=
  ∀ (s : State) (p : Fin 2) (addr : Nat) (w : Word) (ws : List Word) (cmd : Byte) (a : BitVec 24),
    s.reaches (spiTransport p) = true →
    exec (.spiWrite p addr ws true) s = .fault .spiPartialWord ∧
    exec (.spiWrite p addr (w :: ws) false) s =
      thenDo (exec (.registerWrite (spiTransport p) addr (wordBytes w)) (s.spiBegin p.val 0))
        (spiWords (spiTransport p) (addr % 0x400000 + 4) ws) ∧
    exec (.spiWrite p 4 [w] false) s =
      .next { s.spiBegin p.val 0 with hiu := { s.hiu with scratch := w } } ∧
    exec (.spiRead p 0 1) s = .next ((s.spiBegin p.val 0).emit (.miso p [0x7120B002])) ∧
    (cmd ≠ 0x02 → cmd ≠ 0x0B → exec (.spiBadCommand p cmd a) s = .next (s.spiBegin p.val 0x0100))

/-- Writes to a slot's MBX registers and mailbox buffers from any transport but the one bound to it are ignored, and the writer's slot
counts them (R61). -/
def Obligations.ForeignMailboxWritesOnlyCount : Prop :=
  ∀ (s : State) (t : Transport) (n : Slot) (o off : Nat) (v : Word) (data : Bytes),
    s.reaches t = true → s.slotOf t ≠ some n.val →
    let counted := match s.slotOf t with
      | some m => s.modStats m (fun c => { c with foreignWrites := c.foreignWrites + 1 })
      | none => s
    (o % 4 = 0 → o ≤ 0x1C ∨ (0x100 ≤ o ∧ o < 0x200 ∧ o % 32 < 0x18) →
      exec (.registerWrite t (0x10000 + 0x1000 * n.val + o) (wordBytes v)) s = .next counted) ∧
    (s.running = true → data ≠ [] → off + data.length ≤ 0x8000 →
      exec (.registerWrite t (0x100000 + 0x8000 * n.val + off) data) s = .next counted)

/-! Mailboxes. -/

/-- The mailbox pointers (R60, R62, R63, R78): an advance within bounds is stored; one beyond them is undefined and the machine
stops. Room made in the event ring takes held DONE events. -/
def Obligations.MailboxPointersAdvanceWithinBounds : Prop :=
  ∀ (s : State) (t : Transport) (n : Slot) (v : Word), s.reaches t = true → s.slotOf t = some n.val →
    let x := s.slot n.val
    let h : Half := v.setWidth 16
    exec (.mbxReqHeadWrite t n v) s =
      (if (h - x.reqHead).toNat % 16 = 0 ∧ (h - x.reqTail).toNat ≤ 8192 then
        .next (s.modSlot n.val (fun x => { x with reqHead := h })) else .fault .mailboxMisuse) ∧
    exec (.mbxRspTailWrite t n v) s =
      (if (h - x.rspTail).toNat ≤ (x.rspHead - x.rspTail).toNat then
        .next (s.modSlot n.val (fun x => { x with rspTail := h })) else .fault .mailboxMisuse) ∧
    exec (.mbxEvtTailWrite t n v) s =
      (if (h - x.evtTail).toNat ≤ (x.evtHead - x.evtTail).toNat then
        .next ((s.modSlot n.val (fun x => { x with evtTail := h })).writeHeld n.val x.held.length) else .fault .mailboxMisuse)

/-- Bytes of a waiting request that change are undefined (R62): the machine stops. A host that writes elsewhere in its own buffers, one
byte here, stores it and changes no other byte. -/
def Obligations.WaitingRequestsMustNotChange : Prop :=
  ∀ (s : State) (t : Transport) (n : Slot) (off : Nat) (b : Byte),
    s.reaches t = true → s.running = true → s.slotOf t = some n.val → off < 0x8000 → s.canonical →
    let a := 0x8000 * n.val + off
    (s.requestByte n.val a = true → s.ram.read a ≠ b →
      exec (.registerWrite t (0x100000 + a) [b]) s = .fault .requestChanged) ∧
    (s.requestByte n.val a = false →
      ∃ q, exec (.registerWrite t (0x100000 + a) [b]) s = .next q ∧ q.ram.read a = b ∧
        (∀ k, k ≠ a → q.ram.read k = s.ram.read k) ∧ q = { s with ram := q.ram })

/-- The mailbox rows. A request that MBX_REQ_HEAD covers whole is taken (R60, R65, R66, R73): MBX_REQ_TAIL passes it, and it joins the
commands in flight with its opcode, tag and payload, unanswered, or answered ST_BAD_OPCODE where its opcode is not assigned, or with the
stored response where its tag is in the window; a LENGTH beyond 8,176 is answered ST_BAD_LENGTH and the tail moves to the head. The
response of a started command past its limit is ST_ACCEPTED (R68). A held DONE event is written to the ring where an entry is free, and
sets EVENT (R76, R78). An envelope that passes the checks is taken with its sequence number, and one that fails is not (R81). -/
def Obligations.MailboxRowsAct : Prop :=
  ∀ (s : State) (n : Slot) (p : Port) (src : BitVec 48) (vid : BitVec 12) (body : Bytes),
    let x := s.slot n.val
    let taken (op tag : Nat) (payload : Bytes) : InFlight :=
      { op := BitVec.ofNat 16 op, tag := BitVec.ofNat 16 tag, payload := payload, dup := false, excused := false, orphan := false
        started := false, answer := if knownOp op then none else some stBadOpcode }
    let buffer (off len : Nat) : Bytes := ringRead s.ram (0x8000 * n.val) 8192 (x.reqTail.toNat + off) len
    let op := le (buffer 0 16) 0 2
    let tag := le (buffer 0 16) 2 2
    let len := le (buffer 0 16) 4 2
    let head := slice body 16 16
    let frame : Inbound := { port := p, dst := Config.managementMac, src := src, vid := vid, body := body }
    (s.running = true → x.state ≠ .unbound → x.isEth = false → x.canTake = true →
      (len ≤ 8176 → msgSize len ≤ (x.reqHead - x.reqTail).toNat →
        ∃ q, exec (.requestTake n) s = .next q ∧ (q.slot n.val).reqTail = x.reqTail + BitVec.ofNat 16 (msgSize len) ∧
          (x.holder (BitVec.ofNat 16 tag) = none → (q.slot n.val).inFlight = x.inFlight ++ [taken op tag (buffer 16 len)]) ∧
          (∀ w, x.holder (BitVec.ofNat 16 tag) = some w → (q.slot n.val).inFlight = x.inFlight ++
            [{ taken op tag (buffer 16 len) with op := w.op, dup := true, answer := w.answer.map replayOf }]) ∧
          (∀ m, m ≠ n.val → q.slot m = s.slot m) ∧ q.ram = s.ram) ∧
      (8176 < len → 16 ≤ (x.reqHead - x.reqTail).toNat →
        ∃ q, exec (.requestTake n) s = .next q ∧ (q.slot n.val).reqTail = x.reqHead ∧
          (x.holder (BitVec.ofNat 16 tag) = none →
            (q.slot n.val).inFlight = x.inFlight ++ [{ taken op tag [] with answer := some stBadLength }]) ∧
          (∀ m, m ≠ n.val → q.slot m = s.slot m) ∧ q.ram = s.ram)) ∧
    (∀ f fs, x.inFlight = f :: fs → f.answer = none → f.dup = false → f.started = true → x.jobs.length < 4 →
      ∃ q, exec (.responseWrite n) s = .next q ∧ (q.slot n.val).inFlight.head? = some { f with answer := some (answer 2 []) } ∧
        (q.slot n.val).jobs = x.jobs ++ [{ tag := f.tag, op := f.op, finished := false }] ∧ q.ram = s.ram) ∧
    (∀ h hs, x.held = h :: hs → x.isEth = false → x.evtFree ≠ 0 → s.canonical → h.entry.length = 64 →
      let base := 0x8000 * n.val + 0x4000 + 64 * (x.evtHead.toNat % 64)
      ∃ q, exec (.doneEvent n) s = .next q ∧ (q.slot n.val).held = hs ∧ (q.slot n.val).evtHead = x.evtHead + 1 ∧
        (q.slot n.val).evu.cause = x.evu.cause ||| 2 ∧ (q.slot n.val).jobs = dropFinished x.jobs h.tag ∧
        (∀ k, k < 64 → q.ram.read (base + k) = h.entry.getD k 0) ∧
        (∀ a, a < base ∨ base + 64 ≤ a → q.ram.read a = s.ram.read a)) ∧
    (∀ b, s.running = true → s.atF27 frame = true → byteAt body 6 = n.val → x.binding = .eth b →
      (s.envelopeFault n.val b p.val Config.managementMac src vid body = none → x.inFlight.length < 8 →
        ∃ q, exec (.envelopeReceive p Config.managementMac src vid body) s = .next q ∧
          (q.slot n.val).ethRx = be body 8 8 ∧ q.net.inbox = s.net.inbox.erase frame ∧
          (le head 4 2 ≤ 8176 → x.holder (BitVec.ofNat 16 (le head 2 2)) = none →
            (q.slot n.val).inFlight = x.inFlight ++ [taken (le head 0 2) (le head 2 2) (slice body 32 (le body 20 2))])) ∧
      (∀ e, s.envelopeFault n.val b p.val Config.managementMac src vid body = some e →
        ∃ q, exec (.envelopeReceive p Config.managementMac src vid body) s = .next q ∧
          (q.slot n.val).ethRx = x.ethRx ∧ (q.slot n.val).inFlight = x.inFlight))

/-- A response with room lands in its slot's response buffer from MBX_RSP_HEAD on, wrapping at 8 KiB, and no other byte of memory
changes; MBX_RSP_HEAD moves past it and RESP is set (R60, R63, R64). -/
def Obligations.ResponseLandsInItsBuffer : Prop :=
  ∀ (s : State) (n : Slot) (f : InFlight) (fs : List InFlight) (a : Answer),
    s.canonical → (s.slot n.val).inFlight = f :: fs → f.answer = some a → f.orphan = false → f.op ≠ 0x0103 →
    (s.slot n.val).replyTo = none → (s.slot n.val).isEth = false → msgSize a.payload.length ≤ (s.slot n.val).rspRoom →
    let size := msgSize a.payload.length
    let at_ (k : Nat) : Nat := 0x8000 * n.val + 0x2000 + ((s.slot n.val).rspHead.toNat + k) % 8192
    ∃ q, exec (.responseWrite n) s = .next q ∧
      (∀ k, k < size → q.ram.read (at_ k) = (responseMsg n.val f.op f.tag a).getD k 0) ∧
      (∀ b, (∀ k, k < size → b ≠ at_ k) → q.ram.read b = s.ram.read b) ∧
      (q.slot n.val).rspHead = (s.slot n.val).rspHead + BitVec.ofNat 16 size ∧ (q.slot n.val).inFlight = fs ∧
      (q.slot n.val).evu.cause.getLsbD 0 = true

/-! Boot. -/

/-- While GO reads 1, BOOT_XFER is not written, by any transport, and a change of the landing buffer is undefined (R95): the machine
stops. -/
def Obligations.ChunkIsFrozenWhileGo : Prop :=
  ∀ (s : State) (t : Transport) (v : Word) (off : Nat) (data : Bytes), s.reaches t = true → s.boot.go = true →
    (∃ q, exec (.bootXferGo t v) s = .next q ∧ q.boot = s.boot) ∧
    (∃ q, exec (.registerWrite t 0x4008 (wordBytes v)) s = .next q ∧ q.boot = s.boot) ∧
    (s.running = false → s.bootRefused t = false → data ≠ [] → off + data.length ≤ landingSize →
      s.ram.readAll off data.length ≠ data → exec (.landingBufferWrite t off data) s = .fault .landingBufferChanged)

/-- The boot rows (R48, R50, R91 to R100, R104): each completes with its step of the download; a timed-out download ends with SEQUENCE
and a free buffer; firmware starts with S0 open on the transport that delivered the image, and only S0 permitted. -/
def Obligations.BootRowsAct : Prop :=
  ∀ (s : State) (t : Transport) (v : Word) (off : Nat) (data : Bytes) (disturbed : List (Nat × Byte)) (straps : BitVec 2),
    (s.reaches t = true → s.running = false → s.bootRefused t = false → s.boot.go = false → data ≠ [] →
      off + data.length ≤ landingSize →
      exec (.landingBufferWrite t off data) s = .next { s with ram := s.ram.writeAll off data }) ∧
    (s.reaches t = true → s.bootRefused t = false → s.boot.go = false →
      exec (.bootXferGo t v) s = .next ((s.modBoot (fun b => { b with
        last := v.getLsbD 30, first := v.getLsbD 29, len := v.setWidth 19 })).bootGo t)) ∧
    (s.boot.go = true → s.boot.state = .receiving → exec .chunkDone s = .next s.chunkDone ∧ s.chunkDone.boot.go = false) ∧
    (s.boot.state = .receiving → s.boot.go = false →
      ∃ q, exec .bootOwnerTimeout s = .next q ∧ q.boot.state = .waitImage ∧ q.boot.result = 0x17 ∧ q.boot.owned = false ∧
        q.image = [] ∧ q.boot.go = false) ∧
    (s.boot.state = .verifying → s.boot.released = false →
      ∃ q, exec .verifyDone s = .next q ∧
        if signatureOk s.image then q.boot.released = true ∧ q.boot.result = 1
        else q.boot.state = .waitImage ∧ q.boot.result = 0x14) ∧
    (s.boot.state = .verifying → s.boot.released = true →
      ∃ q, exec .firmwareStart s = .next q ∧ q.running = true ∧ (q.slot 0).state = .opened ∧
        (q.slot 0).binding = Transport.binding s.boot.deliveredBy ∧ q.hiu.permit = 1) ∧
    (s.dieMayStart = true → s.boot.lcs = 3 → s.retSeal.marker = false →
      ∃ q, exec (.dieStart straps true) s = .next q ∧ q.boot.bootsel = straps ∧ q.pd0.die = true ∧ q.time.run = true ∧
        q.boot.state = .waitImage) ∧
    (s.pd0.die = true → s.boot.state = .resumeCheck → exec (.sealCheckDone disturbed) s = .next (s.sealCheck disturbed))

/-! Resets and the always-on domain. -/

/-- Rows of the always-on domain (R47, R513 to R518, R528): each completes with its own effect. -/
def Obligations.AlwaysOnRowsAct : Prop :=
  ∀ (s : State) (r : Fin 7) (ok : Bool),
    (s.pd0.vbatGood = true → s.pd0.resetN = true → s.pd0.die = true →
      ∃ q, exec .resetNAssert s = .next q ∧ q.pd0.resetN = false ∧ q.pd0.die = false ∧ q.boot.state = .powerUp) ∧
    (s.pd0.vbatGood = true → s.pd0.resetN = false →
      ∃ q, exec .resetNRelease s = .next q ∧ q.pd0.resetN = true ∧ q.pws.resetCause.getLsbD 1 = true ∧ q.pws.wakeSource = 0) ∧
    (s.pd0.vbatGood = false → exec (.powerOnReset true) s = .next { s with pd0 := { s.pd0 with vbatGood := true } }) ∧
    (s.pd0.vbatGood = true →
      ∃ q, exec (.powerOnReset false) s = .next q ∧ q.pd0.vbatGood = false ∧ q.pd0.die = false ∧ q.pws.resetCause = 1 ∧
        q.boot.keyrevFused = s.boot.keyrevFused ∧ q.boot.secverFused = s.boot.secverFused ∧ q.boot.lcsFused = s.boot.lcsFused) ∧
    (s.pd0.vbatGood = true → s.railGood r.val = true → exec (.railFault r) s = .next (s.railLost r.val)) ∧
    (s.pd0.vbatGood = true → s.railGood r.val = false → exec (.railGood r) s = .next (s.railBack r.val)) ∧
    (s.pd0.vbatGood = true → s.pd0.inh0 = true → s.pd0.thermal = false →
      ∃ q, exec .thermalShutdown s = .next q ∧ q.pd0.inh0 = false ∧ q.pd0.inh1 = false ∧ q.pd0.die = false ∧
        q.pws.resetCause.getLsbD 5 = true) ∧
    (s.pd0.vbatGood = true → s.pd0.thermal = true →
      ∃ q, exec .thermalRecovery s = .next q ∧ q.pd0.inh0 = true ∧ q.pd0.thermal = false) ∧
    (s.pd0.vbatGood = true → s.pd0.crystalTried = false →
      exec (.xtal32kSwitch ok) s = .next { s with pd0 := { s.pd0 with crystal := ok, crystalTried := true } }) ∧
    (s.pd0.vbatGood = true → s.pd0.inh0 = false → s.pd0.thermal = false → s.sleep.inhHold = false → s.sleep.phase ≠ .sleeping →
      ∃ q, exec .inh0AssertAfterPor s = .next q ∧ q.pd0.inh0 = true) ∧
    (s.pd0.vbatGood = true → s.pd0.inh0 = true → s.sleep.inhMode = 0 →
      ∃ q, exec .inh1DelayExpiry s = .next q ∧ q.pd0.inh1 = true) ∧
    (s.pcieCanTrain = true → exec .pcieLinkUp s = .next { s with net := { s.net with pcieUp := true } })

/-- A watchdog reset (R47, R89): the die starts cold, with WATCHDOG recorded beside the causes already there; every slot, the window's
registers and the mailbox memory are as after reset; fuses, the pins of PD0 and what was sent stay. -/
def Obligations.WatchdogResetStartsCold : Prop :=
  ∀ (s : State), s.running = true →
    ∃ q, exec .watchdogExpiry s = .next q ∧ q.boot.state = .powerUp ∧ q.pd0 = { s.pd0 with die := false } ∧
      q.pws.resetCause = s.pws.resetCause ||| 4 ∧ q.pws.wakeSource = 0 ∧
      q.slots = State.reset.slots ∧ q.hiu = State.reset.hiu ∧ q.cmu = State.reset.cmu ∧ q.ram = [] ∧ q.owners = [] ∧
      q.boot.keyrevFused = s.boot.keyrevFused ∧ q.boot.keyrev = s.boot.keyrevFused ∧ q.boot.secver = s.boot.secverFused ∧
      q.boot.lcs = s.boot.lcsFused ∧ q.out = s.out ∧ q.tick = s.tick ∧ q.pending = s.pending

/-! Host frame rings. -/

/-- While ENABLE is 1 a ring keeps its base and its fields other than ENABLE and IRQ_EN, and an attempt sets CFG_ERR; enabling with a
size outside 6 to 12 does not enable and sets CFG_ERR; enabling sets TAIL and HEAD to 0 (R118). -/
def Obligations.EnabledRingKeepsItsShape : Prop :=
  ∀ (s : State) (t : Transport) (n : Slot) (r : Fin 8) (v : Word),
    s.reaches t = true → s.slotOf t = some n.val → (s.fnOf n.val).isSome = true →
    let g := s.ringAt n.val r.val
    (g.enable = true →
      exec (.registerWrite t (ringReg n.val r.val 0) (wordBytes v)) s =
        .next (s.modRing n.val r.val (fun g => { g with cfgErr := true })) ∧
      exec (.registerWrite t (ringReg n.val r.val 4) (wordBytes v)) s =
        .next (s.modRing n.val r.val (fun g => { g with cfgErr := true })) ∧
      ∃ q, exec (.ringCtrlEnable t n r v) s = .next q ∧
        q.ringAt n.val r.val = { g with irqEn := v.getLsbD 12, cfgErr := (q.ringAt n.val r.val).cfgErr } ∧
        (v.toNat &&& Ring.ctrlMask (decide (4 ≤ r.val)) ≠ g.ctrl &&& Ring.ctrlMask (decide (4 ≤ r.val)) →
          (q.ringAt n.val r.val).cfgErr = true)) ∧
    (g.enable = false → v.toNat % 16 < 6 ∨ 12 < v.toNat % 16 →
      ∃ q, exec (.ringCtrlEnable t n r v) s = .next q ∧ (q.ringAt n.val r.val).enable = false ∧
        (q.ringAt n.val r.val).cfgErr = true) ∧
    (g.enable = false → 6 ≤ v.toNat % 16 → v.toNat % 16 ≤ 12 →
      ∃ q, exec (.ringCtrlEnable t n r v) s = .next q ∧ (q.ringAt n.val r.val).enable = true ∧
        (q.ringAt n.val r.val).tail = 0 ∧ (q.ringAt n.val r.val).head = 0)

/-- The ring rows (R117, R119, R120, R122, R124, R126, R127): disabling clears ENABLE; TAIL is stored, and beyond the ring's size it is
undefined and the machine stops; fetches, returns and deliveries run. -/
def Obligations.RingRowsAct : Prop :=
  ∀ (s : State) (t : Transport) (n : Slot) (r : Fin 8) (v : Word) (descs : List DescRead),
    let g := s.ringAt n.val r.val
    let tail : Half := v.setWidth 16
    (s.reaches t = true → s.slotOf t = some n.val → (s.fnOf n.val).isSome = true →
      (g.enable = true → ∃ q, exec (.ringCtrlDisable t n r v) s = .next q ∧ (q.ringAt n.val r.val).enable = false ∧
        (q.ringAt n.val r.val).tail = g.tail ∧ (q.ringAt n.val r.val).head = g.head) ∧
      (g.enable = true → g.size < (tail - g.head).toNat → exec (.ringTailWrite t n r v descs) s = .fault .ringMisuse) ∧
      (g.enable = false ∨ (tail - g.head).toNat ≤ g.size →
        exec (.ringTailWrite t n r v descs) s =
          .next ((s.modRing n.val r.val (fun g => { g with tail := tail, stopped := g.enable && tail != g.fetched })).ringFetch
            n.val r.val descs))) ∧
    (g.stopped = true → exec (.ringFetchRetry n r descs) s = .next (s.ringFetch n.val r.val descs)) ∧
    (∀ fn f fs st, s.fnOf n.val = some fn → g.frames = f :: fs → f.status = some st → f.can = false →
      ∃ q, exec (.txDescriptorReturn n r) s = .next q ∧ (q.ringAt n.val r.val).frames = fs ∧
        (q.ringAt n.val r.val).head = g.head + BitVec.ofNat 16 f.descs.length) ∧
    (∀ fn f fs st, s.fnOf n.val = some fn → g.frames = f :: fs → f.status = some st → f.can = true →
      ∃ q, exec (.canTxDescriptorReturn n r) s = .next q ∧ (q.ringAt n.val r.val).frames = fs ∧
        (q.ringAt n.val r.val).head = g.head + BitVec.ofNat 16 f.descs.length) ∧
    (∀ i w f, s.atHost n.val i = some (w, f) → exec (.rxRingDeliver n (some i) descs) s = .next (s.rxEth w f descs)) ∧
    (∀ x, s.voutOf n.val = some x → exec (.rxRingDeliver n none descs) s = .next (s.rxCan x descs))

/-! Frames, queues, gates and links. -/

/-- The rows of reception and of the fabric (R129 to R158, R193 to R201): a frame start latches MAX_FRAME and the time-stamp and
nothing else; the other rows complete with their step of the frame's life. -/
def Obligations.FrameRowsAct : Prop :=
  ∀ (s : State) (p : Port) (bytes : Bytes) (preempt fcs icv : Bool) (fault : RxFault) (k : Nat),
    (s.canStart p.val = true →
      ∃ q, exec (.frameStart p preempt) s = .next q ∧ (q.rx p.val).active = true ∧
        (q.rx p.val).stamp = s.quantise p.val s.clockPs / 1000 ∧
        (q.rx p.val).maxFrame = le (s.fwd p.val) 14 2 ∧ q = { s with net := { s.net with rx := q.net.rx } }) ∧
    (s.canHand p.val bytes = true → exec (.headerHandover p bytes) s = .next (s.handOver p.val bytes)) ∧
    (∀ f, s.deepFrame p.val bytes = some f → exec (.deepRulePass p bytes) s = .next (s.deepPass f)) ∧
    ((s.rx p.val).active = true → (s.rx p.val).maxFrame < bytes.length →
      exec (.oversizeRefuse p bytes) s = .next (s.oversize p.val bytes)) ∧
    ((s.rx p.val).active = true →
      exec (.rxError p bytes fault) s =
        .next ((if fault.assembly then (s.count (.gate p.val .fragmentsRx) fault.fragments).count (.gate p.val .assemblyErr)
          else s.count (.gate p.val .fragmentsRx) fault.fragments).endReception p.val bytes true true true) ∧
      exec (.frameEnd p bytes fcs icv k) s =
        .next ((s.count (.gate p.val .fragmentsRx) k).endReception p.val bytes false fcs icv)) ∧
    (∀ f, s.toRule p.val = some f → exec (.confirmation p) s = .next (s.ruleFrame f.id)) ∧
    (s.memTest.result ≠ 2 → exec .cellTimeMatch s = .next s.cellTime)

/-- The rows of transmission, gates, preemption and sampling (R213 to R266): each completes with its own effect. -/
def Obligations.EgressRowsAct : Prop :=
  ∀ (s : State) (p : Port) (tc : TC) (g : Fin 64) (ps : Nat),
    (s.linkUp p.val = true → s.startsNow p.val ps = true → exec (.egressChoice p ps) s = .next (s.choose p.val ps)) ∧
    (∀ l, (s.egr p.val).line = some l → exec (.txComplete p) s = .next (s.txComplete p.val l)) ∧
    exec .shaperRefill s = .next s.refillAll ∧
    ((s.pg p.val).oper.enabled = true →
      exec (.gateEntryBoundary p) s = .next (s.entriesTo p.val ((s.pg p.val).entryNow s.now) 256)) ∧
    (s.holdComes p.val = true → exec (.holdAssert p) s = .next ((s.assertHold p.val).holdCut p.val)) ∧
    (s.gateDue p.val = true →
      exec (.gateConfigChange p) s = .next ((s.gateChange p.val).countOverrun p.val (s.pg p.val).changeAt)) ∧
    ((s.pg p.val).status = .verifying →
      (∃ q, exec (.preemptVerifyResponse p) s = .next q ∧ (q.pg p.val).status = .active) ∧
      exec (.preemptVerifyTimeout p) s = .next (s.verifyTimeout p.val)) ∧
    exec (.streamGateEntry g) s =
      .next { s with net := { s.net with sgates := vmod s.net.sgates g.val (fun x => x.reposition s.now) } } ∧
    ((s.queue p.val tc.val).sampling.enable = true → s.sampleDue (s.queue p.val tc.val) = true →
      ∃ q, exec (.queueSample p tc) s = .next q ∧
        (q.queue p.val tc.val).sampling =
          (s.queue p.val tc.val).sampling.add (s.queue p.val tc.val).depth (s.sojourn p.val tc.val) ∧
        q = { s with net := { s.net with queues := q.net.queues } })

/-- The rows of links and PHYs (R209, R210, R301, R305 to R312, R316): each completes with its own effect. -/
def Obligations.LinkRowsAct : Prop :=
  ∀ (s : State) (p : Port) (sqi : Fin 8) (ok : Bool),
    (s.isUp p.val = true → exec (.linkDown p) s = .next (s.linkDown p.val .down 1 (s.linkHold p.val))) ∧
    ((s.phy p.val).link = .training → exec (.linkUp p sqi) s = .next (s.trainingDone p.val true sqi.val)) ∧
    (s.canTrain p.val = true → ((s.startTraining p.val (s.phy p.val).attemptCause).phy p.val).link = .training →
      exec (.linkUp p sqi) s = .next ((s.startTraining p.val (s.phy p.val).attemptCause).trainingDone p.val true sqi.val)) ∧
    exec (.linkHoldExpiry p) s = .next (s.holdExpiry p.val) ∧
    (s.canTrain p.val = true → exec (.trainingStart p) s = .next (s.startTraining p.val (s.phy p.val).attemptCause)) ∧
    ((s.phy p.val).link = .training → exec (.trainingDone p ok sqi) s = .next (s.trainingDone p.val ok sqi.val)) ∧
    (s.mustAskAgain p.val = true → exec (.trainGrantRetry p) s = .next (s.ask .train p.val true)) ∧
    (s.isUp p.val = true → isT1 p.val = true →
      ∃ q, exec (.coeffStore p) s = .next q ∧ (q.phy p.val).stored = some (s.phy p.val).rate ∧
        q = { s with net := { s.net with phys := q.net.phys } }) ∧
    (∃ q, exec (.sqiSample p sqi) s = .next q ∧
      (q.phy p.val).sqi = if s.isUp p.val = false then 0 else if 2 ≤ p.val ∧ p.val ≤ 4 then 7 else sqi.val) ∧
    (s.isUp p.val = true → 23 ≤ p.val → byteAt (s.phy p.val).plca 0 ≠ 0 →
      exec (.plcaBeaconTimeout p) s = .next ((s.count (.phy p.val .beaconLoss)).linkDown p.val .down 1 (s.linkHold p.val)))

/-- A link that goes down is down with SQI 0 and keeps its mode record; the next training may be fast (R307, R309, R311). -/
def Obligations.LinkDownLeavesTheLinkDown : Prop :=
  ∀ (s : State) (p : Port), s.isUp p.val = true →
    ∃ q, exec (.linkDown p) s = .next q ∧ (q.phy p.val).link = .down ∧ (q.phy p.val).sqi = 0 ∧
      (q.phy p.val).mayFast = true ∧ (q.phy p.val).mode = (s.phy p.val).mode

/-- Housekeeping rows (R142, R180, R189, R378): aged addresses and conversations go and no other; swaps retire and fire. -/
def Obligations.SweepRowsAct : Prop :=
  ∀ (s : State),
    (∃ q, exec .fdbAgeSweep s = .next q ∧
      (∀ e, e ∈ q.net.fdb ↔ e ∈ s.net.fdb ∧ ¬ (e.2.dynamic = true ∧ e.2.refreshed + s.net.ageTime * 800000000 ≤ s.tick)) ∧
      q = { s with net := { s.net with fdb := q.net.fdb } }) ∧
    (∃ q, exec .conversationSweep s = .next q ∧
      (∀ e, e ∈ q.net.customs.convs ↔
        e ∈ s.net.customs.convs ∧ ¬ e.refreshed + s.net.customs.timeout e * 800000000 ≤ s.tick) ∧
      q = { s with net := { s.net with customs := { s.net.customs with convs := q.net.customs.convs } } }) ∧
    exec .generationRetired s = .next s.retireAll ∧ exec .timedSwapFire s = .next s.fireSwaps

/-- The rows of backbone redundancy (R288 to R303): each completes with its own effect; the reset timer lets a recovery function take
any sequence number. -/
def Obligations.RedundancyRowsAct : Prop :=
  ∀ (s : State) (i : Fin 256) (p : Fin 2) (flags : Byte) (seq : Word),
    ((s.recovery i.val).enabled = true →
      ∃ q, exec (.frerResetTimer i) s = .next q ∧ (q.recovery i.val).takeAny = true) ∧
    (s.running = true → s.net.red.second ≠ s.now / 1000000000 → exec .healthReport s = .next s.healthReport) ∧
    (byteAt s.net.red.protect 4 = 1 → s.linkUp p.val = true → exec (.probeSend p) s = .next (s.sendProbe p.val)) ∧
    (s.linkUp p.val = true → exec (.probeReceive p flags seq) s = .next (s.takeProbe p.val flags.toNat seq.toNat)) ∧
    (byteAt s.net.red.protect 4 = 1 →
      exec (.probeMissTimeout p) s = .next ((s.modMember p.val (fun m => { m with probeBad := true })).judgeMembers)) ∧
    (s.linkUp p.val = true → (s.phy p.val).sqi < byteAt s.net.red.protect 8 →
      exec (.sqiHoldExpiry p) s = .next ((s.modMember p.val (fun m => { m with sqiBad := true })).judgeMembers)) ∧
    (s.net.red.state = .wtr → exec .wtrExpiry s = .next (s.protTo .onA false none))

/-! Time. -/

/-- A read of TU_NOW_LO answers the low half of the nanosecond count and latches the rest for its reader alone (R269, R270). -/
def Obligations.NowReadLatchesForItsReader : Prop :=
  ∀ (s : State) (t : Transport), s.reaches t = true → s.time.ns < 2 ^ 64 →
    ∃ q, exec (.tuNowLoRead t) s = .next q ∧
      q.out = .readData t (wordBytes (BitVec.ofNat 32 s.time.ns)) :: s.out ∧
      (vget q.time.latch t.val).hi = BitVec.ofNat 32 (s.time.ns / 2 ^ 32) ∧
      (vget q.time.latch t.val).frac = BitVec.ofNat 32 s.time.frac ∧
      (∀ u : Transport, u ≠ t → vget q.time.latch u.val = vget s.time.latch u.val) ∧
      q = { s with out := q.out, time := { s.time with latch := q.time.latch } }

/-- A clock increment whose integer part is 0 is undefined (R267): the machine stops. Another one, from the transport that may tune the
clock, is held for the next tick with the fraction written before. -/
def Obligations.ClockIncrementNeedsAnInteger : Prop :=
  ∀ (s : State) (t : Transport) (v : Word) (n : Slot) (tag : Half) (p : Bytes),
    (s.reaches t = true → s.mayTune t = true →
      exec (.tuIncrIntWrite t v) s =
        if v.toNat % 256 = 0 then .fault .zeroIncrement
        else .next { s with time := { s.time with nextIncr := BitVec.ofNat 40 (v.toNat % 256 * 2 ^ 32 + s.time.heldFrac.toNat) } }) ∧
    (s.admitted cmdTimeSetRate n.val tag p = true → byteAt p 0 ≠ 0 →
      exec (.timeSetRate n tag p) s = .next (s.served cmdTimeSetRate n.val tag p)) ∧
    (s.admitted cmdTimeSetRate n.val tag p = true → byteAt p 0 = 0 → s.time.nextIncr.toNat / 2 ^ 32 ≠ 0 →
      exec (.timeSetRate n tag p) s = .fault .zeroIncrement)

/-- A second write of the time step in one epoch is refused with LOCK_ERR (R31, R272); the first steps the clock. -/
def Obligations.TimeStepIsOncePerEpoch : Prop :=
  ∀ (s : State) (t : Transport) (v : Word), s.reaches t = true → s.mayTune t = true →
    (s.time.stepLocked = true →
      exec (.tuStepHiWrite t v) s = .next (s.lockErr t 0x20020) ∧ (s.lockErr t 0x20020).time = s.time ∧
      (s.lockErr t 0x20020).hiu.err.getLsbD 0 = true) ∧
    (s.time.stepLocked = false →
      exec (.tuStepHiWrite t v) s =
        .next ((s.modTime (fun u => { u with stepHi := v })).stepClock (signedOf 64 (v.toNat * 2 ^ 32 + s.time.stepLo.toNat))))

/-- The other rows of the time unit (R269 to R287): each completes with its own effect. -/
def Obligations.TimeRowsAct : Prop :=
  ∀ (s : State) (t : Transport) (n : Fin 16) (k : Fin 6) (i : Fin 4) (p : Port) (b : Bool) (v : Word) (gm : DWord) (d : Nat)
    (rate : Int),
    ((vget s.time.alarms n.val).active.enable = true → s.alarmDiff n.val ≤ 0 →
      exec (.alarmFire n) s = .next (s.fireAlarm n.val false)) ∧
    (s.bank33 = true → (vget s.time.io k.val).active.function = 1 → exec (.timeIoEdge k b) s = .next (s.captureEdge k.val b)) ∧
    (∀ c, (vget s.time.io k.val).waiting = some c → (vget s.time.io k.val).held s.tick = true →
      exec (.captureFilterEnd k b) s = .next (s.filterEnd k.val b c)) ∧
    (s.reaches t = true → v.getLsbD 0 = true →
      ∃ q, exec (.capPopWrite t k v) s = .next q ∧
        (vget q.time.io k.val).captures = (vget s.time.io k.val).captures.drop 1) ∧
    ((vget s.time.io k.val).running = true → (vget s.time.io k.val).inside s.now ≠ (vget s.time.io k.val).inPulse →
      exec (.timeIoPulseEdge k) s = .next (s.ioEdge k.val)) ∧
    (s.takesSync i.val = true → exec (.syncReceive i gm d rate) s = .next (s.syncReceive i.val gm d rate)) ∧
    (s.running = true → (s.gptp i.val).ownMaster = false → (s.gptp i.val).state = .locked →
      exec (.syncTimeout i) s = .next ((s.count (.time (100 + i.val) .syncTimeouts)).gptpTo i.val .holdover)) ∧
    (s.masterOn i.val p.val = true → s.time.driving i.val = true →
      exec (.syncTransmit i p) s = .next (s.sendGptp p.val 44 true)) ∧
    (s.running = true →
      ∃ q, exec (.pdelayExchange p d false) s = .next q ∧ (vget q.time.ports p.val).linkDelay = d) ∧
    (s.running = true → s.time.source = 1 → (s.gptp s.time.driver.toNat).gm ≠ gm →
      ∃ q, exec (.grandmasterChange gm) s = .next q ∧ q.time.epoch = s.time.epoch + 1 ∧
        (q.gptp s.time.driver.toNat).gm = gm)

/-! CAN, LIN and serial edges. -/

/-- The rows of the CAN channels (R330 to R354): each completes with its own effect. -/
def Obligations.CanRowsAct : Prop :=
  ∀ (s : State) (c : CanCh) (f : CanFrame) (sof : Nat) (b : Bool) (kind : Fin 6) (o : Fin 3),
    exec (.canFrameValid c f.id f.format f.af f.sdt f.vcid f.data sof) s = .next (s.canValid c.val f sof) ∧
    (s.canHears c.val = true → canXl (s.canCh c.val).record = false → bitOf (byteAt (s.canCh c.val).record 0) 2 = true →
      exec (.canProtocolException c true) s =
        .next ((s.count (.can c.val .pexEvents)).modCan c.val (fun x => { x with receiving := false }))) ∧
    (s.canHears c.val = true → exec (.canBusError c kind b) s = .next (s.canError c.val (kind.val + 1) b)) ∧
    exec (.canAttemptEnd c o sof) s = .next (s.attemptEnd c.val o.val sof) ∧
    ((s.canCh c.val).state = .normal → exec (.canSlotLoad c false) s = .next (s.feedCan c.val)) ∧
    (∃ q, exec (.canLaunchReached c) s = .next q ∧
      (q.canCh c.val).queues = (s.canCh c.val).queues.map (fun l => l.map (fun t =>
        if passed s.now t.launch then { t with launch := none } else t)) ∧ q = { s with can := q.can }) ∧
    exec (.canLifetimeExpiry c) s = .next (s.canExpire c.val) ∧
    exec (.canModeApply c) s = .next ((s.modCan c.val (fun x => { x with receiving := false })).applyWanted c.val) ∧
    ((s.canCh c.val).state = .recovering → s.vcc5 = true → s.canSegUp c.val = true →
      ∃ q, exec (.canRecoveryDone c) s = .next q ∧ (q.canCh c.val).tec = 0 ∧ (q.canCh c.val).rec_ = 0) ∧
    (∀ d, (s.canCh c.val).state = .detecting → (s.canCh c.val).detect = some d → d.current + 1 < d.candidates.length →
      ∃ q, exec (.canDetectDwellEnd c) s = .next q ∧ (q.canCh c.val).detect = some { d with current := d.current + 1 } ∧
        q = { s with can := q.can }) ∧
    ((s.canCh c.val).state ≠ .off → exec (.dominantTimeout c false) s = .next (s.count (.can c.val .busDominant))) ∧
    exec (.vcc5Change b) s = .next (s.vcc5To b)

/-- A CAN or serial receive entry is released by its owner alone (R343, R357): with one it does not own the machine stops, and with its
own the command runs. -/
def Obligations.OnlyOwnedEntriesAreReleased : Prop :=
  ∀ (s : State) (n : Slot) (tag : Half) (p : Bytes),
    (s.admitted cmdCanRxRelease n.val tag p = true →
      exec (.canRxRelease n tag p) s =
        if (vget (s.canCh (byteAt p 0)).fifos (byteAt p 1)).ownsAll (handlesOf p) then
          .next (s.served cmdCanRxRelease n.val tag p) else .fault .entryNotOwned) ∧
    (s.admitted cmdSerRxRelease n.val tag p = true →
      exec (.serRxRelease n tag p) s =
        if (s.serFifo (le p 0 2)).ownsAll (handlesOf p) then .next (s.served cmdSerRxRelease n.val tag p)
        else .fault .entryNotOwned)

/-- The rows of the LIN and UART channels (R356 to R370): each completes with its own effect. -/
def Obligations.LinAndUartRowsAct : Prop :=
  ∀ (s : State) (c : LinCh) (u : UartCh) (id : Fin 64) (b : Bool) (data : Bytes) (stamp : Nat) (e : Fin 4),
    ((s.linCh c.val).master = true → exec (.linScheduleEntry c) s = .next (s.linSchedule c.val)) ∧
    exec (.linHeaderReceived c id b) s = .next (s.linHeaderIn c.val id.val b) ∧
    exec (.linFrameReceived c id data stamp e) s = .next (s.linFrame c.val id.val data stamp e.val) ∧
    exec (.linResponseTimeout c b) s = .next (s.linTimeout c.val b) ∧
    ((s.linCh c.val).state = 1 → (s.linCh c.val).master = false → bitOf (byteAt (s.linCh c.val).record 1) 2 = true →
      exec (.linIdleSleep c) s =
        .next (if ((s.linFrameEnds c.val).linCh c.val).state = 1 then (s.linFrameEnds c.val).linTo c.val 2 2 3
          else s.linFrameEnds c.val)) ∧
    (s.watches (16 + c.val) = true → bitOf (byteAt (s.linCh c.val).record 1) 1 = true →
      exec (.linWakeDetect c) s = .next ((s.count (.lin c.val .wakes)).wireWake 4 c.val (16 + c.val) none)) ∧
    ((s.linCh c.val).resuming = true →
      ∃ q, exec (.linWakeResume c) s = .next q ∧ (q.linCh c.val).resuming = false ∧ (q.linCh c.val).entry = 0 ∧
        q = { s with lin := q.lin }) ∧
    exec (.uartMessageEnd u data stamp b) s = .next (s.uartMessage u.val data stamp b) ∧
    (s.bank33 = true → (s.uartCh u.val).j1708 = true → (s.uartCh u.val).state = 1 → (s.uartCh u.val).wanted = [] →
      (s.uartCh u.val).queue ≠ [] →
      ∃ q, exec (.uartAccessWaitEnd u) s = .next q ∧ (q.uartCh u.val).sending = true ∧ q = { s with uart := q.uart }) ∧
    exec (.uartTxEnd u) s = .next (s.uartSent u.val) ∧ exec (.uartEchoCollision u) s = .next (s.uartCollision u.val) ∧
    exec (.uartLifetimeExpiry u) s = .next (s.uartExpire u.val)

/-! Relays, ciphers, keys. -/

/-- Each output of a route takes the identifier id' = (id AND NOT RW_MASK) OR (RW_VALUE AND RW_MASK), over bits [29:0], IDE included
(R379). -/
def Obligations.RouteRewritesOnlyMaskedBits : Prop :=
  ∀ (r : Bytes) (id i : Nat),
    (rewrittenId r id).testBit i =
      (decide (i < 30) && if (le r 20 4).testBit i then (le r 16 4).testBit i else id.testBit i)

/-- The rows of the relay engines (R371 to R415): a debugger halts and releases an engine; the other rows complete with their step of a
job, a check, a tunnel. -/
def Obligations.RelayRowsAct : Prop :=
  ∀ (s : State) (e : Engine) (source : Half) (b : Bool) (strikes : List Strike) (t : Fin 256) (bytes : Bytes)
    (stamp : Nat),
    (s.debugOpen = true → s.running = true →
      (∃ q, exec (.debuggerWrite (.engine e) .halt) s = .next q ∧ (q.engine e.val).halted = true ∧ q = { s with relay := q.relay }) ∧
      (∃ q, exec (.debuggerWrite (.engine e) .release) s = .next q ∧ (q.engine e.val).halted = false ∧ q = { s with relay := q.relay })) ∧
    (∀ j, ((s.startJob e.val).engine e.val).job? s.relay.nextJob = some j → j.escorted = false →
      exec (.relayJobStart e b) s = .next (s.startJob e.val)) ∧
    (∀ j, s.running = true → (s.engine e.val).halted = false → s.runningJob e.val source.toNat = some j →
      (exec (.checkRunEnd e source strikes) s =
        .next (if j.escorted then (s.replayWrites e.val j).escortedCheck e.val j strikes
          else (s.replayWrites e.val j).standardCheck e.val j strikes)) ∧
      (j.escorted = true → exec (.escortedTimeout e source) s = .next (s.escortedFault e.val j 1))) ∧
    (s.testing e.val = true → exec (.selfTestEnd e b) s = .next ((s.release .selfTest e.val).testEnd e.val b)) ∧
    exec (.tunnelWaitExpiry t) s = .next (s.sendTunnel t.val) ∧
    (s.running = true → exec (.tunnelFrameReceive bytes stamp) s = .next (s.tunnelFrameIn bytes stamp))

/-- The crypto direct interface is its lock holder's (R433 to R435): a free lock is taken, the holder gives it back, and its writes act;
a write of any other CDI register without the lock is undefined and the machine stops. -/
def Obligations.CdiIsItsHoldersAlone : Prop :=
  ∀ (s : State) (t : Transport) (v : Word), s.reaches t = true → s.running = true →
    (s.crypt.cdi.owned = false →
      exec (.cdiAcquire t) s =
        .next { s with crypt := { s.crypt with cdi := { s.crypt.cdi with owned := true, owner := t } } }) ∧
    (s.cdiHolder t = true →
      exec (.cdiRelease t) s = .next s.cdiRelease ∧
      (∃ q, exec (.cdiKeyselWrite t v) s = .next q ∧ q.crypt.cdi.keySlot = v.extractLsb' 0 9 ∧
        q.crypt.cdi.mode = v.extractLsb' 30 2 ∧ q.crypt.cdi.job = none) ∧
      (∃ q, exec (.cdiGo t v) s = .next q ∧ q.crypt.cdi.owned = true ∧ q.crypt.cdi.owner = t) ∧
      (v.getLsbD 0 = false → ∃ q, exec (.cdiAbort t v) s = .next q ∧ q.crypt.cdi.active = false ∧ q.crypt.cdi.job = none)) ∧
    (s.cdiHolder t = false →
      exec (.cdiKeyselWrite t v) s = .fault .cdiMisuse ∧ exec (.cdiGo t v) s = .fault .cdiMisuse ∧
      exec (.cdiAbort t v) s = .fault .cdiMisuse ∧
      exec (.registerWrite t 0x30020 (wordBytes v)) s = .fault .cdiMisuse) ∧
    exec .cdiBlockDone s = .next s.cdiBlockDone

/-- Rows of the random source, key agreement, the remasking pass and the JTAG unlock (R110, R421, R436, R453): each completes with its
own effect. -/
def Obligations.CipherRowsAct : Prop :=
  ∀ (s : State) (k : Fin 2) (p : Port) (a : MkaAction) (token : Bytes), s.running = true →
    (∃ q, exec (.rngHealthFail k) s = .next q ∧ q.crypt.rngGood = false) ∧
    exec .rngReseed s = .next { s with crypt := { s.crypt with rngGood := true } } ∧
    ((vget s.crypt.ports p.val).mkaEn = true → exec (.mkaFrameReceive p a) s = .next ((s.mkaDo p.val a).sendMka p.val)) ∧
    (s.rolling = true → exec .remaskPass s = .next (s.drawMasks.count (.key .remaskPasses))) ∧
    (token.length = 8 → unlockOpen s = none → exec (.jtagUnlockToken token) s = .next (s.tryToken token).1)

/-! Power, sleep, measurement. -/

/-- The rows of the Tollgate and of camera power (R316 to R320, R457 to R470): each completes with its own effect. -/
def Obligations.PowerRowsAct : Prop :=
  ∀ (s : State) (d : Fin 13) (k : Fin 12) (b : Bool) (cur : Nat) (fail : Word),
    (s.running = true → exec .grantTick s = .next s.grantTick) ∧
    (s.running = true →
      ∃ q, exec .guardCheck s = .next q ∧
        q.power.measured = s.meas.history.foldl (· + ·) 0 / (10 * s.meas.history.length)) ∧
    (s.running = true → s.domainNeeded d.val = false → s.pws.domains.getLsbD d.val = true →
      ∃ q, exec (.domainOffTimer d) s = .next q ∧ q.pws.domains.getLsbD d.val = false) ∧
    (s.running = true → s.domainNeeded d.val = true → s.pws.domains.getLsbD d.val = false →
      ∃ q, exec (.domainUp d) s = .next q ∧ q.pws.domains.getLsbD d.val = true) ∧
    (s.running = true → s.power.grants.any (fun g => g.kind == .memTest) = true →
      exec (.memTestDone b fail) s = .next ((s.release .memTest 0).memTestEnd (if b then some fail.toNat else none))) ∧
    exec .boardBudgetBoundary s = .next (s.boardOffer 5 12) ∧
    exec (.inrushEnd k cur) s = .next (s.inrushEnd (k.val + 5) cur) ∧
    ((s.podlOf (k.val + 5)).state.drives = true →
      ∃ q, exec (.podlFault k b) s = .next q ∧ (q.podlOf (k.val + 5)).state = .fault) ∧
    ((s.podlOf (k.val + 5)).state = .powered → exec (.podlFaultTimer k false) s = .next (s.podlFault (k.val + 5) 2))

/-- The rows of wake sources and of the sleep sequence (R315, R471 to R493, R85): each completes with its own effect. -/
def Obligations.SleepRowsAct : Prop :=
  ∀ (s : State) (p : Port) (pin : Fin 8) (w : Fin 4) (h : Fin 3) (c : CanCh) (n : Fin 64) (b : Bool) (sram : Bytes) (id : Nat)
    (dlc : Fin 9) (data : Bytes),
    (hasTc10 p.val = true → s.isUp p.val = true → (s.phy p.val).acceptSleep = true →
      exec (.tc10SleepRequest p) s = .next (s.portSleep p.val 2 3)) ∧
    (hasTc10 p.val = true → s.watches (segOfPort p.val) = true → (s.phy p.val).wakeEn = true →
      exec (.tc10WakeDetect p) s = .next ((s.count (.phy p.val .tc10WakeRx)).wireWake 5 p.val (segOfPort p.val) none)) ∧
    (∃ q, exec (.gpioEdge pin b) s = .next q ∧ (q.pin pin.val).level = b) ∧
    (∀ t, (s.pin pin.val).since = some t → s.bank33 = true → t.2 + 800 * (s.pin pin.val).debounce ≤ s.tick →
      exec (.gpioDebounceEnd pin) s = .next (s.settlePin pin.val t.1)) ∧
    (s.pd0.vbatGood = true → (vget s.sleep.pins w.val).counts b = true → s.sleep.phase = .awake → s.running = true →
      exec (.wakePinEvent w b) s =
        .next ((s.modSleep (fun z => { z with pins := vmod z.pins w.val (fun y => { y with level := b }) })).event 0 0x1003
          (w8 w.val ++ w8 (b2n b)))) ∧
    (s.pd0.vbatGood = true → bitOf s.sleep.hostFlags h.val = true →
      exec (.hostWake h) s = .next (s.registerWake 6 h.val none s.sleep.hostTargets none)) ∧
    (s.watches c.val = true → byteAt (s.wakeRec c.val) 0 = 1 →
      exec (.canWakePattern c) s = .next (s.wireWake 3 c.val c.val none)) ∧
    (s.decodes c.val = true → wakeMatches (s.wakeRec c.val) id dlc.val (data.take dlc.val) = true →
      exec (.canWakeFrame c id dlc data) s =
        .next ((s.modDecoder c.val (fun d => { d with errors := d.errors - 1 })).wireWake 2 c.val c.val
          (some (id, data.take dlc.val)))) ∧
    (∃ q, exec (.wakeDecoderIdle c) s = .next q ∧ (vget q.sleep.decoders c.val).running = false) ∧
    (s.watches c.val = true → (vget s.sleep.decoders c.val).running = true → byteAt (s.wakeRec c.val) 0 = 2 →
      (vget s.sleep.decoders c.val).errors < 30 →
      ∃ q, exec (.wakeDecodingError c false) s = .next q ∧
        (vget q.sleep.decoders c.val).errors = (vget s.sleep.decoders c.val).errors + 1) ∧
    (s.segState c.val = .going → 0 < vget s.sleep.nmLeft c.val → exec (.nmRepeat c) s = .next (s.sendNm c.val).sleepAdvance) ∧
    (segReal n.val = true → s.segState n.val = .going → s.segQuiet n.val = true →
      exec (.segmentQuiet n) s = .next (s.segAsleep n.val).sleepAdvance) ∧
    (s.sleep.phase = .indicate ∨ s.sleep.phase = .quiet → exec .sleepTimeout s = .next s.sleepTimeout) ∧
    (s.sleep.phase = .prepare → exec (.prepareDone sram) s = .next (s.commitSleep sram)) ∧
    (s.pd0.vbatGood = true → s.sleep.inhHold = true → exec .inh0HoldEnd s = .next s.inhHoldEnd)

/-- The rows of the Drover, of measurement and of partners (R494 to R509): each completes with its own effect. -/
def Obligations.MeasurementRowsAct : Prop :=
  ∀ (s : State) (load : List Nat) (b : Bool) (x : Sample) (p : Port) (c i : Bytes) (ttl : Nat),
    (s.running = true → exec (.droverLoop load b) s = .next (s.droverLoop load b)) ∧
    (s.pd0.die = true → s.running = false →
      exec (.measurementSample x) s = .next { s with pws := { s.pws with
        sensor := BitVec.ofNat 3 (hottest x.temps).1, tjMax := BitVec.ofInt 16 (hottest x.temps).2 } }) ∧
    (s.running = true → s.isUp p.val = true →
      ∃ q, exec (.lldpReceive p c i ttl) s = .next q ∧ (q.partner p.val).lldpSeen = true ∧
        (q.partner p.val).chassis = c.take 16 ∧ (q.partner p.val).portId = i.take 16 ∧ (q.partner p.val).ttl = ttl % 65536) ∧
    (s.running = true → (s.partner p.val).lost s.tick = true →
      ∃ q, exec (.lldpTtlExpiry p) s = .next q ∧ (q.partner p.val).lldpSeen = false ∧ (q.partner p.val).chassis = [])

/-! Penyen commands. -/

/-- The commands of the SYS, SLOT, DIAG, PORT and FDB groups: wherever one is admitted, it completes with its effect and its answer (R65,
R66, R68, R84, R112 and the chapters' command tables). -/
def Obligations.SystemAndPortCommandsComplete : Prop := SysRows Completes ∧ PortRows Completes

/-- The commands of the CUST, RED, SCHED and GATE groups, in the same way. -/
def Obligations.DataPlaneCommandsComplete : Prop := CustRows Completes ∧ SchedRows Completes

/-- The commands of the TIME, PWR, SLEEP, CAN, LIN and SER groups, in the same way; where a sleep request begins the sequence, its first
indications go out with it (R482). -/
def Obligations.TimePowerAndEdgeCommandsComplete : Prop :=
  TimeRows Completes ∧ EdgeRows Completes ∧
    ∀ (s : State) (n : Slot) (tag : Half) (p : Bytes), s.admitted cmdSleepRequest n.val tag p = true →
      let t := s.served cmdSleepRequest n.val tag p
      exec (.sleepRequest n tag p) s =
        .next (if s.sleep.phase = .awake ∧ t.sleep.phase = .indicate then t.sleepBegun else t)

/-- The commands of the ROUTE, ESC, CRYPT, KEY, MEAS and DROV groups, in the same way. -/
def Obligations.RelayCipherAndDroverCommandsComplete : Prop := RelayRows Completes ∧ CryptRows Completes ∧ DrovRows Completes

/-- No Penyen command acts before firmware runs, and a slot without a transport takes none (R52, R53, R100). -/
def Obligations.CommandsNeedFirmwareAndASlot : Prop :=
  PenyenRows (fun r _ => ∀ (s : State) (n : Slot) (tag : Half) (p : Bytes),
    (s.running = false → exec (r n tag p) s = .next s) ∧
    ((s.slot n.val).state = .unbound → (s.slot n.val).inFlight = [] → exec (r n tag p) s = .next s))

/-- A command that fails a check is answered with the code of the first check that fails and has no other effect (R65): only its own
slot's record of it changes, which slot was served last, and the Drover's mark that something happened. -/
def Obligations.RefusedCommandsOnlyAnswer : Prop :=
  PenyenRows (fun r c => ∀ (s : State) (n : Slot) (tag : Half) (p : Bytes) (a : Answer), s.turnedAway c n.val tag p a →
    ∃ q f fs, exec (r n tag p) s = .next q ∧ (q.slot n.val).inFlight = f :: fs ∧ f.answer = some a ∧ SlotsBut n.val s q ∧
      q = { s.servedAs q with drover := { s.drover with active := q.drover.active } })

/-- A FENCED slot's commands other than SLOT_GET_STATE are ST_LOCKED (R52), and in PREPARE every command but the GET commands and
SLEEP_CANCEL is ST_WRONG_STATE (R484), where their length suits them. -/
def Obligations.FenceAndPrepareRefuse : Prop :=
  PenyenRows (fun r c => ∀ (s : State) (n : Slot) (tag : Half) (p : Bytes),
    s.running = true → s.hasTurn n.val = true → (s.slot n.val).inFlight = [] → ((s.slot n.val).holder tag) = none →
    c.lengthOk p = true → p.length ≤ 8176 →
    ((s.slot n.val).state = .fenced → c.op ≠ 0x0207 →
      ∃ q f, exec (r n tag p) s = .next q ∧ (q.slot n.val).inFlight = [f] ∧ f.answer = some stLocked) ∧
    ((s.slot n.val).state = .opened → s.sleep.phase = .prepare → c.op ∉ getOps → c.op ≠ 0x1002 →
      ∃ q f, exec (r n tag p) s = .next q ∧ (q.slot n.val).inFlight = [f] ∧ f.answer = some (stWrongState 0x1001 0 3)))

/-- The GET commands read: their next states differ in their own slot's record and in which slot was served last only, a few of them in
the count of free draws (log 2) as well, and PORT_GET_PHY_COUNTERS in counters of what the model does not see (log 65); memory, registers
and every other slot are unchanged. -/
def Obligations.ReadCommandsChangeOnlyTheirSlot : Prop :=
  Within .sysGetCaps onlySlots ∧ Within .sysGetInfo onlySlots ∧ Within .slotGetCaps onlySlots ∧
    Within .slotGetState onlySlots ∧ Within .slotGetOwner onlySlots ∧ Within .slotGetStats onlySlots ∧
    Within .timeGetCaps onlyDraws ∧ Within .timeGetNow onlySlots ∧ Within .timeGetDomain onlySlots ∧
    Within .timeGetCounters onlySlots ∧ Within .pwrGetCaps onlySlots ∧ Within .pwrGetStatus onlySlots ∧
    Within .pwrGetGrants onlySlots ∧ Within .pwrGetCounters onlySlots ∧ Within .custGetCaps onlySlots ∧
    Within .custGetRule onlySlots ∧ Within .custGetCanRule onlySlots ∧ Within .custGetGen onlySlots ∧
    Within .custGetCounters onlySlots ∧ Within .drovGetCaps onlySlots ∧ Within .drovGetMandate onlySlots ∧
    Within .drovGetCounters onlySlots ∧ Within .canGetCaps onlySlots ∧ Within .canGetConfig onlySlots ∧
    Within .canGetStatus onlySlots ∧ Within .canGetCounters onlySlots ∧ Within .linGetCaps onlySlots ∧
    Within .serGetStatus onlySlots ∧ Within .serGetCounters onlySlots ∧ Within .diagGetBootRecord onlySlots ∧
    Within .schedGetCaps onlySlots ∧ Within .schedGetQueue onlySlots ∧ Within .schedGetShaper onlySlots ∧
    Within .schedGetMeter onlySlots ∧ Within .schedGetStreamId onlySlots ∧ Within .schedGetFilter onlySlots ∧
    Within .schedGetStreamGate onlySlots ∧ Within .schedGetAdmission onlySlots ∧ Within .measGetCaps onlySlots ∧
    Within .portGetMode onlySlots ∧ Within .portGetStatus onlySlots ∧ Within .portGetPhyCounters onlyTallies ∧
    Within .redGetCaps onlySlots ∧ Within .redGetProtect onlySlots ∧ Within .redGetCounters onlySlots ∧
    Within .cryptGetSa onlySlots ∧ Within .cryptGetProfile onlySlots ∧ Within .cryptGetCounters onlySlots ∧
    Within .gateGetCaps onlySlots ∧ Within .gateGetList onlySlots ∧ Within .gateGetStatus onlySlots ∧
    Within .gateGetQueueTiming onlySlots ∧ Within .gateGetCounters onlySlots ∧ Within .portGetFwdConfig onlySlots ∧
    Within .portGetCounters onlySlots ∧ Within .fdbGetVlan onlySlots ∧ Within .sleepGetCaps onlySlots ∧
    Within .sleepGetStatus onlySlots ∧ Within .sleepGetWakeRecord onlySlots ∧ Within .sleepGetCounters onlySlots ∧
    Within .routeGetCaps onlySlots ∧ Within .routeGetRule onlySlots ∧ Within .routeGetGen onlySlots ∧
    Within .routeGetEngines onlySlots ∧ Within .routeGetCounters onlySlots ∧ Within .escGetStatus onlySlots ∧
    Within .escGetSafe onlySlots ∧ Within .escGetCounters onlySlots ∧ Within .keyGetCaps onlySlots ∧
    Within .keyGetAttr onlySlots ∧ Within .keyGetCounters onlySlots ∧ Within .fdbGetCaps onlyDraws ∧
    Within .linGetStatus onlyDraws ∧ Within .diagGetCaps onlyDraws ∧ Within .measGetPartner onlyDraws ∧
    Within .portGetCaps onlyDraws ∧ Within .redGetInstance onlyDraws ∧ Within .cryptGetCaps onlyDraws ∧
    Within .routeGetTunnel onlyDraws ∧ Within .escGetCaps onlySlots

/-- Commands that set or clear one block stay in it: their next states differ in that block, in their own slot's record, in which slot was
served last and in the Drover's mark only, two of them in a count beside their block; memory, the window's registers and every other slot
are unchanged. -/
def Obligations.ConfigurationCommandsStayInTheirBlock : Prop :=
  Within .custSetZone alsoNet ∧ Within .custSetZoneMap alsoNet ∧ Within .custSetPair alsoNet ∧ Within .custSetRule alsoNet ∧
    Within .custClearRules alsoNet ∧ Within .custSetCanDefault alsoNet ∧ Within .custSwap alsoNet ∧
    Within .custSetConvTimeouts alsoNet ∧ Within .custFlushConv alsoNet ∧ Within .schedSetShaper alsoNet ∧
    Within .schedSetStreamId alsoNet ∧ Within .schedSwapStreamId alsoNet ∧ Within .schedClearBlocked alsoNet ∧
    Within .schedSetSampling alsoNet ∧ Within .portForgetCoeffs alsoNet ∧ Within .portSetWake alsoNet ∧
    Within .portSetPodl alsoNet ∧ Within .redSetGenerator alsoNet ∧ Within .redSetRecovery alsoNet ∧
    Within .redSubscribe alsoNet ∧ Within .gateSetAdminHeader alsoNet ∧ Within .gateSetAdminEntries alsoNet ∧
    Within .gateCommitAdmin alsoNet ∧ Within .gateCancelChange alsoNet ∧ Within .fdbAdd alsoNet ∧ Within .fdbDelete alsoNet ∧
    Within .fdbFlush alsoNet ∧ Within .fdbSetAging alsoNet ∧ Within .fdbSetVlan alsoNet ∧ Within .fdbDeleteVlan alsoNet ∧
    Within .canRxRelease alsoCan ∧ Within .canSetConfig alsoCan ∧ Within .canSetQueue alsoCan ∧
    Within .canSetFilter alsoCan ∧ Within .canRxRead alsoCan ∧ Within .linSetConfig alsoLin ∧ Within .linSetFrame alsoLin ∧
    Within .linSetSchedule alsoLin ∧ Within .linSelectSchedule alsoLin ∧ Within .linSetPublish alsoLin ∧
    Within .serSetConfig alsoUart ∧ Within .serSetMode alsoUartDraws ∧ Within .routeSetRule alsoRelay ∧
    Within .routeClear alsoRelay ∧ Within .routeSetEngine alsoRelay ∧ Within .sleepSetPin alsoSleep ∧
    Within .sleepSetCanWake alsoSleep ∧ Within .sleepSetNm alsoSleep ∧ Within .sleepSetHostWake alsoSleep ∧
    Within .timeSetRate alsoTime ∧ Within .timeSetDomain alsoTime ∧ Within .timeSetPort alsoTime ∧
    Within .timeReadCaptures alsoTime ∧ Within .pwrSetCeiling alsoPower ∧ Within .pwrSetBoardBudget alsoPower ∧
    Within .pwrSetDomain alsoPower ∧ Within .cryptSetPort alsoCrypt ∧ Within .cryptSave alsoCryptCounters ∧
    Within .cryptBreakLock alsoCrypt ∧ Within .keyNarrowMask alsoKeys ∧ Within .keySetService alsoKeys ∧
    Within .pwrClearCounters alsoCounters ∧ Within .custClearCounters alsoCounters ∧ Within .drovClearCounters alsoCounters ∧
    Within .canClearCounters alsoCounters ∧ Within .serClearCounters alsoCounters ∧
    Within .portClearPhyCounters alsoCounters ∧ Within .cryptClearCounters alsoCounters ∧
    Within .gateClearCounters alsoCounters ∧ Within .portClearCounters alsoCounters ∧
    Within .sleepClearCounters alsoCounters ∧ Within .routeClearCounters alsoCounters ∧
    Within .escClearCounters alsoCounters ∧ Within .keyClearCounters alsoCounters

/-- What configuration commands of each group store, wherever they are admitted: the field that the command names holds the value of its
payload. -/
def Obligations.ConfigurationCommandsStore : Prop :=
  ∀ (s : State) (n : Slot) (tag : Half) (p : Bytes),
    let i := byteAt p 0
    (s.admitted cmdPortSetFwdConfig n.val tag p = true → byteAt p 1 = 0 →
      ∃ q, exec (.portSetFwdConfig n tag p) s = .next q ∧ (vget q.net.fwd i).shadow = cleanFwd (slice p 4 24) ∧
        (vget q.net.fwd i).active = (vget s.net.fwd i).active) ∧
    (s.admitted cmdFdbSetAging n.val tag p = true →
      ∃ q, exec (.fdbSetAging n tag p) s = .next q ∧ q.net.ageTime = le p 0 4) ∧
    (s.admitted cmdCustSetPair n.val tag p = true →
      ∃ q, exec (.custSetPair n tag p) s = .next q ∧
        tget? q.net.customs.matrixStaged.pairs (i * 32 + byteAt p 1) = some (byteAt p 2) ∧
        q.net.customs.matrix = s.net.customs.matrix) ∧
    (s.admitted cmdSchedSetShaper n.val tag p = true →
      ∃ q, exec (.schedSetShaper n tag p) s = .next q ∧
        (q.queue i (byteAt p 1)).shaperNew = some { enable := byteAt p 2 == 1, rate := le p 4 4, burst := le p 8 4 }) ∧
    (s.admitted cmdGateSetAdminHeader n.val tag p = true →
      ∃ q, exec (.gateSetAdminHeader n tag p) s = .next q ∧
        (q.pg i).admin.header = slice p 4 6 ++ [0, 0] ++ slice p 12 16 ++ zeros 8 ∧
        (q.pg i).admin.entries = (s.pg i).admin.entries ∧ (q.pg i).oper = (s.pg i).oper) ∧
    (s.admitted cmdTimeSetDomain n.val tag p = true →
      ∃ q, exec (.timeSetDomain n tag p) s = .next q ∧
        (q.gptp i).record = slice p 4 14 ++ [0, 0] ++ slice p 20 4 ++ zeros 4 ∧ (q.gptp i).state = (s.gptp i).state) ∧
    (s.admitted cmdRedSetRecovery n.val tag p = true →
      ∃ q, exec (.redSetRecovery n tag p) s = .next q ∧
        (q.recovery i).record = slice p 4 7 ++ [0] ++ slice p 12 2 ++ zeros 6) ∧
    (s.admitted cmdCanSetFilter n.val tag p = true →
      ∃ q, exec (.canSetFilter n tag p) s = .next q ∧
        vget (q.canCh i).filters (byteAt p 1) = slice p 4 10 ++ zeros 2) ∧
    (s.admitted cmdLinSetFrame n.val tag p = true →
      ∃ q, exec (.linSetFrame n tag p) s = .next q ∧
        (vget (q.linCh i).frames (byteAt p 1)).direction = byteAt p 2 ∧
        (vget (q.linCh i).frames (byteAt p 1)).length = byteAt p 3) ∧
    (s.admitted cmdSerSetConfig n.val tag p = true →
      ∃ q, exec (.serSetConfig n tag p) s = .next q ∧ (q.uartCh i).record = slice p 4 13 ++ zeros 3) ∧
    (s.admitted cmdRouteSetRule n.val tag p = true →
      ∃ q, exec (.routeSetRule n tag p) s = .next q ∧
        tget? q.relay.routesStaged (le p 0 2) = some (slice p 4 26 ++ zeros 2 ++ slice p 32 8 ++ zeros 4) ∧
        q.relay.routes = s.relay.routes) ∧
    (s.admitted cmdEscSetSafe n.val tag p = true →
      ∃ q, exec (.escSetSafe n tag p) s = .next q ∧
        tget? q.esc.safe (le p 0 2) = some (slice p 0 10 ++ zeros 2 ++ padTo 64 (slice p 12 (le p 8 2)))) ∧
    (s.admitted cmdCryptSetPort n.val tag p = true →
      ∃ q, exec (.cryptSetPort n tag p) s = .next q ∧
        (vget q.crypt.ports i).policy = splice (slice p 4 8) 3 (w8 (setBit (byteAt p 7) 0 true))) ∧
    (s.admitted cmdKeyNarrowMask n.val tag p = true →
      ∃ q, exec (.keyNarrowMask n tag p) s = .next q ∧
        (q.keyOf (le p 0 2)).mask = (s.keyOf (le p 0 2)).mask &&& le p 2 2) ∧
    (s.admitted cmdPwrSetCeiling n.val tag p = true →
      ∃ q, exec (.pwrSetCeiling n tag p) s = .next q ∧ q.power.newCeiling = some (le p 0 2) ∧
        q.power.ceiling = s.power.ceiling) ∧
    (s.admitted cmdSleepSetPin n.val tag p = true →
      ∃ q, exec (.sleepSetPin n tag p) s = .next q ∧ (vget q.sleep.pins i).record = slice p 4 12) ∧
    (s.admitted cmdDrovPause n.val tag p = true →
      ∃ q, exec (.drovPause n tag p) s = .next q ∧ q.drover.paused = (i == 1))

/-- Results of SYS, SLOT and DIAG commands, wherever they are admitted (R29, R52, R84, R111): a ping answers its own bytes; a write permit
changes its slot's bit alone; closing an OPEN slot leaves it BOUND; a reset waits for its response; relocking ends the debug unlock. -/
def Obligations.SystemCommandResults : Prop :=
  ∀ (s : State) (n : Slot) (tag : Half) (p : Bytes),
    (s.admitted cmdSysPing n.val tag p = true →
      ∃ q f fs, exec (.sysPing n tag p) s = .next q ∧ (q.slot n.val).inFlight = f :: fs ∧ f.answer = some (stOk p)) ∧
    (s.admitted cmdSlotSetWritePermit n.val tag p = true →
      ∃ q, exec (.slotSetWritePermit n tag p) s = .next q ∧
        q.hiu.permit.getLsbD (byteAt p 0) = (byteAt p 1 == 1) ∧
        ∀ m, m ≠ byteAt p 0 → q.hiu.permit.getLsbD m = s.hiu.permit.getLsbD m) ∧
    (s.admitted cmdSlotClose n.val tag p = true → (s.slot n.val).state = .opened →
      ∃ q, exec (.slotClose n tag p) s = .next q ∧ (q.slot n.val).state = .bound ∧
        (q.slot n.val).binding = (s.slot n.val).binding) ∧
    (s.admitted cmdSysReset n.val tag p = true →
      ∃ q, exec (.sysReset n tag p) s = .next q ∧ (q.slot n.val).resetDue = true ∧ q.boot = s.boot) ∧
    (s.admitted cmdDiagRelock n.val tag p = true →
      ∃ q, exec (.diagRelock n tag p) s = .next q ∧ q.jtag.unlocked = false ∧ q.boot = s.boot)

/-- A slot with four accepted commands unfinished (R68): one more of the commands whose work goes on after their response answers ST_BUSY
and does no work. -/
def Obligations.FifthJobIsTurnedAway : Prop :=
  let Busy (r : Row) (c : Cmd) : Prop := ∀ (s : State) (n : Slot) (tag : Half) (p : Bytes), s.passes c n.val tag p = true →
    4 ≤ (s.slot n.val).jobs.length → c.startsJob (s.asTaken c n.val tag p) n.val tag p = true →
    exec (r n tag p) s = .next ((s.asTaken c n.val tag p).answerFront n.val stBusy)
  Busy .custSwap cmdCustSwap ∧ Busy .routeSwap cmdRouteSwap ∧ Busy .canDetectRate cmdCanDetectRate ∧
    Busy .escTestEngine cmdEscTestEngine ∧ Busy .sleepSegment cmdSleepSegment ∧ Busy .sleepRequest cmdSleepRequest
end

