-- ==== Sys2Proof/Laws/Memory.lean ====
section
/-! SUPPORT. Laws of the mailbox memory: a read after a write, and that every memory operation keeps the canonical form. -/

namespace Sys2Proof.Machine

/-- Below every listed address memory reads blank. -/
theorem Memory.read_below {m : Memory} {lo a : Nat} (h : Memory.above lo m = true) (ha : a ≤ lo) :
    Memory.read m a = Memory.blank := by
  induction m generalizing lo with
  | nil => rfl
  | cons c cs ih =>
    simp only [Memory.above, Bool.and_eq_true, decide_eq_true_eq] at h
    obtain ⟨⟨h1, -⟩, h3⟩ := h
    rw [Memory.read, if_neg (by omega)]
    exact ih h3 (by omega)

theorem Memory.above_mono {m : Memory} {lo lo' : Nat} (h : Memory.above lo m = true) (hl : lo' ≤ lo) :
    Memory.above lo' m = true := by
  cases m with
  | nil => rfl
  | cons c cs =>
    simp only [Memory.above, Bool.and_eq_true, decide_eq_true_eq] at h ⊢
    exact ⟨⟨by omega, h.1.2⟩, h.2⟩

theorem Memory.above_write {m : Memory} {lo a : Nat} (v : BitVec 8) (h : Memory.above lo m = true) (ha : lo < a) :
    Memory.above lo (m.write a v) = true := by
  induction m generalizing lo with
  | nil =>
    unfold Memory.write
    split <;> simp_all [Memory.above]
  | cons c cs ih =>
    have h0 := h
    simp only [Memory.above, Bool.and_eq_true, decide_eq_true_eq] at h
    obtain ⟨⟨h1, h2⟩, h3⟩ := h
    unfold Memory.write
    split
    · split
      · exact h0
      · simp_all [Memory.above]
    · split
      · split
        · exact Memory.above_mono h3 (by omega)
        · simp_all [Memory.above]
      · simp only [Memory.above, Bool.and_eq_true, decide_eq_true_eq]
        exact ⟨⟨h1, h2⟩, ih h3 (by omega)⟩

theorem Memory.wf_of_above {m : Memory} {lo : Nat} (h : Memory.above lo m = true) : m.wf = true := by
  cases m with
  | nil => rfl
  | cons c cs =>
    simp only [Memory.above, Bool.and_eq_true] at h
    simp [Memory.wf, h.1.2, h.2]

/-- A write keeps the canonical form. -/
theorem Memory.wf_write {m : Memory} (a : Nat) (v : BitVec 8) (h : m.wf = true) : (m.write a v).wf = true := by
  cases m with
  | nil => unfold Memory.write; split <;> simp_all [Memory.wf, Memory.above]
  | cons c cs =>
    have h0 := h
    simp only [Memory.wf, Bool.and_eq_true] at h
    unfold Memory.write
    split
    · split
      · exact h0
      · simp_all [Memory.wf, Memory.above]
    · split
      · split
        · exact Memory.wf_of_above h.2
        · simp_all [Memory.wf]
      · simp only [Memory.wf, Bool.and_eq_true]
        exact ⟨h.1, Memory.above_write v h.2 (by omega)⟩

theorem Memory.wf_writeAll (bs : Bytes) {m : Memory} (a : Nat) (h : m.wf = true) : (m.writeAll a bs).wf = true := by
  induction bs generalizing m a with
  | nil => exact h
  | cons b bs ih => exact ih (a + 1) (Memory.wf_write a b h)

theorem Memory.wf_ringWrite (bs : Bytes) {m : Memory} (base size off : Nat) (h : m.wf = true) :
    (ringWrite m base size off bs).wf = true := by
  induction bs generalizing m off with
  | nil => exact h
  | cons b bs ih => exact ih (off + 1) (Memory.wf_write _ b h)

theorem Memory.above_filter (p : Host.Cell → Bool) {m : Memory} {lo : Nat} (h : Memory.above lo m = true) :
    Memory.above lo (m.filter p) = true := by
  induction m generalizing lo with
  | nil => rfl
  | cons c cs ih =>
    simp only [Memory.above, Bool.and_eq_true, decide_eq_true_eq] at h
    obtain ⟨⟨h1, h2⟩, h3⟩ := h
    by_cases hp : p c = true
    · simp [hp, Memory.above, h1, ih h3] at *; exact h2
    · simp only [List.filter_cons, hp]
      exact Memory.above_mono (ih h3) (by omega)

/-- Removing cells keeps the canonical form. -/
theorem Memory.wf_filter (p : Host.Cell → Bool) {m : Memory} (h : m.wf = true) : Memory.wf (m.filter p) = true := by
  cases m with
  | nil => rfl
  | cons c cs =>
    simp only [Memory.wf, Bool.and_eq_true] at h
    by_cases hp : p c = true
    · simp [hp, Memory.wf, Memory.above_filter p h.2] at *; exact h.1
    · simp only [List.filter_cons, hp]
      exact Memory.wf_of_above (Memory.above_filter p h.2)

theorem Memory.read_write_above {m : Memory} {lo a : Nat} (b : Nat) (v : BitVec 8) (h : Memory.above lo m = true) :
    (m.write a v).read b = if b = a then v else m.read b := by
  induction m generalizing lo with
  | nil => unfold Memory.write; split <;> simp_all [Memory.read]
  | cons c cs ih =>
    simp only [Memory.above, Bool.and_eq_true, decide_eq_true_eq] at h
    obtain ⟨-, h3⟩ := h
    have low : ∀ x, x ≤ c.1 → Memory.read cs x = Memory.blank := fun x hx => Memory.read_below h3 hx
    unfold Memory.write
    split
    · rename_i hlt
      split
      · rename_i hv
        by_cases hb : b = a
        · subst hb; rw [if_pos rfl, hv, Memory.read, if_neg (by omega), low b (by omega)]
        · rw [if_neg hb]
      · rw [Memory.read]
    · split
      · rename_i he
        split
        · rename_i hv
          by_cases hb : b = a
          · subst hb; rw [if_pos rfl, hv, low b (by omega)]
          · rw [if_neg hb, Memory.read, if_neg (by omega)]
        · rw [Memory.read]
          by_cases hb : b = a
          · simp [hb]
          · rw [if_neg hb, if_neg hb, Memory.read, if_neg (by omega)]
      · rename_i hn he
        rw [Memory.read, Memory.read, ih h3]
        by_cases hb : b = c.1
        · rw [if_pos hb, if_pos hb, if_neg (by omega)]
        · rw [if_neg hb, if_neg hb]

/-- Reading after a write: the byte written at its address, and the old byte elsewhere. -/
theorem Memory.read_write {m : Memory} (a b : Nat) (v : BitVec 8) (h : m.wf = true) :
    (m.write a v).read b = if b = a then v else m.read b := by
  cases m with
  | nil => unfold Memory.write; split <;> simp_all [Memory.read]
  | cons c cs =>
    simp only [Memory.wf, Bool.and_eq_true] at h
    have h3 := h.2
    by_cases h0 : c.1 = 0
    · have low : ∀ x, x ≤ c.1 → Memory.read cs x = Memory.blank := fun x hx => Memory.read_below h3 hx
      unfold Memory.write
      rw [if_neg (by omega)]
      split
      · split
        · rename_i he hv
          by_cases hb : b = a
          · subst hb; rw [if_pos rfl, hv, low b (by omega)]
          · rw [if_neg hb, Memory.read, if_neg (by omega)]
        · rw [Memory.read]
          by_cases hb : b = a
          · simp [hb]
          · rw [if_neg hb, if_neg hb, Memory.read, if_neg (by omega)]
      · rw [Memory.read, Memory.read, Memory.read_write_above b v h3]
        by_cases hb : b = c.1
        · rw [if_pos hb, if_pos hb, if_neg (by omega)]
        · rw [if_neg hb, if_neg hb]
    · exact Memory.read_write_above (lo := 0) b v (by simp [Memory.above, h.1, h.2]; omega)

/-- Bytes outside those written keep their value. -/
theorem Memory.read_writeAll_other (bs : Bytes) {m : Memory} (a b : Nat) (h : m.wf = true)
    (hb : b < a ∨ a + bs.length ≤ b) : (m.writeAll a bs).read b = m.read b := by
  induction bs generalizing m a with
  | nil => rfl
  | cons x bs ih =>
    simp only [List.length_cons] at hb
    rw [Memory.writeAll, ih (a + 1) (Memory.wf_write a x h) (by omega), Memory.read_write a b x h, if_neg (by omega)]

/-- The memory of the reset state is canonical. -/
theorem Memory.wf_reset : State.reset.ram.wf = true := rfl

end Sys2Proof.Machine
end

