-- ==== Sys2Proof/Laws/State.lean ====
section
/-! SUPPORT. What each update of the state leaves in each field. -/

namespace Sys2Proof.Machine

variable (s : State)

@[simp] theorem State.modSlot_pending (n : Nat) (f : SlotRec → SlotRec) : (s.modSlot n f).pending = s.pending := rfl
@[simp] theorem State.modSlot_tick (n : Nat) (f : SlotRec → SlotRec) : (s.modSlot n f).tick = s.tick := rfl
@[simp] theorem State.modSlot_fresh (n : Nat) (f : SlotRec → SlotRec) : (s.modSlot n f).fresh = s.fresh := rfl
@[simp] theorem State.modSlot_out (n : Nat) (f : SlotRec → SlotRec) : (s.modSlot n f).out = s.out := rfl
@[simp] theorem State.modSlot_counters (n : Nat) (f : SlotRec → SlotRec) : (s.modSlot n f).counters = s.counters := rfl
@[simp] theorem State.modSlot_hiu (n : Nat) (f : SlotRec → SlotRec) : (s.modSlot n f).hiu = s.hiu := rfl
@[simp] theorem State.modSlot_cmu (n : Nat) (f : SlotRec → SlotRec) : (s.modSlot n f).cmu = s.cmu := rfl
@[simp] theorem State.modSlot_pws (n : Nat) (f : SlotRec → SlotRec) : (s.modSlot n f).pws = s.pws := rfl
@[simp] theorem State.modSlot_boot (n : Nat) (f : SlotRec → SlotRec) : (s.modSlot n f).boot = s.boot := rfl
@[simp] theorem State.modSlot_store (n : Nat) (f : SlotRec → SlotRec) : (s.modSlot n f).store = s.store := rfl
@[simp] theorem State.modSlot_retSeal (n : Nat) (f : SlotRec → SlotRec) : (s.modSlot n f).retSeal = s.retSeal := rfl
@[simp] theorem State.modSlot_jtag (n : Nat) (f : SlotRec → SlotRec) : (s.modSlot n f).jtag = s.jtag := rfl
@[simp] theorem State.modSlot_pd0 (n : Nat) (f : SlotRec → SlotRec) : (s.modSlot n f).pd0 = s.pd0 := rfl
@[simp] theorem State.modSlot_spiLast (n : Nat) (f : SlotRec → SlotRec) : (s.modSlot n f).spiLast = s.spiLast := rfl
@[simp] theorem State.modSlot_pcie (n : Nat) (f : SlotRec → SlotRec) : (s.modSlot n f).pcie = s.pcie := rfl
@[simp] theorem State.modSlot_slots (n : Nat) (f : SlotRec → SlotRec) : (s.modSlot n f).slots = vmod s.slots n f := rfl
@[simp] theorem State.modSlot_lastServed (n : Nat) (f : SlotRec → SlotRec) : (s.modSlot n f).lastServed = s.lastServed := rfl
@[simp] theorem State.modSlot_owners (n : Nat) (f : SlotRec → SlotRec) : (s.modSlot n f).owners = s.owners := rfl
@[simp] theorem State.modSlot_ram (n : Nat) (f : SlotRec → SlotRec) : (s.modSlot n f).ram = s.ram := rfl
@[simp] theorem State.modSlot_board (n : Nat) (f : SlotRec → SlotRec) : (s.modSlot n f).board = s.board := rfl
@[simp] theorem State.modSlot_memTest (n : Nat) (f : SlotRec → SlotRec) : (s.modSlot n f).memTest = s.memTest := rfl
@[simp] theorem State.modSlot_time (n : Nat) (f : SlotRec → SlotRec) : (s.modSlot n f).time = s.time := rfl
@[simp] theorem State.modSlot_net (n : Nat) (f : SlotRec → SlotRec) : (s.modSlot n f).net = s.net := rfl
@[simp] theorem State.modSlot_crypt (n : Nat) (f : SlotRec → SlotRec) : (s.modSlot n f).crypt = s.crypt := rfl
@[simp] theorem State.modSlot_power (n : Nat) (f : SlotRec → SlotRec) : (s.modSlot n f).power = s.power := rfl
@[simp] theorem State.modSlot_can (n : Nat) (f : SlotRec → SlotRec) : (s.modSlot n f).can = s.can := rfl
@[simp] theorem State.modSlot_lin (n : Nat) (f : SlotRec → SlotRec) : (s.modSlot n f).lin = s.lin := rfl
@[simp] theorem State.modSlot_uart (n : Nat) (f : SlotRec → SlotRec) : (s.modSlot n f).uart = s.uart := rfl
@[simp] theorem State.modSlot_relay (n : Nat) (f : SlotRec → SlotRec) : (s.modSlot n f).relay = s.relay := rfl
@[simp] theorem State.modSlot_esc (n : Nat) (f : SlotRec → SlotRec) : (s.modSlot n f).esc = s.esc := rfl
@[simp] theorem State.modSlot_keys (n : Nat) (f : SlotRec → SlotRec) : (s.modSlot n f).keys = s.keys := rfl
@[simp] theorem State.modSlot_sleep (n : Nat) (f : SlotRec → SlotRec) : (s.modSlot n f).sleep = s.sleep := rfl
@[simp] theorem State.modSlot_meas (n : Nat) (f : SlotRec → SlotRec) : (s.modSlot n f).meas = s.meas := rfl
@[simp] theorem State.modSlot_drover (n : Nat) (f : SlotRec → SlotRec) : (s.modSlot n f).drover = s.drover := rfl

@[simp] theorem State.serveSlot_pending (n : Nat) : (s.serveSlot n).pending = s.pending := rfl
@[simp] theorem State.serveSlot_tick (n : Nat) : (s.serveSlot n).tick = s.tick := rfl
@[simp] theorem State.serveSlot_fresh (n : Nat) : (s.serveSlot n).fresh = s.fresh := rfl
@[simp] theorem State.serveSlot_out (n : Nat) : (s.serveSlot n).out = s.out := rfl
@[simp] theorem State.serveSlot_counters (n : Nat) : (s.serveSlot n).counters = s.counters := rfl
@[simp] theorem State.serveSlot_hiu (n : Nat) : (s.serveSlot n).hiu = s.hiu := rfl
@[simp] theorem State.serveSlot_cmu (n : Nat) : (s.serveSlot n).cmu = s.cmu := rfl
@[simp] theorem State.serveSlot_pws (n : Nat) : (s.serveSlot n).pws = s.pws := rfl
@[simp] theorem State.serveSlot_boot (n : Nat) : (s.serveSlot n).boot = s.boot := rfl
@[simp] theorem State.serveSlot_store (n : Nat) : (s.serveSlot n).store = s.store := rfl
@[simp] theorem State.serveSlot_retSeal (n : Nat) : (s.serveSlot n).retSeal = s.retSeal := rfl
@[simp] theorem State.serveSlot_jtag (n : Nat) : (s.serveSlot n).jtag = s.jtag := rfl
@[simp] theorem State.serveSlot_pd0 (n : Nat) : (s.serveSlot n).pd0 = s.pd0 := rfl
@[simp] theorem State.serveSlot_spiLast (n : Nat) : (s.serveSlot n).spiLast = s.spiLast := rfl
@[simp] theorem State.serveSlot_pcie (n : Nat) : (s.serveSlot n).pcie = s.pcie := rfl
@[simp] theorem State.serveSlot_slots (n : Nat) : (s.serveSlot n).slots = s.slots := rfl
@[simp] theorem State.serveSlot_lastServed (n : Nat) : (s.serveSlot n).lastServed = n := rfl
@[simp] theorem State.serveSlot_owners (n : Nat) : (s.serveSlot n).owners = s.owners := rfl
@[simp] theorem State.serveSlot_ram (n : Nat) : (s.serveSlot n).ram = s.ram := rfl
@[simp] theorem State.serveSlot_board (n : Nat) : (s.serveSlot n).board = s.board := rfl
@[simp] theorem State.serveSlot_memTest (n : Nat) : (s.serveSlot n).memTest = s.memTest := rfl
@[simp] theorem State.serveSlot_time (n : Nat) : (s.serveSlot n).time = s.time := rfl
@[simp] theorem State.serveSlot_net (n : Nat) : (s.serveSlot n).net = s.net := rfl
@[simp] theorem State.serveSlot_crypt (n : Nat) : (s.serveSlot n).crypt = s.crypt := rfl
@[simp] theorem State.serveSlot_power (n : Nat) : (s.serveSlot n).power = s.power := rfl
@[simp] theorem State.serveSlot_can (n : Nat) : (s.serveSlot n).can = s.can := rfl
@[simp] theorem State.serveSlot_lin (n : Nat) : (s.serveSlot n).lin = s.lin := rfl
@[simp] theorem State.serveSlot_uart (n : Nat) : (s.serveSlot n).uart = s.uart := rfl
@[simp] theorem State.serveSlot_relay (n : Nat) : (s.serveSlot n).relay = s.relay := rfl
@[simp] theorem State.serveSlot_esc (n : Nat) : (s.serveSlot n).esc = s.esc := rfl
@[simp] theorem State.serveSlot_keys (n : Nat) : (s.serveSlot n).keys = s.keys := rfl
@[simp] theorem State.serveSlot_sleep (n : Nat) : (s.serveSlot n).sleep = s.sleep := rfl
@[simp] theorem State.serveSlot_meas (n : Nat) : (s.serveSlot n).meas = s.meas := rfl
@[simp] theorem State.serveSlot_drover (n : Nat) : (s.serveSlot n).drover = s.drover := rfl

@[simp] theorem State.emit_pending (o : Out) : (s.emit o).pending = s.pending := rfl
@[simp] theorem State.emit_tick (o : Out) : (s.emit o).tick = s.tick := rfl
@[simp] theorem State.emit_fresh (o : Out) : (s.emit o).fresh = s.fresh := rfl
@[simp] theorem State.emit_out (o : Out) : (s.emit o).out = o :: s.out := rfl
@[simp] theorem State.emit_counters (o : Out) : (s.emit o).counters = s.counters := rfl
@[simp] theorem State.emit_hiu (o : Out) : (s.emit o).hiu = s.hiu := rfl
@[simp] theorem State.emit_cmu (o : Out) : (s.emit o).cmu = s.cmu := rfl
@[simp] theorem State.emit_pws (o : Out) : (s.emit o).pws = s.pws := rfl
@[simp] theorem State.emit_boot (o : Out) : (s.emit o).boot = s.boot := rfl
@[simp] theorem State.emit_store (o : Out) : (s.emit o).store = s.store := rfl
@[simp] theorem State.emit_retSeal (o : Out) : (s.emit o).retSeal = s.retSeal := rfl
@[simp] theorem State.emit_jtag (o : Out) : (s.emit o).jtag = s.jtag := rfl
@[simp] theorem State.emit_pd0 (o : Out) : (s.emit o).pd0 = s.pd0 := rfl
@[simp] theorem State.emit_spiLast (o : Out) : (s.emit o).spiLast = s.spiLast := rfl
@[simp] theorem State.emit_pcie (o : Out) : (s.emit o).pcie = s.pcie := rfl
@[simp] theorem State.emit_slots (o : Out) : (s.emit o).slots = s.slots := rfl
@[simp] theorem State.emit_lastServed (o : Out) : (s.emit o).lastServed = s.lastServed := rfl
@[simp] theorem State.emit_owners (o : Out) : (s.emit o).owners = s.owners := rfl
@[simp] theorem State.emit_ram (o : Out) : (s.emit o).ram = s.ram := rfl
@[simp] theorem State.emit_board (o : Out) : (s.emit o).board = s.board := rfl
@[simp] theorem State.emit_memTest (o : Out) : (s.emit o).memTest = s.memTest := rfl
@[simp] theorem State.emit_time (o : Out) : (s.emit o).time = s.time := rfl
@[simp] theorem State.emit_net (o : Out) : (s.emit o).net = s.net := rfl
@[simp] theorem State.emit_crypt (o : Out) : (s.emit o).crypt = s.crypt := rfl
@[simp] theorem State.emit_power (o : Out) : (s.emit o).power = s.power := rfl
@[simp] theorem State.emit_can (o : Out) : (s.emit o).can = s.can := rfl
@[simp] theorem State.emit_lin (o : Out) : (s.emit o).lin = s.lin := rfl
@[simp] theorem State.emit_uart (o : Out) : (s.emit o).uart = s.uart := rfl
@[simp] theorem State.emit_relay (o : Out) : (s.emit o).relay = s.relay := rfl
@[simp] theorem State.emit_esc (o : Out) : (s.emit o).esc = s.esc := rfl
@[simp] theorem State.emit_keys (o : Out) : (s.emit o).keys = s.keys := rfl
@[simp] theorem State.emit_sleep (o : Out) : (s.emit o).sleep = s.sleep := rfl
@[simp] theorem State.emit_meas (o : Out) : (s.emit o).meas = s.meas := rfl
@[simp] theorem State.emit_drover (o : Out) : (s.emit o).drover = s.drover := rfl

@[simp] theorem State.stir_pending : s.stir.pending = s.pending := rfl
@[simp] theorem State.stir_tick : s.stir.tick = s.tick := rfl
@[simp] theorem State.stir_fresh : s.stir.fresh = s.fresh := rfl
@[simp] theorem State.stir_out : s.stir.out = s.out := rfl
@[simp] theorem State.stir_counters : s.stir.counters = s.counters := rfl
@[simp] theorem State.stir_hiu : s.stir.hiu = s.hiu := rfl
@[simp] theorem State.stir_cmu : s.stir.cmu = s.cmu := rfl
@[simp] theorem State.stir_pws : s.stir.pws = s.pws := rfl
@[simp] theorem State.stir_boot : s.stir.boot = s.boot := rfl
@[simp] theorem State.stir_store : s.stir.store = s.store := rfl
@[simp] theorem State.stir_retSeal : s.stir.retSeal = s.retSeal := rfl
@[simp] theorem State.stir_jtag : s.stir.jtag = s.jtag := rfl
@[simp] theorem State.stir_pd0 : s.stir.pd0 = s.pd0 := rfl
@[simp] theorem State.stir_spiLast : s.stir.spiLast = s.spiLast := rfl
@[simp] theorem State.stir_pcie : s.stir.pcie = s.pcie := rfl
@[simp] theorem State.stir_slots : s.stir.slots = s.slots := rfl
@[simp] theorem State.stir_lastServed : s.stir.lastServed = s.lastServed := rfl
@[simp] theorem State.stir_owners : s.stir.owners = s.owners := rfl
@[simp] theorem State.stir_ram : s.stir.ram = s.ram := rfl
@[simp] theorem State.stir_board : s.stir.board = s.board := rfl
@[simp] theorem State.stir_memTest : s.stir.memTest = s.memTest := rfl
@[simp] theorem State.stir_time : s.stir.time = s.time := rfl
@[simp] theorem State.stir_net : s.stir.net = s.net := rfl
@[simp] theorem State.stir_crypt : s.stir.crypt = s.crypt := rfl
@[simp] theorem State.stir_power : s.stir.power = s.power := rfl
@[simp] theorem State.stir_can : s.stir.can = s.can := rfl
@[simp] theorem State.stir_lin : s.stir.lin = s.lin := rfl
@[simp] theorem State.stir_uart : s.stir.uart = s.uart := rfl
@[simp] theorem State.stir_relay : s.stir.relay = s.relay := rfl
@[simp] theorem State.stir_esc : s.stir.esc = s.esc := rfl
@[simp] theorem State.stir_keys : s.stir.keys = s.keys := rfl
@[simp] theorem State.stir_sleep : s.stir.sleep = s.sleep := rfl
@[simp] theorem State.stir_meas : s.stir.meas = s.meas := rfl
@[simp] theorem State.stir_drover : s.stir.drover = { s.drover with active := true } := rfl

@[simp] theorem State.clearCtrs_pending (p : Ctr → Bool) : (s.clearCtrs p).pending = s.pending := rfl
@[simp] theorem State.clearCtrs_tick (p : Ctr → Bool) : (s.clearCtrs p).tick = s.tick := rfl
@[simp] theorem State.clearCtrs_fresh (p : Ctr → Bool) : (s.clearCtrs p).fresh = s.fresh := rfl
@[simp] theorem State.clearCtrs_out (p : Ctr → Bool) : (s.clearCtrs p).out = s.out := rfl
@[simp] theorem State.clearCtrs_counters (p : Ctr → Bool) : (s.clearCtrs p).counters = s.counters.filter (fun e => !p e.1) := rfl
@[simp] theorem State.clearCtrs_hiu (p : Ctr → Bool) : (s.clearCtrs p).hiu = s.hiu := rfl
@[simp] theorem State.clearCtrs_cmu (p : Ctr → Bool) : (s.clearCtrs p).cmu = s.cmu := rfl
@[simp] theorem State.clearCtrs_pws (p : Ctr → Bool) : (s.clearCtrs p).pws = s.pws := rfl
@[simp] theorem State.clearCtrs_boot (p : Ctr → Bool) : (s.clearCtrs p).boot = s.boot := rfl
@[simp] theorem State.clearCtrs_store (p : Ctr → Bool) : (s.clearCtrs p).store = s.store := rfl
@[simp] theorem State.clearCtrs_retSeal (p : Ctr → Bool) : (s.clearCtrs p).retSeal = s.retSeal := rfl
@[simp] theorem State.clearCtrs_jtag (p : Ctr → Bool) : (s.clearCtrs p).jtag = s.jtag := rfl
@[simp] theorem State.clearCtrs_pd0 (p : Ctr → Bool) : (s.clearCtrs p).pd0 = s.pd0 := rfl
@[simp] theorem State.clearCtrs_spiLast (p : Ctr → Bool) : (s.clearCtrs p).spiLast = s.spiLast := rfl
@[simp] theorem State.clearCtrs_pcie (p : Ctr → Bool) : (s.clearCtrs p).pcie = s.pcie := rfl
@[simp] theorem State.clearCtrs_slots (p : Ctr → Bool) : (s.clearCtrs p).slots = s.slots := rfl
@[simp] theorem State.clearCtrs_lastServed (p : Ctr → Bool) : (s.clearCtrs p).lastServed = s.lastServed := rfl
@[simp] theorem State.clearCtrs_owners (p : Ctr → Bool) : (s.clearCtrs p).owners = s.owners := rfl
@[simp] theorem State.clearCtrs_ram (p : Ctr → Bool) : (s.clearCtrs p).ram = s.ram := rfl
@[simp] theorem State.clearCtrs_board (p : Ctr → Bool) : (s.clearCtrs p).board = s.board := rfl
@[simp] theorem State.clearCtrs_memTest (p : Ctr → Bool) : (s.clearCtrs p).memTest = s.memTest := rfl
@[simp] theorem State.clearCtrs_time (p : Ctr → Bool) : (s.clearCtrs p).time = s.time := rfl
@[simp] theorem State.clearCtrs_net (p : Ctr → Bool) : (s.clearCtrs p).net = s.net := rfl
@[simp] theorem State.clearCtrs_crypt (p : Ctr → Bool) : (s.clearCtrs p).crypt = s.crypt := rfl
@[simp] theorem State.clearCtrs_power (p : Ctr → Bool) : (s.clearCtrs p).power = s.power := rfl
@[simp] theorem State.clearCtrs_can (p : Ctr → Bool) : (s.clearCtrs p).can = s.can := rfl
@[simp] theorem State.clearCtrs_lin (p : Ctr → Bool) : (s.clearCtrs p).lin = s.lin := rfl
@[simp] theorem State.clearCtrs_uart (p : Ctr → Bool) : (s.clearCtrs p).uart = s.uart := rfl
@[simp] theorem State.clearCtrs_relay (p : Ctr → Bool) : (s.clearCtrs p).relay = s.relay := rfl
@[simp] theorem State.clearCtrs_esc (p : Ctr → Bool) : (s.clearCtrs p).esc = s.esc := rfl
@[simp] theorem State.clearCtrs_keys (p : Ctr → Bool) : (s.clearCtrs p).keys = s.keys := rfl
@[simp] theorem State.clearCtrs_sleep (p : Ctr → Bool) : (s.clearCtrs p).sleep = s.sleep := rfl
@[simp] theorem State.clearCtrs_meas (p : Ctr → Bool) : (s.clearCtrs p).meas = s.meas := rfl
@[simp] theorem State.clearCtrs_drover (p : Ctr → Bool) : (s.clearCtrs p).drover = s.drover := rfl

@[simp] theorem State.modCmu_pending (f : Cmu → Cmu) : (s.modCmu f).pending = s.pending := rfl
@[simp] theorem State.modCmu_tick (f : Cmu → Cmu) : (s.modCmu f).tick = s.tick := rfl
@[simp] theorem State.modCmu_fresh (f : Cmu → Cmu) : (s.modCmu f).fresh = s.fresh := rfl
@[simp] theorem State.modCmu_out (f : Cmu → Cmu) : (s.modCmu f).out = s.out := rfl
@[simp] theorem State.modCmu_counters (f : Cmu → Cmu) : (s.modCmu f).counters = s.counters := rfl
@[simp] theorem State.modCmu_hiu (f : Cmu → Cmu) : (s.modCmu f).hiu = s.hiu := rfl
@[simp] theorem State.modCmu_cmu (f : Cmu → Cmu) : (s.modCmu f).cmu = f s.cmu := rfl
@[simp] theorem State.modCmu_pws (f : Cmu → Cmu) : (s.modCmu f).pws = s.pws := rfl
@[simp] theorem State.modCmu_boot (f : Cmu → Cmu) : (s.modCmu f).boot = s.boot := rfl
@[simp] theorem State.modCmu_store (f : Cmu → Cmu) : (s.modCmu f).store = s.store := rfl
@[simp] theorem State.modCmu_retSeal (f : Cmu → Cmu) : (s.modCmu f).retSeal = s.retSeal := rfl
@[simp] theorem State.modCmu_jtag (f : Cmu → Cmu) : (s.modCmu f).jtag = s.jtag := rfl
@[simp] theorem State.modCmu_pd0 (f : Cmu → Cmu) : (s.modCmu f).pd0 = s.pd0 := rfl
@[simp] theorem State.modCmu_spiLast (f : Cmu → Cmu) : (s.modCmu f).spiLast = s.spiLast := rfl
@[simp] theorem State.modCmu_pcie (f : Cmu → Cmu) : (s.modCmu f).pcie = s.pcie := rfl
@[simp] theorem State.modCmu_slots (f : Cmu → Cmu) : (s.modCmu f).slots = s.slots := rfl
@[simp] theorem State.modCmu_lastServed (f : Cmu → Cmu) : (s.modCmu f).lastServed = s.lastServed := rfl
@[simp] theorem State.modCmu_owners (f : Cmu → Cmu) : (s.modCmu f).owners = s.owners := rfl
@[simp] theorem State.modCmu_ram (f : Cmu → Cmu) : (s.modCmu f).ram = s.ram := rfl
@[simp] theorem State.modCmu_board (f : Cmu → Cmu) : (s.modCmu f).board = s.board := rfl
@[simp] theorem State.modCmu_memTest (f : Cmu → Cmu) : (s.modCmu f).memTest = s.memTest := rfl
@[simp] theorem State.modCmu_time (f : Cmu → Cmu) : (s.modCmu f).time = s.time := rfl
@[simp] theorem State.modCmu_net (f : Cmu → Cmu) : (s.modCmu f).net = s.net := rfl
@[simp] theorem State.modCmu_crypt (f : Cmu → Cmu) : (s.modCmu f).crypt = s.crypt := rfl
@[simp] theorem State.modCmu_power (f : Cmu → Cmu) : (s.modCmu f).power = s.power := rfl
@[simp] theorem State.modCmu_can (f : Cmu → Cmu) : (s.modCmu f).can = s.can := rfl
@[simp] theorem State.modCmu_lin (f : Cmu → Cmu) : (s.modCmu f).lin = s.lin := rfl
@[simp] theorem State.modCmu_uart (f : Cmu → Cmu) : (s.modCmu f).uart = s.uart := rfl
@[simp] theorem State.modCmu_relay (f : Cmu → Cmu) : (s.modCmu f).relay = s.relay := rfl
@[simp] theorem State.modCmu_esc (f : Cmu → Cmu) : (s.modCmu f).esc = s.esc := rfl
@[simp] theorem State.modCmu_keys (f : Cmu → Cmu) : (s.modCmu f).keys = s.keys := rfl
@[simp] theorem State.modCmu_sleep (f : Cmu → Cmu) : (s.modCmu f).sleep = s.sleep := rfl
@[simp] theorem State.modCmu_meas (f : Cmu → Cmu) : (s.modCmu f).meas = s.meas := rfl
@[simp] theorem State.modCmu_drover (f : Cmu → Cmu) : (s.modCmu f).drover = s.drover := rfl

@[simp] theorem State.modBoot_pending (f : Boot → Boot) : (s.modBoot f).pending = s.pending := rfl
@[simp] theorem State.modBoot_tick (f : Boot → Boot) : (s.modBoot f).tick = s.tick := rfl
@[simp] theorem State.modBoot_fresh (f : Boot → Boot) : (s.modBoot f).fresh = s.fresh := rfl
@[simp] theorem State.modBoot_out (f : Boot → Boot) : (s.modBoot f).out = s.out := rfl
@[simp] theorem State.modBoot_counters (f : Boot → Boot) : (s.modBoot f).counters = s.counters := rfl
@[simp] theorem State.modBoot_hiu (f : Boot → Boot) : (s.modBoot f).hiu = s.hiu := rfl
@[simp] theorem State.modBoot_cmu (f : Boot → Boot) : (s.modBoot f).cmu = s.cmu := rfl
@[simp] theorem State.modBoot_pws (f : Boot → Boot) : (s.modBoot f).pws = s.pws := rfl
@[simp] theorem State.modBoot_boot (f : Boot → Boot) : (s.modBoot f).boot = f s.boot := rfl
@[simp] theorem State.modBoot_store (f : Boot → Boot) : (s.modBoot f).store = s.store := rfl
@[simp] theorem State.modBoot_retSeal (f : Boot → Boot) : (s.modBoot f).retSeal = s.retSeal := rfl
@[simp] theorem State.modBoot_jtag (f : Boot → Boot) : (s.modBoot f).jtag = s.jtag := rfl
@[simp] theorem State.modBoot_pd0 (f : Boot → Boot) : (s.modBoot f).pd0 = s.pd0 := rfl
@[simp] theorem State.modBoot_spiLast (f : Boot → Boot) : (s.modBoot f).spiLast = s.spiLast := rfl
@[simp] theorem State.modBoot_pcie (f : Boot → Boot) : (s.modBoot f).pcie = s.pcie := rfl
@[simp] theorem State.modBoot_slots (f : Boot → Boot) : (s.modBoot f).slots = s.slots := rfl
@[simp] theorem State.modBoot_lastServed (f : Boot → Boot) : (s.modBoot f).lastServed = s.lastServed := rfl
@[simp] theorem State.modBoot_owners (f : Boot → Boot) : (s.modBoot f).owners = s.owners := rfl
@[simp] theorem State.modBoot_ram (f : Boot → Boot) : (s.modBoot f).ram = s.ram := rfl
@[simp] theorem State.modBoot_board (f : Boot → Boot) : (s.modBoot f).board = s.board := rfl
@[simp] theorem State.modBoot_memTest (f : Boot → Boot) : (s.modBoot f).memTest = s.memTest := rfl
@[simp] theorem State.modBoot_time (f : Boot → Boot) : (s.modBoot f).time = s.time := rfl
@[simp] theorem State.modBoot_net (f : Boot → Boot) : (s.modBoot f).net = s.net := rfl
@[simp] theorem State.modBoot_crypt (f : Boot → Boot) : (s.modBoot f).crypt = s.crypt := rfl
@[simp] theorem State.modBoot_power (f : Boot → Boot) : (s.modBoot f).power = s.power := rfl
@[simp] theorem State.modBoot_can (f : Boot → Boot) : (s.modBoot f).can = s.can := rfl
@[simp] theorem State.modBoot_lin (f : Boot → Boot) : (s.modBoot f).lin = s.lin := rfl
@[simp] theorem State.modBoot_uart (f : Boot → Boot) : (s.modBoot f).uart = s.uart := rfl
@[simp] theorem State.modBoot_relay (f : Boot → Boot) : (s.modBoot f).relay = s.relay := rfl
@[simp] theorem State.modBoot_esc (f : Boot → Boot) : (s.modBoot f).esc = s.esc := rfl
@[simp] theorem State.modBoot_keys (f : Boot → Boot) : (s.modBoot f).keys = s.keys := rfl
@[simp] theorem State.modBoot_sleep (f : Boot → Boot) : (s.modBoot f).sleep = s.sleep := rfl
@[simp] theorem State.modBoot_meas (f : Boot → Boot) : (s.modBoot f).meas = s.meas := rfl
@[simp] theorem State.modBoot_drover (f : Boot → Boot) : (s.modBoot f).drover = s.drover := rfl

@[simp] theorem State.modDebug_pending (f : Debug → Debug) : (s.modDebug f).pending = s.pending := rfl
@[simp] theorem State.modDebug_tick (f : Debug → Debug) : (s.modDebug f).tick = s.tick := rfl
@[simp] theorem State.modDebug_fresh (f : Debug → Debug) : (s.modDebug f).fresh = s.fresh := rfl
@[simp] theorem State.modDebug_out (f : Debug → Debug) : (s.modDebug f).out = s.out := rfl
@[simp] theorem State.modDebug_counters (f : Debug → Debug) : (s.modDebug f).counters = s.counters := rfl
@[simp] theorem State.modDebug_hiu (f : Debug → Debug) : (s.modDebug f).hiu = s.hiu := rfl
@[simp] theorem State.modDebug_cmu (f : Debug → Debug) : (s.modDebug f).cmu = s.cmu := rfl
@[simp] theorem State.modDebug_pws (f : Debug → Debug) : (s.modDebug f).pws = s.pws := rfl
@[simp] theorem State.modDebug_boot (f : Debug → Debug) : (s.modDebug f).boot = s.boot := rfl
@[simp] theorem State.modDebug_store (f : Debug → Debug) : (s.modDebug f).store = s.store := rfl
@[simp] theorem State.modDebug_retSeal (f : Debug → Debug) : (s.modDebug f).retSeal = s.retSeal := rfl
@[simp] theorem State.modDebug_jtag (f : Debug → Debug) : (s.modDebug f).jtag = f s.jtag := rfl
@[simp] theorem State.modDebug_pd0 (f : Debug → Debug) : (s.modDebug f).pd0 = s.pd0 := rfl
@[simp] theorem State.modDebug_spiLast (f : Debug → Debug) : (s.modDebug f).spiLast = s.spiLast := rfl
@[simp] theorem State.modDebug_pcie (f : Debug → Debug) : (s.modDebug f).pcie = s.pcie := rfl
@[simp] theorem State.modDebug_slots (f : Debug → Debug) : (s.modDebug f).slots = s.slots := rfl
@[simp] theorem State.modDebug_lastServed (f : Debug → Debug) : (s.modDebug f).lastServed = s.lastServed := rfl
@[simp] theorem State.modDebug_owners (f : Debug → Debug) : (s.modDebug f).owners = s.owners := rfl
@[simp] theorem State.modDebug_ram (f : Debug → Debug) : (s.modDebug f).ram = s.ram := rfl
@[simp] theorem State.modDebug_board (f : Debug → Debug) : (s.modDebug f).board = s.board := rfl
@[simp] theorem State.modDebug_memTest (f : Debug → Debug) : (s.modDebug f).memTest = s.memTest := rfl
@[simp] theorem State.modDebug_time (f : Debug → Debug) : (s.modDebug f).time = s.time := rfl
@[simp] theorem State.modDebug_net (f : Debug → Debug) : (s.modDebug f).net = s.net := rfl
@[simp] theorem State.modDebug_crypt (f : Debug → Debug) : (s.modDebug f).crypt = s.crypt := rfl
@[simp] theorem State.modDebug_power (f : Debug → Debug) : (s.modDebug f).power = s.power := rfl
@[simp] theorem State.modDebug_can (f : Debug → Debug) : (s.modDebug f).can = s.can := rfl
@[simp] theorem State.modDebug_lin (f : Debug → Debug) : (s.modDebug f).lin = s.lin := rfl
@[simp] theorem State.modDebug_uart (f : Debug → Debug) : (s.modDebug f).uart = s.uart := rfl
@[simp] theorem State.modDebug_relay (f : Debug → Debug) : (s.modDebug f).relay = s.relay := rfl
@[simp] theorem State.modDebug_esc (f : Debug → Debug) : (s.modDebug f).esc = s.esc := rfl
@[simp] theorem State.modDebug_keys (f : Debug → Debug) : (s.modDebug f).keys = s.keys := rfl
@[simp] theorem State.modDebug_sleep (f : Debug → Debug) : (s.modDebug f).sleep = s.sleep := rfl
@[simp] theorem State.modDebug_meas (f : Debug → Debug) : (s.modDebug f).meas = s.meas := rfl
@[simp] theorem State.modDebug_drover (f : Debug → Debug) : (s.modDebug f).drover = s.drover := rfl

@[simp] theorem State.modPd0_pending (f : Pd0 → Pd0) : (s.modPd0 f).pending = s.pending := rfl
@[simp] theorem State.modPd0_tick (f : Pd0 → Pd0) : (s.modPd0 f).tick = s.tick := rfl
@[simp] theorem State.modPd0_fresh (f : Pd0 → Pd0) : (s.modPd0 f).fresh = s.fresh := rfl
@[simp] theorem State.modPd0_out (f : Pd0 → Pd0) : (s.modPd0 f).out = s.out := rfl
@[simp] theorem State.modPd0_counters (f : Pd0 → Pd0) : (s.modPd0 f).counters = s.counters := rfl
@[simp] theorem State.modPd0_hiu (f : Pd0 → Pd0) : (s.modPd0 f).hiu = s.hiu := rfl
@[simp] theorem State.modPd0_cmu (f : Pd0 → Pd0) : (s.modPd0 f).cmu = s.cmu := rfl
@[simp] theorem State.modPd0_pws (f : Pd0 → Pd0) : (s.modPd0 f).pws = s.pws := rfl
@[simp] theorem State.modPd0_boot (f : Pd0 → Pd0) : (s.modPd0 f).boot = s.boot := rfl
@[simp] theorem State.modPd0_store (f : Pd0 → Pd0) : (s.modPd0 f).store = s.store := rfl
@[simp] theorem State.modPd0_retSeal (f : Pd0 → Pd0) : (s.modPd0 f).retSeal = s.retSeal := rfl
@[simp] theorem State.modPd0_jtag (f : Pd0 → Pd0) : (s.modPd0 f).jtag = s.jtag := rfl
@[simp] theorem State.modPd0_pd0 (f : Pd0 → Pd0) : (s.modPd0 f).pd0 = f s.pd0 := rfl
@[simp] theorem State.modPd0_spiLast (f : Pd0 → Pd0) : (s.modPd0 f).spiLast = s.spiLast := rfl
@[simp] theorem State.modPd0_pcie (f : Pd0 → Pd0) : (s.modPd0 f).pcie = s.pcie := rfl
@[simp] theorem State.modPd0_slots (f : Pd0 → Pd0) : (s.modPd0 f).slots = s.slots := rfl
@[simp] theorem State.modPd0_lastServed (f : Pd0 → Pd0) : (s.modPd0 f).lastServed = s.lastServed := rfl
@[simp] theorem State.modPd0_owners (f : Pd0 → Pd0) : (s.modPd0 f).owners = s.owners := rfl
@[simp] theorem State.modPd0_ram (f : Pd0 → Pd0) : (s.modPd0 f).ram = s.ram := rfl
@[simp] theorem State.modPd0_board (f : Pd0 → Pd0) : (s.modPd0 f).board = s.board := rfl
@[simp] theorem State.modPd0_memTest (f : Pd0 → Pd0) : (s.modPd0 f).memTest = s.memTest := rfl
@[simp] theorem State.modPd0_time (f : Pd0 → Pd0) : (s.modPd0 f).time = s.time := rfl
@[simp] theorem State.modPd0_net (f : Pd0 → Pd0) : (s.modPd0 f).net = s.net := rfl
@[simp] theorem State.modPd0_crypt (f : Pd0 → Pd0) : (s.modPd0 f).crypt = s.crypt := rfl
@[simp] theorem State.modPd0_power (f : Pd0 → Pd0) : (s.modPd0 f).power = s.power := rfl
@[simp] theorem State.modPd0_can (f : Pd0 → Pd0) : (s.modPd0 f).can = s.can := rfl
@[simp] theorem State.modPd0_lin (f : Pd0 → Pd0) : (s.modPd0 f).lin = s.lin := rfl
@[simp] theorem State.modPd0_uart (f : Pd0 → Pd0) : (s.modPd0 f).uart = s.uart := rfl
@[simp] theorem State.modPd0_relay (f : Pd0 → Pd0) : (s.modPd0 f).relay = s.relay := rfl
@[simp] theorem State.modPd0_esc (f : Pd0 → Pd0) : (s.modPd0 f).esc = s.esc := rfl
@[simp] theorem State.modPd0_keys (f : Pd0 → Pd0) : (s.modPd0 f).keys = s.keys := rfl
@[simp] theorem State.modPd0_sleep (f : Pd0 → Pd0) : (s.modPd0 f).sleep = s.sleep := rfl
@[simp] theorem State.modPd0_meas (f : Pd0 → Pd0) : (s.modPd0 f).meas = s.meas := rfl
@[simp] theorem State.modPd0_drover (f : Pd0 → Pd0) : (s.modPd0 f).drover = s.drover := rfl

@[simp] theorem State.modTime_pending (f : TimeUnit → TimeUnit) : (s.modTime f).pending = s.pending := rfl
@[simp] theorem State.modTime_tick (f : TimeUnit → TimeUnit) : (s.modTime f).tick = s.tick := rfl
@[simp] theorem State.modTime_fresh (f : TimeUnit → TimeUnit) : (s.modTime f).fresh = s.fresh := rfl
@[simp] theorem State.modTime_out (f : TimeUnit → TimeUnit) : (s.modTime f).out = s.out := rfl
@[simp] theorem State.modTime_counters (f : TimeUnit → TimeUnit) : (s.modTime f).counters = s.counters := rfl
@[simp] theorem State.modTime_hiu (f : TimeUnit → TimeUnit) : (s.modTime f).hiu = s.hiu := rfl
@[simp] theorem State.modTime_cmu (f : TimeUnit → TimeUnit) : (s.modTime f).cmu = s.cmu := rfl
@[simp] theorem State.modTime_pws (f : TimeUnit → TimeUnit) : (s.modTime f).pws = s.pws := rfl
@[simp] theorem State.modTime_boot (f : TimeUnit → TimeUnit) : (s.modTime f).boot = s.boot := rfl
@[simp] theorem State.modTime_store (f : TimeUnit → TimeUnit) : (s.modTime f).store = s.store := rfl
@[simp] theorem State.modTime_retSeal (f : TimeUnit → TimeUnit) : (s.modTime f).retSeal = s.retSeal := rfl
@[simp] theorem State.modTime_jtag (f : TimeUnit → TimeUnit) : (s.modTime f).jtag = s.jtag := rfl
@[simp] theorem State.modTime_pd0 (f : TimeUnit → TimeUnit) : (s.modTime f).pd0 = s.pd0 := rfl
@[simp] theorem State.modTime_spiLast (f : TimeUnit → TimeUnit) : (s.modTime f).spiLast = s.spiLast := rfl
@[simp] theorem State.modTime_pcie (f : TimeUnit → TimeUnit) : (s.modTime f).pcie = s.pcie := rfl
@[simp] theorem State.modTime_slots (f : TimeUnit → TimeUnit) : (s.modTime f).slots = s.slots := rfl
@[simp] theorem State.modTime_lastServed (f : TimeUnit → TimeUnit) : (s.modTime f).lastServed = s.lastServed := rfl
@[simp] theorem State.modTime_owners (f : TimeUnit → TimeUnit) : (s.modTime f).owners = s.owners := rfl
@[simp] theorem State.modTime_ram (f : TimeUnit → TimeUnit) : (s.modTime f).ram = s.ram := rfl
@[simp] theorem State.modTime_board (f : TimeUnit → TimeUnit) : (s.modTime f).board = s.board := rfl
@[simp] theorem State.modTime_memTest (f : TimeUnit → TimeUnit) : (s.modTime f).memTest = s.memTest := rfl
@[simp] theorem State.modTime_time (f : TimeUnit → TimeUnit) : (s.modTime f).time = f s.time := rfl
@[simp] theorem State.modTime_net (f : TimeUnit → TimeUnit) : (s.modTime f).net = s.net := rfl
@[simp] theorem State.modTime_crypt (f : TimeUnit → TimeUnit) : (s.modTime f).crypt = s.crypt := rfl
@[simp] theorem State.modTime_power (f : TimeUnit → TimeUnit) : (s.modTime f).power = s.power := rfl
@[simp] theorem State.modTime_can (f : TimeUnit → TimeUnit) : (s.modTime f).can = s.can := rfl
@[simp] theorem State.modTime_lin (f : TimeUnit → TimeUnit) : (s.modTime f).lin = s.lin := rfl
@[simp] theorem State.modTime_uart (f : TimeUnit → TimeUnit) : (s.modTime f).uart = s.uart := rfl
@[simp] theorem State.modTime_relay (f : TimeUnit → TimeUnit) : (s.modTime f).relay = s.relay := rfl
@[simp] theorem State.modTime_esc (f : TimeUnit → TimeUnit) : (s.modTime f).esc = s.esc := rfl
@[simp] theorem State.modTime_keys (f : TimeUnit → TimeUnit) : (s.modTime f).keys = s.keys := rfl
@[simp] theorem State.modTime_sleep (f : TimeUnit → TimeUnit) : (s.modTime f).sleep = s.sleep := rfl
@[simp] theorem State.modTime_meas (f : TimeUnit → TimeUnit) : (s.modTime f).meas = s.meas := rfl
@[simp] theorem State.modTime_drover (f : TimeUnit → TimeUnit) : (s.modTime f).drover = s.drover := rfl

@[simp] theorem State.modNet_pending (f : Net → Net) : (s.modNet f).pending = s.pending := rfl
@[simp] theorem State.modNet_tick (f : Net → Net) : (s.modNet f).tick = s.tick := rfl
@[simp] theorem State.modNet_fresh (f : Net → Net) : (s.modNet f).fresh = s.fresh := rfl
@[simp] theorem State.modNet_out (f : Net → Net) : (s.modNet f).out = s.out := rfl
@[simp] theorem State.modNet_counters (f : Net → Net) : (s.modNet f).counters = s.counters := rfl
@[simp] theorem State.modNet_hiu (f : Net → Net) : (s.modNet f).hiu = s.hiu := rfl
@[simp] theorem State.modNet_cmu (f : Net → Net) : (s.modNet f).cmu = s.cmu := rfl
@[simp] theorem State.modNet_pws (f : Net → Net) : (s.modNet f).pws = s.pws := rfl
@[simp] theorem State.modNet_boot (f : Net → Net) : (s.modNet f).boot = s.boot := rfl
@[simp] theorem State.modNet_store (f : Net → Net) : (s.modNet f).store = s.store := rfl
@[simp] theorem State.modNet_retSeal (f : Net → Net) : (s.modNet f).retSeal = s.retSeal := rfl
@[simp] theorem State.modNet_jtag (f : Net → Net) : (s.modNet f).jtag = s.jtag := rfl
@[simp] theorem State.modNet_pd0 (f : Net → Net) : (s.modNet f).pd0 = s.pd0 := rfl
@[simp] theorem State.modNet_spiLast (f : Net → Net) : (s.modNet f).spiLast = s.spiLast := rfl
@[simp] theorem State.modNet_pcie (f : Net → Net) : (s.modNet f).pcie = s.pcie := rfl
@[simp] theorem State.modNet_slots (f : Net → Net) : (s.modNet f).slots = s.slots := rfl
@[simp] theorem State.modNet_lastServed (f : Net → Net) : (s.modNet f).lastServed = s.lastServed := rfl
@[simp] theorem State.modNet_owners (f : Net → Net) : (s.modNet f).owners = s.owners := rfl
@[simp] theorem State.modNet_ram (f : Net → Net) : (s.modNet f).ram = s.ram := rfl
@[simp] theorem State.modNet_board (f : Net → Net) : (s.modNet f).board = s.board := rfl
@[simp] theorem State.modNet_memTest (f : Net → Net) : (s.modNet f).memTest = s.memTest := rfl
@[simp] theorem State.modNet_time (f : Net → Net) : (s.modNet f).time = s.time := rfl
@[simp] theorem State.modNet_net (f : Net → Net) : (s.modNet f).net = f s.net := rfl
@[simp] theorem State.modNet_crypt (f : Net → Net) : (s.modNet f).crypt = s.crypt := rfl
@[simp] theorem State.modNet_power (f : Net → Net) : (s.modNet f).power = s.power := rfl
@[simp] theorem State.modNet_can (f : Net → Net) : (s.modNet f).can = s.can := rfl
@[simp] theorem State.modNet_lin (f : Net → Net) : (s.modNet f).lin = s.lin := rfl
@[simp] theorem State.modNet_uart (f : Net → Net) : (s.modNet f).uart = s.uart := rfl
@[simp] theorem State.modNet_relay (f : Net → Net) : (s.modNet f).relay = s.relay := rfl
@[simp] theorem State.modNet_esc (f : Net → Net) : (s.modNet f).esc = s.esc := rfl
@[simp] theorem State.modNet_keys (f : Net → Net) : (s.modNet f).keys = s.keys := rfl
@[simp] theorem State.modNet_sleep (f : Net → Net) : (s.modNet f).sleep = s.sleep := rfl
@[simp] theorem State.modNet_meas (f : Net → Net) : (s.modNet f).meas = s.meas := rfl
@[simp] theorem State.modNet_drover (f : Net → Net) : (s.modNet f).drover = s.drover := rfl

@[simp] theorem State.modCrypt_pending (f : Crypt → Crypt) : (s.modCrypt f).pending = s.pending := rfl
@[simp] theorem State.modCrypt_tick (f : Crypt → Crypt) : (s.modCrypt f).tick = s.tick := rfl
@[simp] theorem State.modCrypt_fresh (f : Crypt → Crypt) : (s.modCrypt f).fresh = s.fresh := rfl
@[simp] theorem State.modCrypt_out (f : Crypt → Crypt) : (s.modCrypt f).out = s.out := rfl
@[simp] theorem State.modCrypt_counters (f : Crypt → Crypt) : (s.modCrypt f).counters = s.counters := rfl
@[simp] theorem State.modCrypt_hiu (f : Crypt → Crypt) : (s.modCrypt f).hiu = s.hiu := rfl
@[simp] theorem State.modCrypt_cmu (f : Crypt → Crypt) : (s.modCrypt f).cmu = s.cmu := rfl
@[simp] theorem State.modCrypt_pws (f : Crypt → Crypt) : (s.modCrypt f).pws = s.pws := rfl
@[simp] theorem State.modCrypt_boot (f : Crypt → Crypt) : (s.modCrypt f).boot = s.boot := rfl
@[simp] theorem State.modCrypt_store (f : Crypt → Crypt) : (s.modCrypt f).store = s.store := rfl
@[simp] theorem State.modCrypt_retSeal (f : Crypt → Crypt) : (s.modCrypt f).retSeal = s.retSeal := rfl
@[simp] theorem State.modCrypt_jtag (f : Crypt → Crypt) : (s.modCrypt f).jtag = s.jtag := rfl
@[simp] theorem State.modCrypt_pd0 (f : Crypt → Crypt) : (s.modCrypt f).pd0 = s.pd0 := rfl
@[simp] theorem State.modCrypt_spiLast (f : Crypt → Crypt) : (s.modCrypt f).spiLast = s.spiLast := rfl
@[simp] theorem State.modCrypt_pcie (f : Crypt → Crypt) : (s.modCrypt f).pcie = s.pcie := rfl
@[simp] theorem State.modCrypt_slots (f : Crypt → Crypt) : (s.modCrypt f).slots = s.slots := rfl
@[simp] theorem State.modCrypt_lastServed (f : Crypt → Crypt) : (s.modCrypt f).lastServed = s.lastServed := rfl
@[simp] theorem State.modCrypt_owners (f : Crypt → Crypt) : (s.modCrypt f).owners = s.owners := rfl
@[simp] theorem State.modCrypt_ram (f : Crypt → Crypt) : (s.modCrypt f).ram = s.ram := rfl
@[simp] theorem State.modCrypt_board (f : Crypt → Crypt) : (s.modCrypt f).board = s.board := rfl
@[simp] theorem State.modCrypt_memTest (f : Crypt → Crypt) : (s.modCrypt f).memTest = s.memTest := rfl
@[simp] theorem State.modCrypt_time (f : Crypt → Crypt) : (s.modCrypt f).time = s.time := rfl
@[simp] theorem State.modCrypt_net (f : Crypt → Crypt) : (s.modCrypt f).net = s.net := rfl
@[simp] theorem State.modCrypt_crypt (f : Crypt → Crypt) : (s.modCrypt f).crypt = f s.crypt := rfl
@[simp] theorem State.modCrypt_power (f : Crypt → Crypt) : (s.modCrypt f).power = s.power := rfl
@[simp] theorem State.modCrypt_can (f : Crypt → Crypt) : (s.modCrypt f).can = s.can := rfl
@[simp] theorem State.modCrypt_lin (f : Crypt → Crypt) : (s.modCrypt f).lin = s.lin := rfl
@[simp] theorem State.modCrypt_uart (f : Crypt → Crypt) : (s.modCrypt f).uart = s.uart := rfl
@[simp] theorem State.modCrypt_relay (f : Crypt → Crypt) : (s.modCrypt f).relay = s.relay := rfl
@[simp] theorem State.modCrypt_esc (f : Crypt → Crypt) : (s.modCrypt f).esc = s.esc := rfl
@[simp] theorem State.modCrypt_keys (f : Crypt → Crypt) : (s.modCrypt f).keys = s.keys := rfl
@[simp] theorem State.modCrypt_sleep (f : Crypt → Crypt) : (s.modCrypt f).sleep = s.sleep := rfl
@[simp] theorem State.modCrypt_meas (f : Crypt → Crypt) : (s.modCrypt f).meas = s.meas := rfl
@[simp] theorem State.modCrypt_drover (f : Crypt → Crypt) : (s.modCrypt f).drover = s.drover := rfl

@[simp] theorem State.modPower_pending (f : Power → Power) : (s.modPower f).pending = s.pending := rfl
@[simp] theorem State.modPower_tick (f : Power → Power) : (s.modPower f).tick = s.tick := rfl
@[simp] theorem State.modPower_fresh (f : Power → Power) : (s.modPower f).fresh = s.fresh := rfl
@[simp] theorem State.modPower_out (f : Power → Power) : (s.modPower f).out = s.out := rfl
@[simp] theorem State.modPower_counters (f : Power → Power) : (s.modPower f).counters = s.counters := rfl
@[simp] theorem State.modPower_hiu (f : Power → Power) : (s.modPower f).hiu = s.hiu := rfl
@[simp] theorem State.modPower_cmu (f : Power → Power) : (s.modPower f).cmu = s.cmu := rfl
@[simp] theorem State.modPower_pws (f : Power → Power) : (s.modPower f).pws = s.pws := rfl
@[simp] theorem State.modPower_boot (f : Power → Power) : (s.modPower f).boot = s.boot := rfl
@[simp] theorem State.modPower_store (f : Power → Power) : (s.modPower f).store = s.store := rfl
@[simp] theorem State.modPower_retSeal (f : Power → Power) : (s.modPower f).retSeal = s.retSeal := rfl
@[simp] theorem State.modPower_jtag (f : Power → Power) : (s.modPower f).jtag = s.jtag := rfl
@[simp] theorem State.modPower_pd0 (f : Power → Power) : (s.modPower f).pd0 = s.pd0 := rfl
@[simp] theorem State.modPower_spiLast (f : Power → Power) : (s.modPower f).spiLast = s.spiLast := rfl
@[simp] theorem State.modPower_pcie (f : Power → Power) : (s.modPower f).pcie = s.pcie := rfl
@[simp] theorem State.modPower_slots (f : Power → Power) : (s.modPower f).slots = s.slots := rfl
@[simp] theorem State.modPower_lastServed (f : Power → Power) : (s.modPower f).lastServed = s.lastServed := rfl
@[simp] theorem State.modPower_owners (f : Power → Power) : (s.modPower f).owners = s.owners := rfl
@[simp] theorem State.modPower_ram (f : Power → Power) : (s.modPower f).ram = s.ram := rfl
@[simp] theorem State.modPower_board (f : Power → Power) : (s.modPower f).board = s.board := rfl
@[simp] theorem State.modPower_memTest (f : Power → Power) : (s.modPower f).memTest = s.memTest := rfl
@[simp] theorem State.modPower_time (f : Power → Power) : (s.modPower f).time = s.time := rfl
@[simp] theorem State.modPower_net (f : Power → Power) : (s.modPower f).net = s.net := rfl
@[simp] theorem State.modPower_crypt (f : Power → Power) : (s.modPower f).crypt = s.crypt := rfl
@[simp] theorem State.modPower_power (f : Power → Power) : (s.modPower f).power = f s.power := rfl
@[simp] theorem State.modPower_can (f : Power → Power) : (s.modPower f).can = s.can := rfl
@[simp] theorem State.modPower_lin (f : Power → Power) : (s.modPower f).lin = s.lin := rfl
@[simp] theorem State.modPower_uart (f : Power → Power) : (s.modPower f).uart = s.uart := rfl
@[simp] theorem State.modPower_relay (f : Power → Power) : (s.modPower f).relay = s.relay := rfl
@[simp] theorem State.modPower_esc (f : Power → Power) : (s.modPower f).esc = s.esc := rfl
@[simp] theorem State.modPower_keys (f : Power → Power) : (s.modPower f).keys = s.keys := rfl
@[simp] theorem State.modPower_sleep (f : Power → Power) : (s.modPower f).sleep = s.sleep := rfl
@[simp] theorem State.modPower_meas (f : Power → Power) : (s.modPower f).meas = s.meas := rfl
@[simp] theorem State.modPower_drover (f : Power → Power) : (s.modPower f).drover = s.drover := rfl

@[simp] theorem State.modCan_pending (c : Nat) (f : CanChan → CanChan) : (s.modCan c f).pending = s.pending := rfl
@[simp] theorem State.modCan_tick (c : Nat) (f : CanChan → CanChan) : (s.modCan c f).tick = s.tick := rfl
@[simp] theorem State.modCan_fresh (c : Nat) (f : CanChan → CanChan) : (s.modCan c f).fresh = s.fresh := rfl
@[simp] theorem State.modCan_out (c : Nat) (f : CanChan → CanChan) : (s.modCan c f).out = s.out := rfl
@[simp] theorem State.modCan_counters (c : Nat) (f : CanChan → CanChan) : (s.modCan c f).counters = s.counters := rfl
@[simp] theorem State.modCan_hiu (c : Nat) (f : CanChan → CanChan) : (s.modCan c f).hiu = s.hiu := rfl
@[simp] theorem State.modCan_cmu (c : Nat) (f : CanChan → CanChan) : (s.modCan c f).cmu = s.cmu := rfl
@[simp] theorem State.modCan_pws (c : Nat) (f : CanChan → CanChan) : (s.modCan c f).pws = s.pws := rfl
@[simp] theorem State.modCan_boot (c : Nat) (f : CanChan → CanChan) : (s.modCan c f).boot = s.boot := rfl
@[simp] theorem State.modCan_store (c : Nat) (f : CanChan → CanChan) : (s.modCan c f).store = s.store := rfl
@[simp] theorem State.modCan_retSeal (c : Nat) (f : CanChan → CanChan) : (s.modCan c f).retSeal = s.retSeal := rfl
@[simp] theorem State.modCan_jtag (c : Nat) (f : CanChan → CanChan) : (s.modCan c f).jtag = s.jtag := rfl
@[simp] theorem State.modCan_pd0 (c : Nat) (f : CanChan → CanChan) : (s.modCan c f).pd0 = s.pd0 := rfl
@[simp] theorem State.modCan_spiLast (c : Nat) (f : CanChan → CanChan) : (s.modCan c f).spiLast = s.spiLast := rfl
@[simp] theorem State.modCan_pcie (c : Nat) (f : CanChan → CanChan) : (s.modCan c f).pcie = s.pcie := rfl
@[simp] theorem State.modCan_slots (c : Nat) (f : CanChan → CanChan) : (s.modCan c f).slots = s.slots := rfl
@[simp] theorem State.modCan_lastServed (c : Nat) (f : CanChan → CanChan) : (s.modCan c f).lastServed = s.lastServed := rfl
@[simp] theorem State.modCan_owners (c : Nat) (f : CanChan → CanChan) : (s.modCan c f).owners = s.owners := rfl
@[simp] theorem State.modCan_ram (c : Nat) (f : CanChan → CanChan) : (s.modCan c f).ram = s.ram := rfl
@[simp] theorem State.modCan_board (c : Nat) (f : CanChan → CanChan) : (s.modCan c f).board = s.board := rfl
@[simp] theorem State.modCan_memTest (c : Nat) (f : CanChan → CanChan) : (s.modCan c f).memTest = s.memTest := rfl
@[simp] theorem State.modCan_time (c : Nat) (f : CanChan → CanChan) : (s.modCan c f).time = s.time := rfl
@[simp] theorem State.modCan_net (c : Nat) (f : CanChan → CanChan) : (s.modCan c f).net = s.net := rfl
@[simp] theorem State.modCan_crypt (c : Nat) (f : CanChan → CanChan) : (s.modCan c f).crypt = s.crypt := rfl
@[simp] theorem State.modCan_power (c : Nat) (f : CanChan → CanChan) : (s.modCan c f).power = s.power := rfl
@[simp] theorem State.modCan_can (c : Nat) (f : CanChan → CanChan) : (s.modCan c f).can = vmod s.can c f := rfl
@[simp] theorem State.modCan_lin (c : Nat) (f : CanChan → CanChan) : (s.modCan c f).lin = s.lin := rfl
@[simp] theorem State.modCan_uart (c : Nat) (f : CanChan → CanChan) : (s.modCan c f).uart = s.uart := rfl
@[simp] theorem State.modCan_relay (c : Nat) (f : CanChan → CanChan) : (s.modCan c f).relay = s.relay := rfl
@[simp] theorem State.modCan_esc (c : Nat) (f : CanChan → CanChan) : (s.modCan c f).esc = s.esc := rfl
@[simp] theorem State.modCan_keys (c : Nat) (f : CanChan → CanChan) : (s.modCan c f).keys = s.keys := rfl
@[simp] theorem State.modCan_sleep (c : Nat) (f : CanChan → CanChan) : (s.modCan c f).sleep = s.sleep := rfl
@[simp] theorem State.modCan_meas (c : Nat) (f : CanChan → CanChan) : (s.modCan c f).meas = s.meas := rfl
@[simp] theorem State.modCan_drover (c : Nat) (f : CanChan → CanChan) : (s.modCan c f).drover = s.drover := rfl

@[simp] theorem State.modLin_pending (c : Nat) (f : LinChan → LinChan) : (s.modLin c f).pending = s.pending := rfl
@[simp] theorem State.modLin_tick (c : Nat) (f : LinChan → LinChan) : (s.modLin c f).tick = s.tick := rfl
@[simp] theorem State.modLin_fresh (c : Nat) (f : LinChan → LinChan) : (s.modLin c f).fresh = s.fresh := rfl
@[simp] theorem State.modLin_out (c : Nat) (f : LinChan → LinChan) : (s.modLin c f).out = s.out := rfl
@[simp] theorem State.modLin_counters (c : Nat) (f : LinChan → LinChan) : (s.modLin c f).counters = s.counters := rfl
@[simp] theorem State.modLin_hiu (c : Nat) (f : LinChan → LinChan) : (s.modLin c f).hiu = s.hiu := rfl
@[simp] theorem State.modLin_cmu (c : Nat) (f : LinChan → LinChan) : (s.modLin c f).cmu = s.cmu := rfl
@[simp] theorem State.modLin_pws (c : Nat) (f : LinChan → LinChan) : (s.modLin c f).pws = s.pws := rfl
@[simp] theorem State.modLin_boot (c : Nat) (f : LinChan → LinChan) : (s.modLin c f).boot = s.boot := rfl
@[simp] theorem State.modLin_store (c : Nat) (f : LinChan → LinChan) : (s.modLin c f).store = s.store := rfl
@[simp] theorem State.modLin_retSeal (c : Nat) (f : LinChan → LinChan) : (s.modLin c f).retSeal = s.retSeal := rfl
@[simp] theorem State.modLin_jtag (c : Nat) (f : LinChan → LinChan) : (s.modLin c f).jtag = s.jtag := rfl
@[simp] theorem State.modLin_pd0 (c : Nat) (f : LinChan → LinChan) : (s.modLin c f).pd0 = s.pd0 := rfl
@[simp] theorem State.modLin_spiLast (c : Nat) (f : LinChan → LinChan) : (s.modLin c f).spiLast = s.spiLast := rfl
@[simp] theorem State.modLin_pcie (c : Nat) (f : LinChan → LinChan) : (s.modLin c f).pcie = s.pcie := rfl
@[simp] theorem State.modLin_slots (c : Nat) (f : LinChan → LinChan) : (s.modLin c f).slots = s.slots := rfl
@[simp] theorem State.modLin_lastServed (c : Nat) (f : LinChan → LinChan) : (s.modLin c f).lastServed = s.lastServed := rfl
@[simp] theorem State.modLin_owners (c : Nat) (f : LinChan → LinChan) : (s.modLin c f).owners = s.owners := rfl
@[simp] theorem State.modLin_ram (c : Nat) (f : LinChan → LinChan) : (s.modLin c f).ram = s.ram := rfl
@[simp] theorem State.modLin_board (c : Nat) (f : LinChan → LinChan) : (s.modLin c f).board = s.board := rfl
@[simp] theorem State.modLin_memTest (c : Nat) (f : LinChan → LinChan) : (s.modLin c f).memTest = s.memTest := rfl
@[simp] theorem State.modLin_time (c : Nat) (f : LinChan → LinChan) : (s.modLin c f).time = s.time := rfl
@[simp] theorem State.modLin_net (c : Nat) (f : LinChan → LinChan) : (s.modLin c f).net = s.net := rfl
@[simp] theorem State.modLin_crypt (c : Nat) (f : LinChan → LinChan) : (s.modLin c f).crypt = s.crypt := rfl
@[simp] theorem State.modLin_power (c : Nat) (f : LinChan → LinChan) : (s.modLin c f).power = s.power := rfl
@[simp] theorem State.modLin_can (c : Nat) (f : LinChan → LinChan) : (s.modLin c f).can = s.can := rfl
@[simp] theorem State.modLin_lin (c : Nat) (f : LinChan → LinChan) : (s.modLin c f).lin = vmod s.lin c f := rfl
@[simp] theorem State.modLin_uart (c : Nat) (f : LinChan → LinChan) : (s.modLin c f).uart = s.uart := rfl
@[simp] theorem State.modLin_relay (c : Nat) (f : LinChan → LinChan) : (s.modLin c f).relay = s.relay := rfl
@[simp] theorem State.modLin_esc (c : Nat) (f : LinChan → LinChan) : (s.modLin c f).esc = s.esc := rfl
@[simp] theorem State.modLin_keys (c : Nat) (f : LinChan → LinChan) : (s.modLin c f).keys = s.keys := rfl
@[simp] theorem State.modLin_sleep (c : Nat) (f : LinChan → LinChan) : (s.modLin c f).sleep = s.sleep := rfl
@[simp] theorem State.modLin_meas (c : Nat) (f : LinChan → LinChan) : (s.modLin c f).meas = s.meas := rfl
@[simp] theorem State.modLin_drover (c : Nat) (f : LinChan → LinChan) : (s.modLin c f).drover = s.drover := rfl

@[simp] theorem State.modUart_pending (c : Nat) (f : UartChan → UartChan) : (s.modUart c f).pending = s.pending := rfl
@[simp] theorem State.modUart_tick (c : Nat) (f : UartChan → UartChan) : (s.modUart c f).tick = s.tick := rfl
@[simp] theorem State.modUart_fresh (c : Nat) (f : UartChan → UartChan) : (s.modUart c f).fresh = s.fresh := rfl
@[simp] theorem State.modUart_out (c : Nat) (f : UartChan → UartChan) : (s.modUart c f).out = s.out := rfl
@[simp] theorem State.modUart_counters (c : Nat) (f : UartChan → UartChan) : (s.modUart c f).counters = s.counters := rfl
@[simp] theorem State.modUart_hiu (c : Nat) (f : UartChan → UartChan) : (s.modUart c f).hiu = s.hiu := rfl
@[simp] theorem State.modUart_cmu (c : Nat) (f : UartChan → UartChan) : (s.modUart c f).cmu = s.cmu := rfl
@[simp] theorem State.modUart_pws (c : Nat) (f : UartChan → UartChan) : (s.modUart c f).pws = s.pws := rfl
@[simp] theorem State.modUart_boot (c : Nat) (f : UartChan → UartChan) : (s.modUart c f).boot = s.boot := rfl
@[simp] theorem State.modUart_store (c : Nat) (f : UartChan → UartChan) : (s.modUart c f).store = s.store := rfl
@[simp] theorem State.modUart_retSeal (c : Nat) (f : UartChan → UartChan) : (s.modUart c f).retSeal = s.retSeal := rfl
@[simp] theorem State.modUart_jtag (c : Nat) (f : UartChan → UartChan) : (s.modUart c f).jtag = s.jtag := rfl
@[simp] theorem State.modUart_pd0 (c : Nat) (f : UartChan → UartChan) : (s.modUart c f).pd0 = s.pd0 := rfl
@[simp] theorem State.modUart_spiLast (c : Nat) (f : UartChan → UartChan) : (s.modUart c f).spiLast = s.spiLast := rfl
@[simp] theorem State.modUart_pcie (c : Nat) (f : UartChan → UartChan) : (s.modUart c f).pcie = s.pcie := rfl
@[simp] theorem State.modUart_slots (c : Nat) (f : UartChan → UartChan) : (s.modUart c f).slots = s.slots := rfl
@[simp] theorem State.modUart_lastServed (c : Nat) (f : UartChan → UartChan) : (s.modUart c f).lastServed = s.lastServed := rfl
@[simp] theorem State.modUart_owners (c : Nat) (f : UartChan → UartChan) : (s.modUart c f).owners = s.owners := rfl
@[simp] theorem State.modUart_ram (c : Nat) (f : UartChan → UartChan) : (s.modUart c f).ram = s.ram := rfl
@[simp] theorem State.modUart_board (c : Nat) (f : UartChan → UartChan) : (s.modUart c f).board = s.board := rfl
@[simp] theorem State.modUart_memTest (c : Nat) (f : UartChan → UartChan) : (s.modUart c f).memTest = s.memTest := rfl
@[simp] theorem State.modUart_time (c : Nat) (f : UartChan → UartChan) : (s.modUart c f).time = s.time := rfl
@[simp] theorem State.modUart_net (c : Nat) (f : UartChan → UartChan) : (s.modUart c f).net = s.net := rfl
@[simp] theorem State.modUart_crypt (c : Nat) (f : UartChan → UartChan) : (s.modUart c f).crypt = s.crypt := rfl
@[simp] theorem State.modUart_power (c : Nat) (f : UartChan → UartChan) : (s.modUart c f).power = s.power := rfl
@[simp] theorem State.modUart_can (c : Nat) (f : UartChan → UartChan) : (s.modUart c f).can = s.can := rfl
@[simp] theorem State.modUart_lin (c : Nat) (f : UartChan → UartChan) : (s.modUart c f).lin = s.lin := rfl
@[simp] theorem State.modUart_uart (c : Nat) (f : UartChan → UartChan) : (s.modUart c f).uart = vmod s.uart c f := rfl
@[simp] theorem State.modUart_relay (c : Nat) (f : UartChan → UartChan) : (s.modUart c f).relay = s.relay := rfl
@[simp] theorem State.modUart_esc (c : Nat) (f : UartChan → UartChan) : (s.modUart c f).esc = s.esc := rfl
@[simp] theorem State.modUart_keys (c : Nat) (f : UartChan → UartChan) : (s.modUart c f).keys = s.keys := rfl
@[simp] theorem State.modUart_sleep (c : Nat) (f : UartChan → UartChan) : (s.modUart c f).sleep = s.sleep := rfl
@[simp] theorem State.modUart_meas (c : Nat) (f : UartChan → UartChan) : (s.modUart c f).meas = s.meas := rfl
@[simp] theorem State.modUart_drover (c : Nat) (f : UartChan → UartChan) : (s.modUart c f).drover = s.drover := rfl

@[simp] theorem State.modRelay_pending (f : Relay → Relay) : (s.modRelay f).pending = s.pending := rfl
@[simp] theorem State.modRelay_tick (f : Relay → Relay) : (s.modRelay f).tick = s.tick := rfl
@[simp] theorem State.modRelay_fresh (f : Relay → Relay) : (s.modRelay f).fresh = s.fresh := rfl
@[simp] theorem State.modRelay_out (f : Relay → Relay) : (s.modRelay f).out = s.out := rfl
@[simp] theorem State.modRelay_counters (f : Relay → Relay) : (s.modRelay f).counters = s.counters := rfl
@[simp] theorem State.modRelay_hiu (f : Relay → Relay) : (s.modRelay f).hiu = s.hiu := rfl
@[simp] theorem State.modRelay_cmu (f : Relay → Relay) : (s.modRelay f).cmu = s.cmu := rfl
@[simp] theorem State.modRelay_pws (f : Relay → Relay) : (s.modRelay f).pws = s.pws := rfl
@[simp] theorem State.modRelay_boot (f : Relay → Relay) : (s.modRelay f).boot = s.boot := rfl
@[simp] theorem State.modRelay_store (f : Relay → Relay) : (s.modRelay f).store = s.store := rfl
@[simp] theorem State.modRelay_retSeal (f : Relay → Relay) : (s.modRelay f).retSeal = s.retSeal := rfl
@[simp] theorem State.modRelay_jtag (f : Relay → Relay) : (s.modRelay f).jtag = s.jtag := rfl
@[simp] theorem State.modRelay_pd0 (f : Relay → Relay) : (s.modRelay f).pd0 = s.pd0 := rfl
@[simp] theorem State.modRelay_spiLast (f : Relay → Relay) : (s.modRelay f).spiLast = s.spiLast := rfl
@[simp] theorem State.modRelay_pcie (f : Relay → Relay) : (s.modRelay f).pcie = s.pcie := rfl
@[simp] theorem State.modRelay_slots (f : Relay → Relay) : (s.modRelay f).slots = s.slots := rfl
@[simp] theorem State.modRelay_lastServed (f : Relay → Relay) : (s.modRelay f).lastServed = s.lastServed := rfl
@[simp] theorem State.modRelay_owners (f : Relay → Relay) : (s.modRelay f).owners = s.owners := rfl
@[simp] theorem State.modRelay_ram (f : Relay → Relay) : (s.modRelay f).ram = s.ram := rfl
@[simp] theorem State.modRelay_board (f : Relay → Relay) : (s.modRelay f).board = s.board := rfl
@[simp] theorem State.modRelay_memTest (f : Relay → Relay) : (s.modRelay f).memTest = s.memTest := rfl
@[simp] theorem State.modRelay_time (f : Relay → Relay) : (s.modRelay f).time = s.time := rfl
@[simp] theorem State.modRelay_net (f : Relay → Relay) : (s.modRelay f).net = s.net := rfl
@[simp] theorem State.modRelay_crypt (f : Relay → Relay) : (s.modRelay f).crypt = s.crypt := rfl
@[simp] theorem State.modRelay_power (f : Relay → Relay) : (s.modRelay f).power = s.power := rfl
@[simp] theorem State.modRelay_can (f : Relay → Relay) : (s.modRelay f).can = s.can := rfl
@[simp] theorem State.modRelay_lin (f : Relay → Relay) : (s.modRelay f).lin = s.lin := rfl
@[simp] theorem State.modRelay_uart (f : Relay → Relay) : (s.modRelay f).uart = s.uart := rfl
@[simp] theorem State.modRelay_relay (f : Relay → Relay) : (s.modRelay f).relay = f s.relay := rfl
@[simp] theorem State.modRelay_esc (f : Relay → Relay) : (s.modRelay f).esc = s.esc := rfl
@[simp] theorem State.modRelay_keys (f : Relay → Relay) : (s.modRelay f).keys = s.keys := rfl
@[simp] theorem State.modRelay_sleep (f : Relay → Relay) : (s.modRelay f).sleep = s.sleep := rfl
@[simp] theorem State.modRelay_meas (f : Relay → Relay) : (s.modRelay f).meas = s.meas := rfl
@[simp] theorem State.modRelay_drover (f : Relay → Relay) : (s.modRelay f).drover = s.drover := rfl

/-! What sends messages changes slots, the MSI-X bits and what was sent alone. -/

/-- What each step of a loop keeps, the loop keeps. -/
theorem forAll_keeps {α β : Type} (l : List α) {f : α → State → State} (g : State → β) (h : ∀ a u, g (f a u) = g u) :
    g (forAll l f s) = g s := by
  unfold forAll
  induction l generalizing s with
  | nil => rfl
  | cons a as ih => exact (ih (f a s)).trans (h a s)

@[simp] theorem State.message_pending (n v : Nat) : (s.message n v).pending = s.pending := by
  unfold State.message State.msixSend; dsimp only; (repeat' split) <;> rfl
@[simp] theorem State.setCause_pending (n c : Nat) : (s.setCause n c).pending = s.pending := by
  unfold State.setCause State.messagesSince
  exact forAll_keeps _ _ State.pending (fun v u => by split <;> simp)
@[simp] theorem State.setCauseAll_pending (c : Nat) : (s.setCauseAll c).pending = s.pending :=
  forAll_keeps _ _ State.pending (fun n u => u.setCause_pending n c)
@[simp] theorem State.message_tick (n v : Nat) : (s.message n v).tick = s.tick := by
  unfold State.message State.msixSend; dsimp only; (repeat' split) <;> rfl
@[simp] theorem State.setCause_tick (n c : Nat) : (s.setCause n c).tick = s.tick := by
  unfold State.setCause State.messagesSince
  exact forAll_keeps _ _ State.tick (fun v u => by split <;> simp)
@[simp] theorem State.setCauseAll_tick (c : Nat) : (s.setCauseAll c).tick = s.tick :=
  forAll_keeps _ _ State.tick (fun n u => u.setCause_tick n c)
@[simp] theorem State.message_fresh (n v : Nat) : (s.message n v).fresh = s.fresh := by
  unfold State.message State.msixSend; dsimp only; (repeat' split) <;> rfl
@[simp] theorem State.setCause_fresh (n c : Nat) : (s.setCause n c).fresh = s.fresh := by
  unfold State.setCause State.messagesSince
  exact forAll_keeps _ _ State.fresh (fun v u => by split <;> simp)
@[simp] theorem State.setCauseAll_fresh (c : Nat) : (s.setCauseAll c).fresh = s.fresh :=
  forAll_keeps _ _ State.fresh (fun n u => u.setCause_fresh n c)
@[simp] theorem State.message_counters (n v : Nat) : (s.message n v).counters = s.counters := by
  unfold State.message State.msixSend; dsimp only; (repeat' split) <;> rfl
@[simp] theorem State.setCause_counters (n c : Nat) : (s.setCause n c).counters = s.counters := by
  unfold State.setCause State.messagesSince
  exact forAll_keeps _ _ State.counters (fun v u => by split <;> simp)
@[simp] theorem State.setCauseAll_counters (c : Nat) : (s.setCauseAll c).counters = s.counters :=
  forAll_keeps _ _ State.counters (fun n u => u.setCause_counters n c)
@[simp] theorem State.message_hiu (n v : Nat) : (s.message n v).hiu = s.hiu := by
  unfold State.message State.msixSend; dsimp only; (repeat' split) <;> rfl
@[simp] theorem State.setCause_hiu (n c : Nat) : (s.setCause n c).hiu = s.hiu := by
  unfold State.setCause State.messagesSince
  exact forAll_keeps _ _ State.hiu (fun v u => by split <;> simp)
@[simp] theorem State.setCauseAll_hiu (c : Nat) : (s.setCauseAll c).hiu = s.hiu :=
  forAll_keeps _ _ State.hiu (fun n u => u.setCause_hiu n c)
@[simp] theorem State.message_cmu (n v : Nat) : (s.message n v).cmu = s.cmu := by
  unfold State.message State.msixSend; dsimp only; (repeat' split) <;> rfl
@[simp] theorem State.setCause_cmu (n c : Nat) : (s.setCause n c).cmu = s.cmu := by
  unfold State.setCause State.messagesSince
  exact forAll_keeps _ _ State.cmu (fun v u => by split <;> simp)
@[simp] theorem State.setCauseAll_cmu (c : Nat) : (s.setCauseAll c).cmu = s.cmu :=
  forAll_keeps _ _ State.cmu (fun n u => u.setCause_cmu n c)
@[simp] theorem State.message_pws (n v : Nat) : (s.message n v).pws = s.pws := by
  unfold State.message State.msixSend; dsimp only; (repeat' split) <;> rfl
@[simp] theorem State.setCause_pws (n c : Nat) : (s.setCause n c).pws = s.pws := by
  unfold State.setCause State.messagesSince
  exact forAll_keeps _ _ State.pws (fun v u => by split <;> simp)
@[simp] theorem State.setCauseAll_pws (c : Nat) : (s.setCauseAll c).pws = s.pws :=
  forAll_keeps _ _ State.pws (fun n u => u.setCause_pws n c)
@[simp] theorem State.message_boot (n v : Nat) : (s.message n v).boot = s.boot := by
  unfold State.message State.msixSend; dsimp only; (repeat' split) <;> rfl
@[simp] theorem State.setCause_boot (n c : Nat) : (s.setCause n c).boot = s.boot := by
  unfold State.setCause State.messagesSince
  exact forAll_keeps _ _ State.boot (fun v u => by split <;> simp)
@[simp] theorem State.setCauseAll_boot (c : Nat) : (s.setCauseAll c).boot = s.boot :=
  forAll_keeps _ _ State.boot (fun n u => u.setCause_boot n c)
@[simp] theorem State.message_store (n v : Nat) : (s.message n v).store = s.store := by
  unfold State.message State.msixSend; dsimp only; (repeat' split) <;> rfl
@[simp] theorem State.setCause_store (n c : Nat) : (s.setCause n c).store = s.store := by
  unfold State.setCause State.messagesSince
  exact forAll_keeps _ _ State.store (fun v u => by split <;> simp)
@[simp] theorem State.setCauseAll_store (c : Nat) : (s.setCauseAll c).store = s.store :=
  forAll_keeps _ _ State.store (fun n u => u.setCause_store n c)
@[simp] theorem State.message_retSeal (n v : Nat) : (s.message n v).retSeal = s.retSeal := by
  unfold State.message State.msixSend; dsimp only; (repeat' split) <;> rfl
@[simp] theorem State.setCause_retSeal (n c : Nat) : (s.setCause n c).retSeal = s.retSeal := by
  unfold State.setCause State.messagesSince
  exact forAll_keeps _ _ State.retSeal (fun v u => by split <;> simp)
@[simp] theorem State.setCauseAll_retSeal (c : Nat) : (s.setCauseAll c).retSeal = s.retSeal :=
  forAll_keeps _ _ State.retSeal (fun n u => u.setCause_retSeal n c)
@[simp] theorem State.message_jtag (n v : Nat) : (s.message n v).jtag = s.jtag := by
  unfold State.message State.msixSend; dsimp only; (repeat' split) <;> rfl
@[simp] theorem State.setCause_jtag (n c : Nat) : (s.setCause n c).jtag = s.jtag := by
  unfold State.setCause State.messagesSince
  exact forAll_keeps _ _ State.jtag (fun v u => by split <;> simp)
@[simp] theorem State.setCauseAll_jtag (c : Nat) : (s.setCauseAll c).jtag = s.jtag :=
  forAll_keeps _ _ State.jtag (fun n u => u.setCause_jtag n c)
@[simp] theorem State.message_pd0 (n v : Nat) : (s.message n v).pd0 = s.pd0 := by
  unfold State.message State.msixSend; dsimp only; (repeat' split) <;> rfl
@[simp] theorem State.setCause_pd0 (n c : Nat) : (s.setCause n c).pd0 = s.pd0 := by
  unfold State.setCause State.messagesSince
  exact forAll_keeps _ _ State.pd0 (fun v u => by split <;> simp)
@[simp] theorem State.setCauseAll_pd0 (c : Nat) : (s.setCauseAll c).pd0 = s.pd0 :=
  forAll_keeps _ _ State.pd0 (fun n u => u.setCause_pd0 n c)
@[simp] theorem State.message_spiLast (n v : Nat) : (s.message n v).spiLast = s.spiLast := by
  unfold State.message State.msixSend; dsimp only; (repeat' split) <;> rfl
@[simp] theorem State.setCause_spiLast (n c : Nat) : (s.setCause n c).spiLast = s.spiLast := by
  unfold State.setCause State.messagesSince
  exact forAll_keeps _ _ State.spiLast (fun v u => by split <;> simp)
@[simp] theorem State.setCauseAll_spiLast (c : Nat) : (s.setCauseAll c).spiLast = s.spiLast :=
  forAll_keeps _ _ State.spiLast (fun n u => u.setCause_spiLast n c)
@[simp] theorem State.message_lastServed (n v : Nat) : (s.message n v).lastServed = s.lastServed := by
  unfold State.message State.msixSend; dsimp only; (repeat' split) <;> rfl
@[simp] theorem State.setCause_lastServed (n c : Nat) : (s.setCause n c).lastServed = s.lastServed := by
  unfold State.setCause State.messagesSince
  exact forAll_keeps _ _ State.lastServed (fun v u => by split <;> simp)
@[simp] theorem State.setCauseAll_lastServed (c : Nat) : (s.setCauseAll c).lastServed = s.lastServed :=
  forAll_keeps _ _ State.lastServed (fun n u => u.setCause_lastServed n c)
@[simp] theorem State.message_owners (n v : Nat) : (s.message n v).owners = s.owners := by
  unfold State.message State.msixSend; dsimp only; (repeat' split) <;> rfl
@[simp] theorem State.setCause_owners (n c : Nat) : (s.setCause n c).owners = s.owners := by
  unfold State.setCause State.messagesSince
  exact forAll_keeps _ _ State.owners (fun v u => by split <;> simp)
@[simp] theorem State.setCauseAll_owners (c : Nat) : (s.setCauseAll c).owners = s.owners :=
  forAll_keeps _ _ State.owners (fun n u => u.setCause_owners n c)
@[simp] theorem State.message_ram (n v : Nat) : (s.message n v).ram = s.ram := by
  unfold State.message State.msixSend; dsimp only; (repeat' split) <;> rfl
@[simp] theorem State.setCause_ram (n c : Nat) : (s.setCause n c).ram = s.ram := by
  unfold State.setCause State.messagesSince
  exact forAll_keeps _ _ State.ram (fun v u => by split <;> simp)
@[simp] theorem State.setCauseAll_ram (c : Nat) : (s.setCauseAll c).ram = s.ram :=
  forAll_keeps _ _ State.ram (fun n u => u.setCause_ram n c)
@[simp] theorem State.message_board (n v : Nat) : (s.message n v).board = s.board := by
  unfold State.message State.msixSend; dsimp only; (repeat' split) <;> rfl
@[simp] theorem State.setCause_board (n c : Nat) : (s.setCause n c).board = s.board := by
  unfold State.setCause State.messagesSince
  exact forAll_keeps _ _ State.board (fun v u => by split <;> simp)
@[simp] theorem State.setCauseAll_board (c : Nat) : (s.setCauseAll c).board = s.board :=
  forAll_keeps _ _ State.board (fun n u => u.setCause_board n c)
@[simp] theorem State.message_memTest (n v : Nat) : (s.message n v).memTest = s.memTest := by
  unfold State.message State.msixSend; dsimp only; (repeat' split) <;> rfl
@[simp] theorem State.setCause_memTest (n c : Nat) : (s.setCause n c).memTest = s.memTest := by
  unfold State.setCause State.messagesSince
  exact forAll_keeps _ _ State.memTest (fun v u => by split <;> simp)
@[simp] theorem State.setCauseAll_memTest (c : Nat) : (s.setCauseAll c).memTest = s.memTest :=
  forAll_keeps _ _ State.memTest (fun n u => u.setCause_memTest n c)
@[simp] theorem State.message_time (n v : Nat) : (s.message n v).time = s.time := by
  unfold State.message State.msixSend; dsimp only; (repeat' split) <;> rfl
@[simp] theorem State.setCause_time (n c : Nat) : (s.setCause n c).time = s.time := by
  unfold State.setCause State.messagesSince
  exact forAll_keeps _ _ State.time (fun v u => by split <;> simp)
@[simp] theorem State.setCauseAll_time (c : Nat) : (s.setCauseAll c).time = s.time :=
  forAll_keeps _ _ State.time (fun n u => u.setCause_time n c)
@[simp] theorem State.message_net (n v : Nat) : (s.message n v).net = s.net := by
  unfold State.message State.msixSend; dsimp only; (repeat' split) <;> rfl
@[simp] theorem State.setCause_net (n c : Nat) : (s.setCause n c).net = s.net := by
  unfold State.setCause State.messagesSince
  exact forAll_keeps _ _ State.net (fun v u => by split <;> simp)
@[simp] theorem State.setCauseAll_net (c : Nat) : (s.setCauseAll c).net = s.net :=
  forAll_keeps _ _ State.net (fun n u => u.setCause_net n c)
@[simp] theorem State.message_crypt (n v : Nat) : (s.message n v).crypt = s.crypt := by
  unfold State.message State.msixSend; dsimp only; (repeat' split) <;> rfl
@[simp] theorem State.setCause_crypt (n c : Nat) : (s.setCause n c).crypt = s.crypt := by
  unfold State.setCause State.messagesSince
  exact forAll_keeps _ _ State.crypt (fun v u => by split <;> simp)
@[simp] theorem State.setCauseAll_crypt (c : Nat) : (s.setCauseAll c).crypt = s.crypt :=
  forAll_keeps _ _ State.crypt (fun n u => u.setCause_crypt n c)
@[simp] theorem State.message_power (n v : Nat) : (s.message n v).power = s.power := by
  unfold State.message State.msixSend; dsimp only; (repeat' split) <;> rfl
@[simp] theorem State.setCause_power (n c : Nat) : (s.setCause n c).power = s.power := by
  unfold State.setCause State.messagesSince
  exact forAll_keeps _ _ State.power (fun v u => by split <;> simp)
@[simp] theorem State.setCauseAll_power (c : Nat) : (s.setCauseAll c).power = s.power :=
  forAll_keeps _ _ State.power (fun n u => u.setCause_power n c)
@[simp] theorem State.message_can (n v : Nat) : (s.message n v).can = s.can := by
  unfold State.message State.msixSend; dsimp only; (repeat' split) <;> rfl
@[simp] theorem State.setCause_can (n c : Nat) : (s.setCause n c).can = s.can := by
  unfold State.setCause State.messagesSince
  exact forAll_keeps _ _ State.can (fun v u => by split <;> simp)
@[simp] theorem State.setCauseAll_can (c : Nat) : (s.setCauseAll c).can = s.can :=
  forAll_keeps _ _ State.can (fun n u => u.setCause_can n c)
@[simp] theorem State.message_lin (n v : Nat) : (s.message n v).lin = s.lin := by
  unfold State.message State.msixSend; dsimp only; (repeat' split) <;> rfl
@[simp] theorem State.setCause_lin (n c : Nat) : (s.setCause n c).lin = s.lin := by
  unfold State.setCause State.messagesSince
  exact forAll_keeps _ _ State.lin (fun v u => by split <;> simp)
@[simp] theorem State.setCauseAll_lin (c : Nat) : (s.setCauseAll c).lin = s.lin :=
  forAll_keeps _ _ State.lin (fun n u => u.setCause_lin n c)
@[simp] theorem State.message_uart (n v : Nat) : (s.message n v).uart = s.uart := by
  unfold State.message State.msixSend; dsimp only; (repeat' split) <;> rfl
@[simp] theorem State.setCause_uart (n c : Nat) : (s.setCause n c).uart = s.uart := by
  unfold State.setCause State.messagesSince
  exact forAll_keeps _ _ State.uart (fun v u => by split <;> simp)
@[simp] theorem State.setCauseAll_uart (c : Nat) : (s.setCauseAll c).uart = s.uart :=
  forAll_keeps _ _ State.uart (fun n u => u.setCause_uart n c)
@[simp] theorem State.message_relay (n v : Nat) : (s.message n v).relay = s.relay := by
  unfold State.message State.msixSend; dsimp only; (repeat' split) <;> rfl
@[simp] theorem State.setCause_relay (n c : Nat) : (s.setCause n c).relay = s.relay := by
  unfold State.setCause State.messagesSince
  exact forAll_keeps _ _ State.relay (fun v u => by split <;> simp)
@[simp] theorem State.setCauseAll_relay (c : Nat) : (s.setCauseAll c).relay = s.relay :=
  forAll_keeps _ _ State.relay (fun n u => u.setCause_relay n c)
@[simp] theorem State.message_esc (n v : Nat) : (s.message n v).esc = s.esc := by
  unfold State.message State.msixSend; dsimp only; (repeat' split) <;> rfl
@[simp] theorem State.setCause_esc (n c : Nat) : (s.setCause n c).esc = s.esc := by
  unfold State.setCause State.messagesSince
  exact forAll_keeps _ _ State.esc (fun v u => by split <;> simp)
@[simp] theorem State.setCauseAll_esc (c : Nat) : (s.setCauseAll c).esc = s.esc :=
  forAll_keeps _ _ State.esc (fun n u => u.setCause_esc n c)
@[simp] theorem State.message_keys (n v : Nat) : (s.message n v).keys = s.keys := by
  unfold State.message State.msixSend; dsimp only; (repeat' split) <;> rfl
@[simp] theorem State.setCause_keys (n c : Nat) : (s.setCause n c).keys = s.keys := by
  unfold State.setCause State.messagesSince
  exact forAll_keeps _ _ State.keys (fun v u => by split <;> simp)
@[simp] theorem State.setCauseAll_keys (c : Nat) : (s.setCauseAll c).keys = s.keys :=
  forAll_keeps _ _ State.keys (fun n u => u.setCause_keys n c)
@[simp] theorem State.message_sleep (n v : Nat) : (s.message n v).sleep = s.sleep := by
  unfold State.message State.msixSend; dsimp only; (repeat' split) <;> rfl
@[simp] theorem State.setCause_sleep (n c : Nat) : (s.setCause n c).sleep = s.sleep := by
  unfold State.setCause State.messagesSince
  exact forAll_keeps _ _ State.sleep (fun v u => by split <;> simp)
@[simp] theorem State.setCauseAll_sleep (c : Nat) : (s.setCauseAll c).sleep = s.sleep :=
  forAll_keeps _ _ State.sleep (fun n u => u.setCause_sleep n c)
@[simp] theorem State.message_meas (n v : Nat) : (s.message n v).meas = s.meas := by
  unfold State.message State.msixSend; dsimp only; (repeat' split) <;> rfl
@[simp] theorem State.setCause_meas (n c : Nat) : (s.setCause n c).meas = s.meas := by
  unfold State.setCause State.messagesSince
  exact forAll_keeps _ _ State.meas (fun v u => by split <;> simp)
@[simp] theorem State.setCauseAll_meas (c : Nat) : (s.setCauseAll c).meas = s.meas :=
  forAll_keeps _ _ State.meas (fun n u => u.setCause_meas n c)
@[simp] theorem State.message_drover (n v : Nat) : (s.message n v).drover = s.drover := by
  unfold State.message State.msixSend; dsimp only; (repeat' split) <;> rfl
@[simp] theorem State.setCause_drover (n c : Nat) : (s.setCause n c).drover = s.drover := by
  unfold State.setCause State.messagesSince
  exact forAll_keeps _ _ State.drover (fun v u => by split <;> simp)
@[simp] theorem State.setCauseAll_drover (c : Nat) : (s.setCauseAll c).drover = s.drover :=
  forAll_keeps _ _ State.drover (fun n u => u.setCause_drover n c)

@[simp] theorem State.modEsc_pending (f : Esc → Esc) : (s.modEsc f).pending = s.pending := by
  unfold State.modEsc; dsimp only; split; · rfl
  · split <;> simp
@[simp] theorem State.modEsc_tick (f : Esc → Esc) : (s.modEsc f).tick = s.tick := by
  unfold State.modEsc; dsimp only; split; · rfl
  · split <;> simp
@[simp] theorem State.modEsc_fresh (f : Esc → Esc) : (s.modEsc f).fresh = s.fresh := by
  unfold State.modEsc; dsimp only; split; · rfl
  · split <;> simp
@[simp] theorem State.modEsc_counters (f : Esc → Esc) : (s.modEsc f).counters = s.counters := by
  unfold State.modEsc; dsimp only; split; · rfl
  · split <;> simp
@[simp] theorem State.modEsc_hiu (f : Esc → Esc) : (s.modEsc f).hiu = s.hiu := by
  unfold State.modEsc; dsimp only; split; · rfl
  · split <;> simp
@[simp] theorem State.modEsc_cmu (f : Esc → Esc) : (s.modEsc f).cmu = s.cmu := by
  unfold State.modEsc; dsimp only; split; · rfl
  · split <;> simp
@[simp] theorem State.modEsc_pws (f : Esc → Esc) : (s.modEsc f).pws = s.pws := by
  unfold State.modEsc; dsimp only; split; · rfl
  · split <;> simp
@[simp] theorem State.modEsc_boot (f : Esc → Esc) : (s.modEsc f).boot = s.boot := by
  unfold State.modEsc; dsimp only; split; · rfl
  · split <;> simp
@[simp] theorem State.modEsc_store (f : Esc → Esc) : (s.modEsc f).store = s.store := by
  unfold State.modEsc; dsimp only; split; · rfl
  · split <;> simp
@[simp] theorem State.modEsc_retSeal (f : Esc → Esc) : (s.modEsc f).retSeal = s.retSeal := by
  unfold State.modEsc; dsimp only; split; · rfl
  · split <;> simp
@[simp] theorem State.modEsc_jtag (f : Esc → Esc) : (s.modEsc f).jtag = s.jtag := by
  unfold State.modEsc; dsimp only; split; · rfl
  · split <;> simp
@[simp] theorem State.modEsc_pd0 (f : Esc → Esc) : (s.modEsc f).pd0 = s.pd0 := by
  unfold State.modEsc; dsimp only; split; · rfl
  · split <;> simp
@[simp] theorem State.modEsc_spiLast (f : Esc → Esc) : (s.modEsc f).spiLast = s.spiLast := by
  unfold State.modEsc; dsimp only; split; · rfl
  · split <;> simp
@[simp] theorem State.modEsc_lastServed (f : Esc → Esc) : (s.modEsc f).lastServed = s.lastServed := by
  unfold State.modEsc; dsimp only; split; · rfl
  · split <;> simp
@[simp] theorem State.modEsc_owners (f : Esc → Esc) : (s.modEsc f).owners = s.owners := by
  unfold State.modEsc; dsimp only; split; · rfl
  · split <;> simp
@[simp] theorem State.modEsc_ram (f : Esc → Esc) : (s.modEsc f).ram = s.ram := by
  unfold State.modEsc; dsimp only; split; · rfl
  · split <;> simp
@[simp] theorem State.modEsc_board (f : Esc → Esc) : (s.modEsc f).board = s.board := by
  unfold State.modEsc; dsimp only; split; · rfl
  · split <;> simp
@[simp] theorem State.modEsc_memTest (f : Esc → Esc) : (s.modEsc f).memTest = s.memTest := by
  unfold State.modEsc; dsimp only; split; · rfl
  · split <;> simp
@[simp] theorem State.modEsc_time (f : Esc → Esc) : (s.modEsc f).time = s.time := by
  unfold State.modEsc; dsimp only; split; · rfl
  · split <;> simp
@[simp] theorem State.modEsc_net (f : Esc → Esc) : (s.modEsc f).net = s.net := by
  unfold State.modEsc; dsimp only; split; · rfl
  · split <;> simp
@[simp] theorem State.modEsc_crypt (f : Esc → Esc) : (s.modEsc f).crypt = s.crypt := by
  unfold State.modEsc; dsimp only; split; · rfl
  · split <;> simp
@[simp] theorem State.modEsc_power (f : Esc → Esc) : (s.modEsc f).power = s.power := by
  unfold State.modEsc; dsimp only; split; · rfl
  · split <;> simp
@[simp] theorem State.modEsc_can (f : Esc → Esc) : (s.modEsc f).can = s.can := by
  unfold State.modEsc; dsimp only; split; · rfl
  · split <;> simp
@[simp] theorem State.modEsc_lin (f : Esc → Esc) : (s.modEsc f).lin = s.lin := by
  unfold State.modEsc; dsimp only; split; · rfl
  · split <;> simp
@[simp] theorem State.modEsc_uart (f : Esc → Esc) : (s.modEsc f).uart = s.uart := by
  unfold State.modEsc; dsimp only; split; · rfl
  · split <;> simp
@[simp] theorem State.modEsc_relay (f : Esc → Esc) : (s.modEsc f).relay = s.relay := by
  unfold State.modEsc; dsimp only; split; · rfl
  · split <;> simp
@[simp] theorem State.modEsc_esc (f : Esc → Esc) : (s.modEsc f).esc = f s.esc := by
  unfold State.modEsc; dsimp only; split; · rfl
  · split <;> simp
@[simp] theorem State.modEsc_keys (f : Esc → Esc) : (s.modEsc f).keys = s.keys := by
  unfold State.modEsc; dsimp only; split; · rfl
  · split <;> simp
@[simp] theorem State.modEsc_sleep (f : Esc → Esc) : (s.modEsc f).sleep = s.sleep := by
  unfold State.modEsc; dsimp only; split; · rfl
  · split <;> simp
@[simp] theorem State.modEsc_meas (f : Esc → Esc) : (s.modEsc f).meas = s.meas := by
  unfold State.modEsc; dsimp only; split; · rfl
  · split <;> simp
@[simp] theorem State.modEsc_drover (f : Esc → Esc) : (s.modEsc f).drover = s.drover := by
  unfold State.modEsc; dsimp only; split; · rfl
  · split <;> simp

@[simp] theorem State.modKeys_pending (f : KeyStore → KeyStore) : (s.modKeys f).pending = s.pending := rfl
@[simp] theorem State.modKeys_tick (f : KeyStore → KeyStore) : (s.modKeys f).tick = s.tick := rfl
@[simp] theorem State.modKeys_fresh (f : KeyStore → KeyStore) : (s.modKeys f).fresh = s.fresh := rfl
@[simp] theorem State.modKeys_out (f : KeyStore → KeyStore) : (s.modKeys f).out = s.out := rfl
@[simp] theorem State.modKeys_counters (f : KeyStore → KeyStore) : (s.modKeys f).counters = s.counters := rfl
@[simp] theorem State.modKeys_hiu (f : KeyStore → KeyStore) : (s.modKeys f).hiu = s.hiu := rfl
@[simp] theorem State.modKeys_cmu (f : KeyStore → KeyStore) : (s.modKeys f).cmu = s.cmu := rfl
@[simp] theorem State.modKeys_pws (f : KeyStore → KeyStore) : (s.modKeys f).pws = s.pws := rfl
@[simp] theorem State.modKeys_boot (f : KeyStore → KeyStore) : (s.modKeys f).boot = s.boot := rfl
@[simp] theorem State.modKeys_store (f : KeyStore → KeyStore) : (s.modKeys f).store = s.store := rfl
@[simp] theorem State.modKeys_retSeal (f : KeyStore → KeyStore) : (s.modKeys f).retSeal = s.retSeal := rfl
@[simp] theorem State.modKeys_jtag (f : KeyStore → KeyStore) : (s.modKeys f).jtag = s.jtag := rfl
@[simp] theorem State.modKeys_pd0 (f : KeyStore → KeyStore) : (s.modKeys f).pd0 = s.pd0 := rfl
@[simp] theorem State.modKeys_spiLast (f : KeyStore → KeyStore) : (s.modKeys f).spiLast = s.spiLast := rfl
@[simp] theorem State.modKeys_pcie (f : KeyStore → KeyStore) : (s.modKeys f).pcie = s.pcie := rfl
@[simp] theorem State.modKeys_slots (f : KeyStore → KeyStore) : (s.modKeys f).slots = s.slots := rfl
@[simp] theorem State.modKeys_lastServed (f : KeyStore → KeyStore) : (s.modKeys f).lastServed = s.lastServed := rfl
@[simp] theorem State.modKeys_owners (f : KeyStore → KeyStore) : (s.modKeys f).owners = s.owners := rfl
@[simp] theorem State.modKeys_ram (f : KeyStore → KeyStore) : (s.modKeys f).ram = s.ram := rfl
@[simp] theorem State.modKeys_board (f : KeyStore → KeyStore) : (s.modKeys f).board = s.board := rfl
@[simp] theorem State.modKeys_memTest (f : KeyStore → KeyStore) : (s.modKeys f).memTest = s.memTest := rfl
@[simp] theorem State.modKeys_time (f : KeyStore → KeyStore) : (s.modKeys f).time = s.time := rfl
@[simp] theorem State.modKeys_net (f : KeyStore → KeyStore) : (s.modKeys f).net = s.net := rfl
@[simp] theorem State.modKeys_crypt (f : KeyStore → KeyStore) : (s.modKeys f).crypt = s.crypt := rfl
@[simp] theorem State.modKeys_power (f : KeyStore → KeyStore) : (s.modKeys f).power = s.power := rfl
@[simp] theorem State.modKeys_can (f : KeyStore → KeyStore) : (s.modKeys f).can = s.can := rfl
@[simp] theorem State.modKeys_lin (f : KeyStore → KeyStore) : (s.modKeys f).lin = s.lin := rfl
@[simp] theorem State.modKeys_uart (f : KeyStore → KeyStore) : (s.modKeys f).uart = s.uart := rfl
@[simp] theorem State.modKeys_relay (f : KeyStore → KeyStore) : (s.modKeys f).relay = s.relay := rfl
@[simp] theorem State.modKeys_esc (f : KeyStore → KeyStore) : (s.modKeys f).esc = s.esc := rfl
@[simp] theorem State.modKeys_keys (f : KeyStore → KeyStore) : (s.modKeys f).keys = f s.keys := rfl
@[simp] theorem State.modKeys_sleep (f : KeyStore → KeyStore) : (s.modKeys f).sleep = s.sleep := rfl
@[simp] theorem State.modKeys_meas (f : KeyStore → KeyStore) : (s.modKeys f).meas = s.meas := rfl
@[simp] theorem State.modKeys_drover (f : KeyStore → KeyStore) : (s.modKeys f).drover = s.drover := rfl

@[simp] theorem State.modSleep_pending (f : Sleep → Sleep) : (s.modSleep f).pending = s.pending := rfl
@[simp] theorem State.modSleep_tick (f : Sleep → Sleep) : (s.modSleep f).tick = s.tick := rfl
@[simp] theorem State.modSleep_fresh (f : Sleep → Sleep) : (s.modSleep f).fresh = s.fresh := rfl
@[simp] theorem State.modSleep_out (f : Sleep → Sleep) : (s.modSleep f).out = s.out := rfl
@[simp] theorem State.modSleep_counters (f : Sleep → Sleep) : (s.modSleep f).counters = s.counters := rfl
@[simp] theorem State.modSleep_hiu (f : Sleep → Sleep) : (s.modSleep f).hiu = s.hiu := rfl
@[simp] theorem State.modSleep_cmu (f : Sleep → Sleep) : (s.modSleep f).cmu = s.cmu := rfl
@[simp] theorem State.modSleep_pws (f : Sleep → Sleep) : (s.modSleep f).pws = s.pws := rfl
@[simp] theorem State.modSleep_boot (f : Sleep → Sleep) : (s.modSleep f).boot = s.boot := rfl
@[simp] theorem State.modSleep_store (f : Sleep → Sleep) : (s.modSleep f).store = s.store := rfl
@[simp] theorem State.modSleep_retSeal (f : Sleep → Sleep) : (s.modSleep f).retSeal = s.retSeal := rfl
@[simp] theorem State.modSleep_jtag (f : Sleep → Sleep) : (s.modSleep f).jtag = s.jtag := rfl
@[simp] theorem State.modSleep_pd0 (f : Sleep → Sleep) : (s.modSleep f).pd0 = s.pd0 := rfl
@[simp] theorem State.modSleep_spiLast (f : Sleep → Sleep) : (s.modSleep f).spiLast = s.spiLast := rfl
@[simp] theorem State.modSleep_pcie (f : Sleep → Sleep) : (s.modSleep f).pcie = s.pcie := rfl
@[simp] theorem State.modSleep_slots (f : Sleep → Sleep) : (s.modSleep f).slots = s.slots := rfl
@[simp] theorem State.modSleep_lastServed (f : Sleep → Sleep) : (s.modSleep f).lastServed = s.lastServed := rfl
@[simp] theorem State.modSleep_owners (f : Sleep → Sleep) : (s.modSleep f).owners = s.owners := rfl
@[simp] theorem State.modSleep_ram (f : Sleep → Sleep) : (s.modSleep f).ram = s.ram := rfl
@[simp] theorem State.modSleep_board (f : Sleep → Sleep) : (s.modSleep f).board = s.board := rfl
@[simp] theorem State.modSleep_memTest (f : Sleep → Sleep) : (s.modSleep f).memTest = s.memTest := rfl
@[simp] theorem State.modSleep_time (f : Sleep → Sleep) : (s.modSleep f).time = s.time := rfl
@[simp] theorem State.modSleep_net (f : Sleep → Sleep) : (s.modSleep f).net = s.net := rfl
@[simp] theorem State.modSleep_crypt (f : Sleep → Sleep) : (s.modSleep f).crypt = s.crypt := rfl
@[simp] theorem State.modSleep_power (f : Sleep → Sleep) : (s.modSleep f).power = s.power := rfl
@[simp] theorem State.modSleep_can (f : Sleep → Sleep) : (s.modSleep f).can = s.can := rfl
@[simp] theorem State.modSleep_lin (f : Sleep → Sleep) : (s.modSleep f).lin = s.lin := rfl
@[simp] theorem State.modSleep_uart (f : Sleep → Sleep) : (s.modSleep f).uart = s.uart := rfl
@[simp] theorem State.modSleep_relay (f : Sleep → Sleep) : (s.modSleep f).relay = s.relay := rfl
@[simp] theorem State.modSleep_esc (f : Sleep → Sleep) : (s.modSleep f).esc = s.esc := rfl
@[simp] theorem State.modSleep_keys (f : Sleep → Sleep) : (s.modSleep f).keys = s.keys := rfl
@[simp] theorem State.modSleep_sleep (f : Sleep → Sleep) : (s.modSleep f).sleep = f s.sleep := rfl
@[simp] theorem State.modSleep_meas (f : Sleep → Sleep) : (s.modSleep f).meas = s.meas := rfl
@[simp] theorem State.modSleep_drover (f : Sleep → Sleep) : (s.modSleep f).drover = s.drover := rfl

@[simp] theorem State.modMeas_pending (f : Meas → Meas) : (s.modMeas f).pending = s.pending := rfl
@[simp] theorem State.modMeas_tick (f : Meas → Meas) : (s.modMeas f).tick = s.tick := rfl
@[simp] theorem State.modMeas_fresh (f : Meas → Meas) : (s.modMeas f).fresh = s.fresh := rfl
@[simp] theorem State.modMeas_out (f : Meas → Meas) : (s.modMeas f).out = s.out := rfl
@[simp] theorem State.modMeas_counters (f : Meas → Meas) : (s.modMeas f).counters = s.counters := rfl
@[simp] theorem State.modMeas_hiu (f : Meas → Meas) : (s.modMeas f).hiu = s.hiu := rfl
@[simp] theorem State.modMeas_cmu (f : Meas → Meas) : (s.modMeas f).cmu = s.cmu := rfl
@[simp] theorem State.modMeas_pws (f : Meas → Meas) : (s.modMeas f).pws = s.pws := rfl
@[simp] theorem State.modMeas_boot (f : Meas → Meas) : (s.modMeas f).boot = s.boot := rfl
@[simp] theorem State.modMeas_store (f : Meas → Meas) : (s.modMeas f).store = s.store := rfl
@[simp] theorem State.modMeas_retSeal (f : Meas → Meas) : (s.modMeas f).retSeal = s.retSeal := rfl
@[simp] theorem State.modMeas_jtag (f : Meas → Meas) : (s.modMeas f).jtag = s.jtag := rfl
@[simp] theorem State.modMeas_pd0 (f : Meas → Meas) : (s.modMeas f).pd0 = s.pd0 := rfl
@[simp] theorem State.modMeas_spiLast (f : Meas → Meas) : (s.modMeas f).spiLast = s.spiLast := rfl
@[simp] theorem State.modMeas_pcie (f : Meas → Meas) : (s.modMeas f).pcie = s.pcie := rfl
@[simp] theorem State.modMeas_slots (f : Meas → Meas) : (s.modMeas f).slots = s.slots := rfl
@[simp] theorem State.modMeas_lastServed (f : Meas → Meas) : (s.modMeas f).lastServed = s.lastServed := rfl
@[simp] theorem State.modMeas_owners (f : Meas → Meas) : (s.modMeas f).owners = s.owners := rfl
@[simp] theorem State.modMeas_ram (f : Meas → Meas) : (s.modMeas f).ram = s.ram := rfl
@[simp] theorem State.modMeas_board (f : Meas → Meas) : (s.modMeas f).board = s.board := rfl
@[simp] theorem State.modMeas_memTest (f : Meas → Meas) : (s.modMeas f).memTest = s.memTest := rfl
@[simp] theorem State.modMeas_time (f : Meas → Meas) : (s.modMeas f).time = s.time := rfl
@[simp] theorem State.modMeas_net (f : Meas → Meas) : (s.modMeas f).net = s.net := rfl
@[simp] theorem State.modMeas_crypt (f : Meas → Meas) : (s.modMeas f).crypt = s.crypt := rfl
@[simp] theorem State.modMeas_power (f : Meas → Meas) : (s.modMeas f).power = s.power := rfl
@[simp] theorem State.modMeas_can (f : Meas → Meas) : (s.modMeas f).can = s.can := rfl
@[simp] theorem State.modMeas_lin (f : Meas → Meas) : (s.modMeas f).lin = s.lin := rfl
@[simp] theorem State.modMeas_uart (f : Meas → Meas) : (s.modMeas f).uart = s.uart := rfl
@[simp] theorem State.modMeas_relay (f : Meas → Meas) : (s.modMeas f).relay = s.relay := rfl
@[simp] theorem State.modMeas_esc (f : Meas → Meas) : (s.modMeas f).esc = s.esc := rfl
@[simp] theorem State.modMeas_keys (f : Meas → Meas) : (s.modMeas f).keys = s.keys := rfl
@[simp] theorem State.modMeas_sleep (f : Meas → Meas) : (s.modMeas f).sleep = s.sleep := rfl
@[simp] theorem State.modMeas_meas (f : Meas → Meas) : (s.modMeas f).meas = f s.meas := rfl
@[simp] theorem State.modMeas_drover (f : Meas → Meas) : (s.modMeas f).drover = s.drover := rfl

@[simp] theorem State.modDrov_pending (f : Drover → Drover) : (s.modDrov f).pending = s.pending := rfl
@[simp] theorem State.modDrov_tick (f : Drover → Drover) : (s.modDrov f).tick = s.tick := rfl
@[simp] theorem State.modDrov_fresh (f : Drover → Drover) : (s.modDrov f).fresh = s.fresh := rfl
@[simp] theorem State.modDrov_out (f : Drover → Drover) : (s.modDrov f).out = s.out := rfl
@[simp] theorem State.modDrov_counters (f : Drover → Drover) : (s.modDrov f).counters = s.counters := rfl
@[simp] theorem State.modDrov_hiu (f : Drover → Drover) : (s.modDrov f).hiu = s.hiu := rfl
@[simp] theorem State.modDrov_cmu (f : Drover → Drover) : (s.modDrov f).cmu = s.cmu := rfl
@[simp] theorem State.modDrov_pws (f : Drover → Drover) : (s.modDrov f).pws = s.pws := rfl
@[simp] theorem State.modDrov_boot (f : Drover → Drover) : (s.modDrov f).boot = s.boot := rfl
@[simp] theorem State.modDrov_store (f : Drover → Drover) : (s.modDrov f).store = s.store := rfl
@[simp] theorem State.modDrov_retSeal (f : Drover → Drover) : (s.modDrov f).retSeal = s.retSeal := rfl
@[simp] theorem State.modDrov_jtag (f : Drover → Drover) : (s.modDrov f).jtag = s.jtag := rfl
@[simp] theorem State.modDrov_pd0 (f : Drover → Drover) : (s.modDrov f).pd0 = s.pd0 := rfl
@[simp] theorem State.modDrov_spiLast (f : Drover → Drover) : (s.modDrov f).spiLast = s.spiLast := rfl
@[simp] theorem State.modDrov_pcie (f : Drover → Drover) : (s.modDrov f).pcie = s.pcie := rfl
@[simp] theorem State.modDrov_slots (f : Drover → Drover) : (s.modDrov f).slots = s.slots := rfl
@[simp] theorem State.modDrov_lastServed (f : Drover → Drover) : (s.modDrov f).lastServed = s.lastServed := rfl
@[simp] theorem State.modDrov_owners (f : Drover → Drover) : (s.modDrov f).owners = s.owners := rfl
@[simp] theorem State.modDrov_ram (f : Drover → Drover) : (s.modDrov f).ram = s.ram := rfl
@[simp] theorem State.modDrov_board (f : Drover → Drover) : (s.modDrov f).board = s.board := rfl
@[simp] theorem State.modDrov_memTest (f : Drover → Drover) : (s.modDrov f).memTest = s.memTest := rfl
@[simp] theorem State.modDrov_time (f : Drover → Drover) : (s.modDrov f).time = s.time := rfl
@[simp] theorem State.modDrov_net (f : Drover → Drover) : (s.modDrov f).net = s.net := rfl
@[simp] theorem State.modDrov_crypt (f : Drover → Drover) : (s.modDrov f).crypt = s.crypt := rfl
@[simp] theorem State.modDrov_power (f : Drover → Drover) : (s.modDrov f).power = s.power := rfl
@[simp] theorem State.modDrov_can (f : Drover → Drover) : (s.modDrov f).can = s.can := rfl
@[simp] theorem State.modDrov_lin (f : Drover → Drover) : (s.modDrov f).lin = s.lin := rfl
@[simp] theorem State.modDrov_uart (f : Drover → Drover) : (s.modDrov f).uart = s.uart := rfl
@[simp] theorem State.modDrov_relay (f : Drover → Drover) : (s.modDrov f).relay = s.relay := rfl
@[simp] theorem State.modDrov_esc (f : Drover → Drover) : (s.modDrov f).esc = s.esc := rfl
@[simp] theorem State.modDrov_keys (f : Drover → Drover) : (s.modDrov f).keys = s.keys := rfl
@[simp] theorem State.modDrov_sleep (f : Drover → Drover) : (s.modDrov f).sleep = s.sleep := rfl
@[simp] theorem State.modDrov_meas (f : Drover → Drover) : (s.modDrov f).meas = s.meas := rfl
@[simp] theorem State.modDrov_drover (f : Drover → Drover) : (s.modDrov f).drover = f s.drover := rfl

/-! Counting and drawing. -/

@[simp] theorem State.count_pending (k : Ctr) (n : Nat) : (s.count k n).pending = s.pending := by unfold State.count; split <;> rfl
@[simp] theorem State.count_tick (k : Ctr) (n : Nat) : (s.count k n).tick = s.tick := by unfold State.count; split <;> rfl
@[simp] theorem State.count_fresh (k : Ctr) (n : Nat) : (s.count k n).fresh = s.fresh := by unfold State.count; split <;> rfl
@[simp] theorem State.count_out (k : Ctr) (n : Nat) : (s.count k n).out = s.out := by unfold State.count; split <;> rfl
@[simp] theorem State.count_hiu (k : Ctr) (n : Nat) : (s.count k n).hiu = s.hiu := by unfold State.count; split <;> rfl
@[simp] theorem State.count_cmu (k : Ctr) (n : Nat) : (s.count k n).cmu = s.cmu := by unfold State.count; split <;> rfl
@[simp] theorem State.count_pws (k : Ctr) (n : Nat) : (s.count k n).pws = s.pws := by unfold State.count; split <;> rfl
@[simp] theorem State.count_boot (k : Ctr) (n : Nat) : (s.count k n).boot = s.boot := by unfold State.count; split <;> rfl
@[simp] theorem State.count_store (k : Ctr) (n : Nat) : (s.count k n).store = s.store := by unfold State.count; split <;> rfl
@[simp] theorem State.count_retSeal (k : Ctr) (n : Nat) : (s.count k n).retSeal = s.retSeal := by unfold State.count; split <;> rfl
@[simp] theorem State.count_jtag (k : Ctr) (n : Nat) : (s.count k n).jtag = s.jtag := by unfold State.count; split <;> rfl
@[simp] theorem State.count_pd0 (k : Ctr) (n : Nat) : (s.count k n).pd0 = s.pd0 := by unfold State.count; split <;> rfl
@[simp] theorem State.count_spiLast (k : Ctr) (n : Nat) : (s.count k n).spiLast = s.spiLast := by unfold State.count; split <;> rfl
@[simp] theorem State.count_pcie (k : Ctr) (n : Nat) : (s.count k n).pcie = s.pcie := by unfold State.count; split <;> rfl
@[simp] theorem State.count_slots (k : Ctr) (n : Nat) : (s.count k n).slots = s.slots := by unfold State.count; split <;> rfl
@[simp] theorem State.count_lastServed (k : Ctr) (n : Nat) : (s.count k n).lastServed = s.lastServed := by unfold State.count; split <;> rfl
@[simp] theorem State.count_owners (k : Ctr) (n : Nat) : (s.count k n).owners = s.owners := by unfold State.count; split <;> rfl
@[simp] theorem State.count_ram (k : Ctr) (n : Nat) : (s.count k n).ram = s.ram := by unfold State.count; split <;> rfl
@[simp] theorem State.count_board (k : Ctr) (n : Nat) : (s.count k n).board = s.board := by unfold State.count; split <;> rfl
@[simp] theorem State.count_memTest (k : Ctr) (n : Nat) : (s.count k n).memTest = s.memTest := by unfold State.count; split <;> rfl
@[simp] theorem State.count_time (k : Ctr) (n : Nat) : (s.count k n).time = s.time := by unfold State.count; split <;> rfl
@[simp] theorem State.count_net (k : Ctr) (n : Nat) : (s.count k n).net = s.net := by unfold State.count; split <;> rfl
@[simp] theorem State.count_crypt (k : Ctr) (n : Nat) : (s.count k n).crypt = s.crypt := by unfold State.count; split <;> rfl
@[simp] theorem State.count_power (k : Ctr) (n : Nat) : (s.count k n).power = s.power := by unfold State.count; split <;> rfl
@[simp] theorem State.count_can (k : Ctr) (n : Nat) : (s.count k n).can = s.can := by unfold State.count; split <;> rfl
@[simp] theorem State.count_lin (k : Ctr) (n : Nat) : (s.count k n).lin = s.lin := by unfold State.count; split <;> rfl
@[simp] theorem State.count_uart (k : Ctr) (n : Nat) : (s.count k n).uart = s.uart := by unfold State.count; split <;> rfl
@[simp] theorem State.count_relay (k : Ctr) (n : Nat) : (s.count k n).relay = s.relay := by unfold State.count; split <;> rfl
@[simp] theorem State.count_esc (k : Ctr) (n : Nat) : (s.count k n).esc = s.esc := by unfold State.count; split <;> rfl
@[simp] theorem State.count_keys (k : Ctr) (n : Nat) : (s.count k n).keys = s.keys := by unfold State.count; split <;> rfl
@[simp] theorem State.count_sleep (k : Ctr) (n : Nat) : (s.count k n).sleep = s.sleep := by unfold State.count; split <;> rfl
@[simp] theorem State.count_meas (k : Ctr) (n : Nat) : (s.count k n).meas = s.meas := by unfold State.count; split <;> rfl
@[simp] theorem State.count_drover (k : Ctr) (n : Nat) : (s.count k n).drover = s.drover := by unfold State.count; split <;> rfl
@[simp] theorem State.freeNat_pending : s.freeNat.2.pending = s.pending := rfl
@[simp] theorem State.freeBits_pending (w : Nat) : (s.freeBits w).2.pending = s.pending := rfl
@[simp] theorem State.freeBytes_pending (n : Nat) : (s.freeBytes n).2.pending = s.pending := rfl
@[simp] theorem State.freeNat_tick : s.freeNat.2.tick = s.tick := rfl
@[simp] theorem State.freeBits_tick (w : Nat) : (s.freeBits w).2.tick = s.tick := rfl
@[simp] theorem State.freeBytes_tick (n : Nat) : (s.freeBytes n).2.tick = s.tick := rfl
@[simp] theorem State.freeNat_out : s.freeNat.2.out = s.out := rfl
@[simp] theorem State.freeBits_out (w : Nat) : (s.freeBits w).2.out = s.out := rfl
@[simp] theorem State.freeBytes_out (n : Nat) : (s.freeBytes n).2.out = s.out := rfl
@[simp] theorem State.freeNat_counters : s.freeNat.2.counters = s.counters := rfl
@[simp] theorem State.freeBits_counters (w : Nat) : (s.freeBits w).2.counters = s.counters := rfl
@[simp] theorem State.freeBytes_counters (n : Nat) : (s.freeBytes n).2.counters = s.counters := rfl
@[simp] theorem State.freeNat_hiu : s.freeNat.2.hiu = s.hiu := rfl
@[simp] theorem State.freeBits_hiu (w : Nat) : (s.freeBits w).2.hiu = s.hiu := rfl
@[simp] theorem State.freeBytes_hiu (n : Nat) : (s.freeBytes n).2.hiu = s.hiu := rfl
@[simp] theorem State.freeNat_cmu : s.freeNat.2.cmu = s.cmu := rfl
@[simp] theorem State.freeBits_cmu (w : Nat) : (s.freeBits w).2.cmu = s.cmu := rfl
@[simp] theorem State.freeBytes_cmu (n : Nat) : (s.freeBytes n).2.cmu = s.cmu := rfl
@[simp] theorem State.freeNat_pws : s.freeNat.2.pws = s.pws := rfl
@[simp] theorem State.freeBits_pws (w : Nat) : (s.freeBits w).2.pws = s.pws := rfl
@[simp] theorem State.freeBytes_pws (n : Nat) : (s.freeBytes n).2.pws = s.pws := rfl
@[simp] theorem State.freeNat_boot : s.freeNat.2.boot = s.boot := rfl
@[simp] theorem State.freeBits_boot (w : Nat) : (s.freeBits w).2.boot = s.boot := rfl
@[simp] theorem State.freeBytes_boot (n : Nat) : (s.freeBytes n).2.boot = s.boot := rfl
@[simp] theorem State.freeNat_store : s.freeNat.2.store = s.store := rfl
@[simp] theorem State.freeBits_store (w : Nat) : (s.freeBits w).2.store = s.store := rfl
@[simp] theorem State.freeBytes_store (n : Nat) : (s.freeBytes n).2.store = s.store := rfl
@[simp] theorem State.freeNat_retSeal : s.freeNat.2.retSeal = s.retSeal := rfl
@[simp] theorem State.freeBits_retSeal (w : Nat) : (s.freeBits w).2.retSeal = s.retSeal := rfl
@[simp] theorem State.freeBytes_retSeal (n : Nat) : (s.freeBytes n).2.retSeal = s.retSeal := rfl
@[simp] theorem State.freeNat_jtag : s.freeNat.2.jtag = s.jtag := rfl
@[simp] theorem State.freeBits_jtag (w : Nat) : (s.freeBits w).2.jtag = s.jtag := rfl
@[simp] theorem State.freeBytes_jtag (n : Nat) : (s.freeBytes n).2.jtag = s.jtag := rfl
@[simp] theorem State.freeNat_pd0 : s.freeNat.2.pd0 = s.pd0 := rfl
@[simp] theorem State.freeBits_pd0 (w : Nat) : (s.freeBits w).2.pd0 = s.pd0 := rfl
@[simp] theorem State.freeBytes_pd0 (n : Nat) : (s.freeBytes n).2.pd0 = s.pd0 := rfl
@[simp] theorem State.freeNat_spiLast : s.freeNat.2.spiLast = s.spiLast := rfl
@[simp] theorem State.freeBits_spiLast (w : Nat) : (s.freeBits w).2.spiLast = s.spiLast := rfl
@[simp] theorem State.freeBytes_spiLast (n : Nat) : (s.freeBytes n).2.spiLast = s.spiLast := rfl
@[simp] theorem State.freeNat_pcie : s.freeNat.2.pcie = s.pcie := rfl
@[simp] theorem State.freeBits_pcie (w : Nat) : (s.freeBits w).2.pcie = s.pcie := rfl
@[simp] theorem State.freeBytes_pcie (n : Nat) : (s.freeBytes n).2.pcie = s.pcie := rfl
@[simp] theorem State.freeNat_slots : s.freeNat.2.slots = s.slots := rfl
@[simp] theorem State.freeBits_slots (w : Nat) : (s.freeBits w).2.slots = s.slots := rfl
@[simp] theorem State.freeBytes_slots (n : Nat) : (s.freeBytes n).2.slots = s.slots := rfl
@[simp] theorem State.freeNat_lastServed : s.freeNat.2.lastServed = s.lastServed := rfl
@[simp] theorem State.freeBits_lastServed (w : Nat) : (s.freeBits w).2.lastServed = s.lastServed := rfl
@[simp] theorem State.freeBytes_lastServed (n : Nat) : (s.freeBytes n).2.lastServed = s.lastServed := rfl
@[simp] theorem State.freeNat_owners : s.freeNat.2.owners = s.owners := rfl
@[simp] theorem State.freeBits_owners (w : Nat) : (s.freeBits w).2.owners = s.owners := rfl
@[simp] theorem State.freeBytes_owners (n : Nat) : (s.freeBytes n).2.owners = s.owners := rfl
@[simp] theorem State.freeNat_ram : s.freeNat.2.ram = s.ram := rfl
@[simp] theorem State.freeBits_ram (w : Nat) : (s.freeBits w).2.ram = s.ram := rfl
@[simp] theorem State.freeBytes_ram (n : Nat) : (s.freeBytes n).2.ram = s.ram := rfl
@[simp] theorem State.freeNat_board : s.freeNat.2.board = s.board := rfl
@[simp] theorem State.freeBits_board (w : Nat) : (s.freeBits w).2.board = s.board := rfl
@[simp] theorem State.freeBytes_board (n : Nat) : (s.freeBytes n).2.board = s.board := rfl
@[simp] theorem State.freeNat_memTest : s.freeNat.2.memTest = s.memTest := rfl
@[simp] theorem State.freeBits_memTest (w : Nat) : (s.freeBits w).2.memTest = s.memTest := rfl
@[simp] theorem State.freeBytes_memTest (n : Nat) : (s.freeBytes n).2.memTest = s.memTest := rfl
@[simp] theorem State.freeNat_time : s.freeNat.2.time = s.time := rfl
@[simp] theorem State.freeBits_time (w : Nat) : (s.freeBits w).2.time = s.time := rfl
@[simp] theorem State.freeBytes_time (n : Nat) : (s.freeBytes n).2.time = s.time := rfl
@[simp] theorem State.freeNat_net : s.freeNat.2.net = s.net := rfl
@[simp] theorem State.freeBits_net (w : Nat) : (s.freeBits w).2.net = s.net := rfl
@[simp] theorem State.freeBytes_net (n : Nat) : (s.freeBytes n).2.net = s.net := rfl
@[simp] theorem State.freeNat_crypt : s.freeNat.2.crypt = s.crypt := rfl
@[simp] theorem State.freeBits_crypt (w : Nat) : (s.freeBits w).2.crypt = s.crypt := rfl
@[simp] theorem State.freeBytes_crypt (n : Nat) : (s.freeBytes n).2.crypt = s.crypt := rfl
@[simp] theorem State.freeNat_power : s.freeNat.2.power = s.power := rfl
@[simp] theorem State.freeBits_power (w : Nat) : (s.freeBits w).2.power = s.power := rfl
@[simp] theorem State.freeBytes_power (n : Nat) : (s.freeBytes n).2.power = s.power := rfl
@[simp] theorem State.freeNat_can : s.freeNat.2.can = s.can := rfl
@[simp] theorem State.freeBits_can (w : Nat) : (s.freeBits w).2.can = s.can := rfl
@[simp] theorem State.freeBytes_can (n : Nat) : (s.freeBytes n).2.can = s.can := rfl
@[simp] theorem State.freeNat_lin : s.freeNat.2.lin = s.lin := rfl
@[simp] theorem State.freeBits_lin (w : Nat) : (s.freeBits w).2.lin = s.lin := rfl
@[simp] theorem State.freeBytes_lin (n : Nat) : (s.freeBytes n).2.lin = s.lin := rfl
@[simp] theorem State.freeNat_uart : s.freeNat.2.uart = s.uart := rfl
@[simp] theorem State.freeBits_uart (w : Nat) : (s.freeBits w).2.uart = s.uart := rfl
@[simp] theorem State.freeBytes_uart (n : Nat) : (s.freeBytes n).2.uart = s.uart := rfl
@[simp] theorem State.freeNat_relay : s.freeNat.2.relay = s.relay := rfl
@[simp] theorem State.freeBits_relay (w : Nat) : (s.freeBits w).2.relay = s.relay := rfl
@[simp] theorem State.freeBytes_relay (n : Nat) : (s.freeBytes n).2.relay = s.relay := rfl
@[simp] theorem State.freeNat_esc : s.freeNat.2.esc = s.esc := rfl
@[simp] theorem State.freeBits_esc (w : Nat) : (s.freeBits w).2.esc = s.esc := rfl
@[simp] theorem State.freeBytes_esc (n : Nat) : (s.freeBytes n).2.esc = s.esc := rfl
@[simp] theorem State.freeNat_keys : s.freeNat.2.keys = s.keys := rfl
@[simp] theorem State.freeBits_keys (w : Nat) : (s.freeBits w).2.keys = s.keys := rfl
@[simp] theorem State.freeBytes_keys (n : Nat) : (s.freeBytes n).2.keys = s.keys := rfl
@[simp] theorem State.freeNat_sleep : s.freeNat.2.sleep = s.sleep := rfl
@[simp] theorem State.freeBits_sleep (w : Nat) : (s.freeBits w).2.sleep = s.sleep := rfl
@[simp] theorem State.freeBytes_sleep (n : Nat) : (s.freeBytes n).2.sleep = s.sleep := rfl
@[simp] theorem State.freeNat_meas : s.freeNat.2.meas = s.meas := rfl
@[simp] theorem State.freeBits_meas (w : Nat) : (s.freeBits w).2.meas = s.meas := rfl
@[simp] theorem State.freeBytes_meas (n : Nat) : (s.freeBytes n).2.meas = s.meas := rfl
@[simp] theorem State.freeNat_drover : s.freeNat.2.drover = s.drover := rfl
@[simp] theorem State.freeBits_drover (w : Nat) : (s.freeBits w).2.drover = s.drover := rfl
@[simp] theorem State.freeBytes_drover (n : Nat) : (s.freeBytes n).2.drover = s.drover := rfl

end Sys2Proof.Machine
end

