-- ==== Sys2Proof/Laws/Follows.lean ====
section
/-! SUPPORT. The shared operations of Ops.lean never take back what `State.Follows` names: it is a preorder, every primitive update
keeps it, and so does the life of a Penyen command whose effect keeps it. -/

namespace Sys2Proof.Machine

theorem State.Follows.refl (s : State) : s.Follows s :=
  ⟨rfl, id, List.suffix_rfl, Nat.le_refl _, Nat.le_refl _, by simp⟩

theorem State.Follows.trans {s t u : State} (h : s.Follows t) (k : t.Follows u) : s.Follows u :=
  ⟨k.queue.trans h.queue, fun x => k.memory (h.memory x), h.output.trans k.output, Nat.le_trans h.draws k.draws,
    Nat.le_trans h.ticks k.ticks, by
      have h1 := h.revoked
      have h2 := k.revoked
      rw [← h1, BitVec.and_assoc, h2]⟩

/-- An update that leaves these seven alone. -/
theorem State.Follows.of_same {s t : State} (h1 : t.pending = s.pending) (h2 : t.ram = s.ram) (h : t.store = s.store)
    (h3 : t.out = s.out) (h4 : t.fresh = s.fresh) (h5 : t.tick = s.tick) (h6 : t.boot.keyrevFused = s.boot.keyrevFused) : s.Follows t :=
  ⟨h1, fun x => by unfold State.canonical at *; rw [h2, h]; exact x, h3 ▸ List.suffix_rfl, Nat.le_of_eq h4.symm,
    Nat.le_of_eq h5.symm, by rw [h6]; simp⟩

/-- An update of memory alone that keeps its form. -/
theorem State.follows_ram (s : State) (m : Memory) (h : s.ram.wf = true → m.wf = true) : s.Follows { s with ram := m } :=
  ⟨rfl, fun x => by
    unfold State.canonical at *
    simp only [Bool.and_eq_true] at x ⊢
    exact ⟨h x.1, x.2⟩, List.suffix_rfl, Nat.le_refl _, Nat.le_refl _, by simp⟩

theorem State.follows_writeAll (s : State) (a : Nat) (bs : Bytes) : s.Follows { s with ram := s.ram.writeAll a bs } :=
  s.follows_ram _ (Memory.wf_writeAll bs a)

theorem State.follows_ringWrite (s : State) (base size off : Nat) (bs : Bytes) :
    s.Follows { s with ram := Machine.ringWrite s.ram base size off bs } :=
  s.follows_ram _ (Memory.wf_ringWrite bs base size off)

theorem State.follows_filter (s : State) (p : Host.Cell → Bool) : s.Follows { s with ram := s.ram.filter p } :=
  s.follows_ram _ (Memory.wf_filter p)

theorem State.follows_emit (s : State) (o : Out) : s.Follows (s.emit o) :=
  ⟨rfl, id, List.suffix_cons o s.out, Nat.le_refl _, Nat.le_refl _, by simp⟩

/-- A draw of a free value. -/
theorem State.follows_draw (s : State) : s.Follows { s with fresh := s.fresh + 1 } :=
  ⟨rfl, id, List.suffix_rfl, Nat.le_succ _, Nat.le_refl _, by simp⟩

theorem State.follows_modSlot (s : State) (n : Nat) (f : SlotRec → SlotRec) : s.Follows (s.modSlot n f) :=
  .of_same rfl rfl rfl rfl rfl rfl rfl

theorem State.follows_modStats (s : State) (n : Nat) (f : SlotStats → SlotStats) : s.Follows (s.modStats n f) :=
  .of_same rfl rfl rfl rfl rfl rfl rfl

theorem State.follows_stir (s : State) : s.Follows s.stir := .of_same rfl rfl rfl rfl rfl rfl rfl

theorem State.follows_serveSlot (s : State) (n : Nat) : s.Follows (s.serveSlot n) := .of_same rfl rfl rfl rfl rfl rfl rfl

theorem State.follows_count (s : State) (k : Ctr) (n : Nat) : s.Follows (s.count k n) := by
  apply State.Follows.of_same <;> simp

theorem State.follows_net (s : State) (x : Net) : s.Follows { s with net := x } := .of_same rfl rfl rfl rfl rfl rfl rfl

/-! Combinators. -/

theorem State.follows_ite {s t u : State} {c : Prop} [Decidable c] (h : c → s.Follows t) (k : ¬c → s.Follows u) :
    s.Follows (if c then t else u) := by
  split
  · exact h ‹_›
  · exact k ‹_›

theorem State.follows_doIf {s : State} (c : Bool) {f : State → State} (h : s.Follows (f s)) : s.Follows (doIf c f s) := by
  unfold doIf
  split
  · exact h
  · exact .refl s

theorem State.follows_forAll {α : Type} (l : List α) {f : α → State → State} (h : ∀ a (u : State), u.Follows (f a u)) (s : State) :
    s.Follows (forAll l f s) := by
  unfold forAll
  induction l generalizing s with
  | nil => exact .refl s
  | cons a as ih => exact (h a s).trans (ih (f a s))

/-- What a second operation answers after a first. -/
theorem follows_thenDo {s t : State} {r : Res} {f : State → Res} (h : thenDo r f = .next t)
    (hr : ∀ u : State, r = .next u → s.Follows u) (hf : ∀ u : State, f u = .next t → u.Follows t) : s.Follows t := by
  cases r with
  | next u => exact (hr u rfl).trans (hf u h)
  | fault e => exact absurd h (by simp [thenDo])
  | refused e => exact absurd h (by simp [thenDo])

theorem follows_foldDo {α : Type} (l : List α) {f : α → State → Res} {s t : State} (h : foldDo l f s = .next t)
    (hf : ∀ a (u v : State), f a u = .next v → u.Follows v) : s.Follows t := by
  induction l generalizing s with
  | nil => cases h; exact .refl _
  | cons a as ih => exact follows_thenDo h (fun u hu => hf a s u hu) (fun u hu => ih hu)

/-! Causes, errors, events. -/

theorem State.follows_pcie (s : State) (x : Pcie) : s.Follows { s with pcie := x } := .of_same rfl rfl rfl rfl rfl rfl rfl

theorem State.follows_msixSend (s : State) (f : Fin 16) (v : Nat) : s.Follows (s.msixSend f v) := by
  unfold State.msixSend
  dsimp only
  split
  · exact .refl s
  · split
    · exact s.follows_pcie _
    · exact s.follows_emit _

theorem State.follows_message (s : State) (n v : Nat) : s.Follows (s.message n v) := by
  unfold State.message
  split
  · split
    · exact .refl s
    · split
      · exact s.follows_modSlot n _
      · dsimp only
        split
        · exact s.follows_msixSend _ v
        · exact (s.follows_msixSend _ v).trans (State.follows_modSlot _ n _)
  · exact .refl s

theorem State.follows_messagesSince (s : State) (n : Nat) (before : Evu) : s.Follows (s.messagesSince n before) :=
  State.follows_forAll _ (fun v s => by exact State.follows_ite (fun _ => s.follows_message n v) (fun _ => .refl s)) s

theorem State.follows_messagesAll (s : State) (n : Nat) : s.Follows (s.messagesAll n) :=
  State.follows_forAll _ (fun v s => by exact State.follows_ite (fun _ => s.follows_message n v) (fun _ => .refl s)) s

theorem State.follows_setCause (s : State) (n c : Nat) : s.Follows (s.setCause n c) :=
  (s.follows_modSlot n _).trans (State.follows_messagesSince _ n _)

theorem State.follows_setCauseAll (s : State) (c : Nat) : s.Follows (s.setCauseAll c) :=
  State.follows_forAll _ (fun n s => s.follows_setCause n c) s

theorem State.follows_hiu (s : State) (x : Hiu) : s.Follows { s with hiu := x } := .of_same rfl rfl rfl rfl rfl rfl rfl

/-- The report of a first error. -/
theorem State.follows_report (s : State) (t : Transport) (x : Hiu) :
    s.Follows (match (State.setCause { s with hiu := x } 0 4).slotOf t with
      | some n => if n = 0 then State.setCause { s with hiu := x } 0 4 else (State.setCause { s with hiu := x } 0 4).setCause n 4
      | none => State.setCause { s with hiu := x } 0 4) := by
  have h := (s.follows_hiu x).trans (State.follows_setCause _ 0 4)
  split
  · split
    · exact h
    · exact h.trans (State.follows_setCause _ _ 4)
  · exact h

theorem State.follows_hiuError (s : State) (t : Transport) (a b : Nat) : s.Follows (s.hiuError t a b) := by
  unfold State.hiuError
  have h := s.follows_hiu { s.hiu with err := s.hiu.err ||| (1#4 <<< b) }
  dsimp only
  split
  · exact h.trans (State.follows_report _ t _)
  · exact h

theorem State.follows_bootStateTo (s : State) (b : BootState) : s.Follows (s.bootStateTo b) := by
  have h1 : s.Follows { s with boot := { s.boot with state := b, bootEvt := true } } := .of_same rfl rfl rfl rfl rfl rfl rfl
  unfold State.bootStateTo
  refine State.follows_ite (fun _ => .refl s) (fun _ => ?_)
  exact State.follows_ite (fun _ => h1.trans (State.follows_msixSend _ 0 0)) (fun _ => h1)

theorem State.follows_sendEnvelope (s : State) (n k : Nat) (msg : Bytes) : s.Follows (s.sendEnvelope n k msg) := by
  unfold State.sendEnvelope
  split
  · exact (s.follows_modSlot n _).trans (State.follows_net _ _)
  · exact .refl s

theorem State.follows_storeEvent (s : State) (n : Nat) (entry : Bytes) : s.Follows (s.storeEvent n entry) :=
  (s.follows_writeAll _ entry).trans <| (State.follows_modSlot _ n _).trans <| (State.follows_modStats _ n _).trans <|
    State.follows_setCause _ n 1

theorem State.follows_event (s : State) (n ev : Nat) (data : Bytes) : s.Follows (s.event n ev data) := by
  unfold State.event
  refine (s.follows_modSlot n (fun x => { x with seq := x.seq + 1 })).trans ?_
  refine State.follows_ite (fun _ => ?_) (fun _ => State.follows_ite (fun _ => ?_) (fun _ => State.follows_storeEvent _ n _))
  · exact (State.follows_modStats _ n _).trans (State.follows_sendEnvelope _ n 3 _)
  · exact (State.follows_modSlot _ n _).trans (State.follows_modStats _ n _)

theorem State.follows_eventTwo (s : State) (a b ev : Nat) (data : Bytes) : s.Follows (s.eventTwo a b ev data) :=
  (s.follows_event a ev data).trans (State.follows_ite (fun _ => .refl _) (fun _ => State.follows_event _ b ev data))

theorem State.follows_eventOpen (s : State) (ev : Nat) (data : Bytes) : s.Follows (s.eventOpen ev data) :=
  State.follows_forAll _ (fun n s => by exact State.follows_ite (fun _ => s.follows_event n ev data) (fun _ => .refl s)) s

theorem State.follows_finishJob (s : State) (n : Nat) (tag op status : Half) (r : Bytes) :
    s.Follows (s.finishJob n tag op status r) := by
  unfold State.finishJob
  exact State.follows_ite (fun _ => .refl s) (fun _ => s.follows_modSlot n _)

theorem State.follows_writeDone (s : State) (n : Nat) : s.Follows (s.writeDone n) := by
  unfold State.writeDone
  dsimp only
  split
  · exact .refl s
  · refine State.follows_ite (fun _ => ?_) (fun _ => State.follows_ite (fun _ => .refl s) (fun _ => ?_))
    · exact (s.follows_modSlot n _).trans ((State.follows_modStats _ n _).trans (State.follows_sendEnvelope _ n 3 _))
    · exact (s.follows_modSlot n _).trans (State.follows_storeEvent _ n _)

theorem State.follows_writeHeld (s : State) (n k : Nat) : s.Follows (s.writeHeld n k) := by
  induction k generalizing s with
  | zero => exact .refl s
  | succ k ih => exact (s.follows_writeDone n).trans (ih _)

/-! The life of a Penyen command. -/

/-- What taking a request does after it has joined the commands in flight. -/
theorem State.follows_taken (s : State) (n : Nat) (b : Bool) :
    s.Follows ((if b then s else s.stir).modStats n (fun c => { c with commands := c.commands + 1 })) :=
  (State.follows_ite (fun _ => .refl s) (fun _ => s.follows_stir)).trans (State.follows_modStats _ n _)

theorem State.follows_take (s : State) (n : Nat) (op tag : Half) (p : Bytes) (now : Option Answer) :
    s.Follows (s.take n op tag p now) := by
  unfold State.take
  dsimp only
  refine State.Follows.trans ?_ (State.follows_taken _ n _)
  split
  · exact s.follows_modSlot n _
  · exact s.follows_modSlot n _

theorem State.follows_answerFront (s : State) (n : Nat) (a : Answer) : s.Follows (s.answerFront n a) := by
  unfold State.answerFront
  split
  · exact .refl s
  · exact s.follows_modSlot n _

theorem State.follows_answerStarted (s : State) (n : Nat) (tag op : Half) (a : Answer) :
    s.Follows (s.answerStarted n tag op a) := by
  unfold State.answerStarted
  split
  · exact s.follows_finishJob n tag op a.status a.payload
  · exact State.follows_ite (fun _ => s.follows_answerFront n a) (fun _ => s.follows_finishJob n tag op a.status a.payload)

/-- A command's execution follows where its effect does. -/
theorem State.follows_execute (s : State) (c : Cmd) (n : Nat) (x : Bool) (tag : Half) (p : Bytes)
    (h : s.Follows (c.run s n tag p).1) : s.Follows (s.execute c n x tag p) := by
  unfold State.execute
  split
  · exact s.follows_answerFront n _
  · split
    · rename_i t a heq
      rw [heq] at h
      exact h.trans (State.follows_answerFront _ n _)
    · rename_i t heq
      rw [heq] at h
      exact h.trans (State.follows_modSlot _ n _)
    · rename_i t heq
      rw [heq] at h
      exact State.follows_ite (fun _ => s.follows_answerFront n _)
        (fun _ => h.trans ((State.follows_modSlot _ n _).trans (State.follows_answerFront _ n _)))

/-- A Penyen row follows where its command's effect does. -/
theorem follows_penyen (c : Cmd) (n : Nat) (tag : Half) (p : Bytes) (s : State)
    (h : ∀ u : State, u.Follows (c.run u n tag p).1) : s.Follows (penyen c n tag p s) := by
  unfold penyen
  dsimp only
  split
  · exact .refl s
  · split
    · split
      · exact .refl s
      · split
        · exact (s.follows_take n _ tag p none).trans
            ((State.follows_serveSlot _ n).trans (State.follows_execute _ c n false tag p (h _)))
        · exact s.follows_take n _ tag p none
    · split
      · split
        · exact (s.follows_serveSlot n).trans (State.follows_execute _ c n _ tag p (h _))
        · exact .refl s
      · split
        · exact .refl s
        · exact s.follows_take n _ tag p none

end Sys2Proof.Machine
end

