-- ==== Sys2Proof/Laws/Tables.lean ====
section
/-! SUPPORT. Laws of fixed groups: what an element holds after a change. -/

namespace Sys2Proof.Machine

@[simp] theorem vget_vmod_same {α : Type} {n : Nat} [Inhabited α] (v : Vector α n) (i : Nat) (f : α → α) (h : i < n) :
    vget (vmod v i f) i = f (vget v i) := by
  simp [vget, vmod, h]

@[simp] theorem vget_vmod_other {α : Type} {n : Nat} [Inhabited α] (v : Vector α n) {i j : Nat} (f : α → α) (h : i ≠ j) :
    vget (vmod v i f) j = vget v j := by
  unfold vget vmod
  by_cases hj : j < n <;> by_cases hi : i < n <;> simp [hi, hj, h]

theorem vget_vmod {α : Type} {n : Nat} [Inhabited α] (v : Vector α n) (i j : Nat) (f : α → α) :
    vget (vmod v i f) j = if i = j ∧ i < n then f (vget v j) else vget v j := by
  by_cases h : i = j
  · subst h
    by_cases hn : i < n
    · simp [hn]
    · simp [hn, vget]
  · simp [h]

theorem vmod_vmod {α : Type} {n : Nat} (v : Vector α n) (i : Nat) (f g : α → α) :
    vmod (vmod v i f) i g = vmod v i (fun x => g (f x)) := by
  unfold vmod
  split <;> simp_all

end Sys2Proof.Machine
end

