-- ==== Sys2Proof/Laws/Penyen.lean ====
section
/-! SUPPORT. Laws of Penyen commands: when it is a command's turn, what an admitted one and a refused one leave. -/

namespace Sys2Proof.Machine

theorem slot_modSlot (s : State) (n m : Nat) (f : SlotRec → SlotRec) :
    (s.modSlot n f).slot m = if n = m ∧ n < 16 then f (s.slot m) else s.slot m := vget_vmod s.slots n m f

@[simp] theorem slot_modSlot_same (s : State) {n : Nat} (f : SlotRec → SlotRec) (h : n < 16) :
    (s.modSlot n f).slot n = f (s.slot n) := by simp [slot_modSlot, h]

@[simp] theorem slot_modSlot_other (s : State) {n m : Nat} (f : SlotRec → SlotRec) (h : n ≠ m) :
    (s.modSlot n f).slot m = s.slot m := by simp [slot_modSlot, h]

@[simp] theorem slot_stir (s : State) (n : Nat) : s.stir.slot n = s.slot n := rfl

/-- Taking a request with a tag that is not in the window: it joins the commands in flight. -/
theorem inFlight_take (s : State) {n : Nat} (op tag : Half) (p : Bytes) (now : Option Answer) (hn : n < 16)
    (ht : (s.slot n).holder tag = none) :
    ((s.take n op tag p now).slot n).inFlight = (s.slot n).inFlight ++
      [{ op := op, tag := tag, payload := p, dup := false, excused := false, orphan := false, started := false, answer := now }] := by
  unfold State.take State.modStats
  simp only [ht]
  split <;> simp [hn]

theorem jobs_take (s : State) {n : Nat} (op tag : Half) (p : Bytes) (now : Option Answer) (hn : n < 16)
    (ht : (s.slot n).holder tag = none) : ((s.take n op tag p now).slot n).jobs = (s.slot n).jobs := by
  unfold State.take State.modStats
  simp only [ht]
  split <;> simp [hn]

/-- Taking a request for a slot leaves every other slot alone. -/
theorem slot_take_other (s : State) {n m : Nat} (op tag : Half) (p : Bytes) (now : Option Answer) (h : n ≠ m) :
    (s.take n op tag p now).slot m = s.slot m := by
  unfold State.take State.modStats
  dsimp only
  split <;> split <;> simp [h]

theorem lastServed_take (s : State) (n : Nat) (op tag : Half) (p : Bytes) (now : Option Answer) :
    (s.take n op tag p now).lastServed = s.lastServed := by
  unfold State.take State.modStats
  dsimp only
  split <;> split <;> rfl

theorem store_take (s : State) (n : Nat) (op tag : Half) (p : Bytes) (now : Option Answer) :
    (s.take n op tag p now).store = s.store := by
  unfold State.take State.modStats
  dsimp only
  split <;> split <;> rfl

@[simp] theorem slot_serveSlot (s : State) (n m : Nat) : (s.serveSlot n).slot m = s.slot m := rfl

/-- Whose turn it is does not depend on what the slot itself takes. -/
theorem hasTurn_take (s : State) (n : Nat) (op tag : Half) (p : Bytes) (now : Option Answer) :
    (s.take n op tag p now).hasTurn n = s.hasTurn n := by
  unfold State.hasTurn
  rw [lastServed_take, store_take]
  congr 2
  funext m
  by_cases h : m = n
  · simp [h]
  · unfold State.ready
    rw [slot_take_other s op tag p now (fun e => h e.symm)]

/-- A Penyen row whose command it is the turn of executes it on the state in which it is taken. -/
theorem penyen_turn (c : Cmd) (n : Slot) (tag : Half) (p : Bytes) (s : State) (h : s.turnOf c n.val tag p = true) :
    penyen c n.val tag p s = (s.asTaken c n.val tag p).execute c n.val (s.excusedAt n.val) tag p := by
  have hn : n.val < 16 := n.isLt
  simp only [State.turnOf, Bool.and_eq_true] at h
  obtain ⟨⟨hr, hs⟩, ht⟩ := h
  unfold penyen State.asTaken State.excusedAt
  cases hf : (s.slot n.val).inFlight with
  | nil =>
    simp only [hf, Bool.and_eq_true, bne_iff_ne, ne_eq, Option.isNone_iff_eq_none] at ht
    have hi := inFlight_take s (BitVec.ofNat 16 c.op) tag p none hn ht.2
    simp [hr, ht.1, hi, hf, frontOf, hasTurn_take, hs]
  | cons f fs =>
    simp only [hf] at ht
    simp [hr, ht, hs]

/-- An admitted Penyen command is served. -/
theorem penyen_admitted (c : Cmd) (n : Slot) (tag : Half) (p : Bytes) (s : State) (h : s.admitted c n.val tag p = true) :
    penyen c n.val tag p s = s.served c n.val tag p := by
  simp only [State.admitted, State.passes, Bool.and_eq_true] at h
  obtain ⟨⟨ht, hc⟩, hj⟩ := h
  rw [penyen_turn c n tag p s ht]
  rw [Option.isNone_iff_eq_none] at hc
  have hjobs : ((s.asTaken c n.val tag p).slot n.val).jobs = (s.slot n.val).jobs := by
    simp only [State.turnOf, Bool.and_eq_true] at ht
    unfold State.asTaken
    cases hf : (s.slot n.val).inFlight with
    | nil =>
      simp only [hf, Bool.and_eq_true, Option.isNone_iff_eq_none] at ht
      exact jobs_take s _ tag p none n.isLt ht.2.2
    | cons f fs => rfl
  unfold State.execute State.served
  rw [hc]
  unfold Cmd.startsJob at hj
  rcases hrun : c.run (s.asTaken c n.val tag p) n.val tag p with ⟨t, r⟩
  rw [hrun] at hj
  cases r <;> simp_all <;> omega

/-- A Penyen command that a check refuses is answered with that check's answer, on the state in which it was taken. -/
theorem penyen_turnedAway (c : Cmd) (n : Slot) (tag : Half) (p : Bytes) (s : State) (a : Answer)
    (h : s.turnedAway c n.val tag p a) :
    penyen c n.val tag p s = (s.asTaken c n.val tag p).answerFront n.val a := by
  rw [penyen_turn c n tag p s h.1, State.execute, h.2]

/-- Without firmware no Penyen command does anything. -/
theorem penyen_stopped (c : Cmd) (n : Nat) (tag : Half) (p : Bytes) (s : State) (h : s.running = false) :
    penyen c n tag p s = s := by
  unfold penyen; simp [h]

end Sys2Proof.Machine
end

