-- ==== Sys2Proof/Laws/Messages.lean ====
section
/-! SUPPORT. Laws of MSI-X messages (R39): what sending them may change, and when one goes out. -/

namespace Sys2Proof.Machine

/-- What messages of slot `n` leave alone (R39): every other slot, its own but for the marks of vectors held off and delayed, and of the
PCIe functions all but their pending bits; what was sent stays sent. -/
structure MessageFrame (n : Nat) (s t : State) : Prop where
  others : ∀ m, m ≠ n → t.slot m = s.slot m
  own : t.slot n = { s.slot n with evu := (t.slot n).evu }
  rest : t = { s with slots := t.slots, pcie := t.pcie, out := t.out }
  cause : (t.slot n).evu.cause = (s.slot n).evu.cause
  mask : (t.slot n).evu.mask = (s.slot n).evu.mask
  vmap : (t.slot n).evu.vmap = (s.slot n).evu.vmap
  holdoff : (t.slot n).evu.holdoff = (s.slot n).evu.holdoff
  sent : s.out <:+ t.out
  pcie : ∀ f, t.pcieFn f = { s.pcieFn f with pba := (t.pcieFn f).pba }
  count : t.pcie.numVfs = s.pcie.numVfs

theorem MessageFrame.refl (n : Nat) (s : State) : MessageFrame n s s :=
  ⟨fun _ _ => rfl, rfl, rfl, rfl, rfl, rfl, rfl, List.suffix_refl _, fun _ => rfl, rfl⟩

theorem MessageFrame.trans {n : Nat} {s t u : State} (h : MessageFrame n s t) (k : MessageFrame n t u) : MessageFrame n s u where
  others m hm := (k.others m hm).trans (h.others m hm)
  own := by rw [k.own, h.own]
  rest := by
    have e := k.rest
    rw [h.rest] at e
    exact e
  cause := k.cause.trans h.cause
  mask := k.mask.trans h.mask
  vmap := k.vmap.trans h.vmap
  holdoff := k.holdoff.trans h.holdoff
  sent := h.sent.trans k.sent
  pcie f := by rw [k.pcie, h.pcie]
  count := k.count.trans h.count

theorem MessageFrame.awake {n : Nat} {s t : State} (h : MessageFrame n s t) (f : Nat) : t.fnAwake f = s.fnAwake f := by
  unfold State.fnAwake State.fnExists
  rw [h.count, h.pcie f]

/-- A change of a slot's marks of vectors held off and delayed. -/
theorem messageFrame_evu (s : State) {n : Nat} (f : Evu → Evu) (hn : n < 16)
    (h : ∀ e, (f e).cause = e.cause ∧ (f e).mask = e.mask ∧ (f e).vmap = e.vmap ∧ (f e).holdoff = e.holdoff) :
    MessageFrame n s (s.modSlot n (fun x => { x with evu := f x.evu })) := by
  refine ⟨fun m hm => slot_modSlot_other s _ (Ne.symm hm), ?_, rfl, ?_, ?_, ?_, ?_, List.suffix_refl _, fun _ => rfl, rfl⟩
  all_goals simp [hn, h]

theorem slot_msixSend (s : State) (f : Fin 16) (v m : Nat) : (s.msixSend f v).slot m = s.slot m := by
  unfold State.msixSend
  dsimp only
  split
  · rfl
  · split <;> rfl

theorem messageFrame_msixSend (s : State) (n : Nat) (f : Fin 16) (v : Nat) : MessageFrame n s (s.msixSend f v) := by
  unfold State.msixSend
  dsimp only
  split
  · exact .refl n s
  · split
    · refine ⟨fun _ _ => rfl, rfl, rfl, rfl, rfl, rfl, rfl, List.suffix_refl _, fun g => ?_, rfl⟩
      simp only [State.modFn, State.pcieFn, vget_vmod]
      split <;> rfl
    · exact ⟨fun _ _ => rfl, rfl, rfl, rfl, rfl, rfl, rfl, List.suffix_cons _ _, fun _ => rfl, rfl⟩

/-- What the message of one vector may change. -/
theorem messageFrame_message (s : State) {n : Nat} (v : Nat) (hn : n < 16) : MessageFrame n s (s.message n v) := by
  unfold State.message
  split
  · split
    · exact .refl n s
    · split
      · exact messageFrame_evu s (fun e => { e with delayed := e.delayed ||| (1#8 <<< v) }) hn (fun _ => ⟨rfl, rfl, rfl, rfl⟩)
      · dsimp only
        split
        · exact messageFrame_msixSend s n _ v
        · exact (messageFrame_msixSend s n _ v).trans
            (messageFrame_evu _ (fun e => { e with holding := e.holding ||| (1#8 <<< v) }) hn (fun _ => ⟨rfl, rfl, rfl, rfl⟩))
  · exact .refl n s

theorem messageFrame_forAll (n : Nat) (l : List Nat) {f : Nat → State → State} (h : ∀ v u, MessageFrame n u (f v u)) (s : State) :
    MessageFrame n s (forAll l f s) := by
  induction l generalizing s with
  | nil => exact .refl n s
  | cons v l ih => exact (h v s).trans (ih (f v s))

/-- What the messages for every vector left pending may change. -/
theorem messageFrame_messagesAll (s : State) {n : Nat} (hn : n < 16) : MessageFrame n s (s.messagesAll n) :=
  messageFrame_forAll n _ (fun v u => by
    split
    · exact messageFrame_message u v hn
    · exact .refl n u) s

/-- The message of one vector leaves the holdoff of every other alone. -/
theorem holding_message_other (s : State) {n v k : Nat} (hn : n < 16) (h : k ≠ v) :
    ((s.message n v).slot n).evu.holding.getLsbD k = (s.slot n).evu.holding.getLsbD k := by
  unfold State.message
  split
  · split
    · rfl
    · split
      · simp [hn]
      · dsimp only
        split
        · rw [slot_msixSend]
        · simp [hn, slot_msixSend]
          intro _
          omega
  · rfl

/-- A vector's message goes out where nothing holds it back (R39). -/
theorem out_message (s : State) (n v : Nat) (f : Fin 16) (hr : s.running = true) (hb : (s.slot n).binding = .pcie f)
    (hm : (s.pcieFn f.val).msix = true) (ha : s.fnAwake f.val = true) (hf : (s.pcieFn f.val).funcMask = false)
    (ht : (vget (s.pcieFn f.val).table v).masked = false) (hh : (s.slot n).evu.holding.getLsbD v = false) :
    (s.message n v).out =
      .msix f v (vget (s.pcieFn f.val).table v).addr (vget (s.pcieFn f.val).table v).data :: s.out := by
  have e : (s.msixSend f v).out =
      .msix f v (vget (s.pcieFn f.val).table v).addr (vget (s.pcieFn f.val).table v).data :: s.out := by
    simp [State.msixSend, hm, ha, hf, ht, State.emit]
  unfold State.message
  simp only [hb, hr, hm, hh, Bool.not_true, Bool.or_self, Bool.false_eq_true, if_false]
  split
  · exact e
  · exact e

end Sys2Proof.Machine
end

