-- ==== Sys2Proof/Laws/Window.lean ====
section
/-! SUPPORT. Laws of the direct window: an aligned 32-bit write of register space, by any row, is one register write. -/

namespace Sys2Proof.Machine

@[simp] theorem wordBytes_length (v : Word) : (wordBytes v).length = 4 := rfl

@[simp] theorem leNat_wordBytes (v : Word) : leNat (wordBytes v) = v.toNat := by
  have h : v.toNat < 4294967296 := v.isLt
  simp [wordBytes, leBytes, leNat]
  omega

/-- A 32-bit write of register space goes to the register. -/
theorem windowWrite_word (s : State) (t : Transport) (a : Nat) (v : Word) (h : s.reaches t = true) (ha : a < 0x40000)
    (h4 : a % 4 = 0) : s.windowWrite t a (wordBytes v) = s.regWrite t a v := by
  have h1 : a % 4194304 = a := by omega
  simp [State.windowWrite, h, h1, ha, h4]

theorem wordWrite_reg (s : State) (t : Transport) (a : Nat) (v : Word) (h : s.reaches t = true) (ha : a < 0x40000)
    (h4 : a % 4 = 0) : s.wordWrite t a v = s.regWrite t a v := windowWrite_word s t a v h ha h4

/-- A transport that does not reach the window changes nothing. -/
theorem windowWrite_unreached (s : State) (t : Transport) (a : Nat) (data : Bytes) (h : s.reaches t = false) :
    s.windowWrite t a data = .next s := by
  simp [State.windowWrite, h]

end Sys2Proof.Machine
end

