-- ==== Sys2Proof/WellFormed.lean ====
section
/-! DEFINITION. Well-formed commands: operands that an access, a message or an event of the block can carry. -/

namespace Sys2Proof

/-- The window has 22 address bits (R24). -/
def windowSize : Nat := 0x400000
/-- What a PCIe host reaches beyond BAR0, as this model lays it out (log 10). -/
def pcieSpan : Nat := 0x4000
/-- The retention SRAM (R16). -/
def sramBytes : Nat := 4194304
/-- The alias region (R33). -/
def aliasSize : Nat := 0x200000
/-- The landing buffer (R48). -/
def landingBytes : Nat := 262144

/-- A Penyen payload: LENGTH has 16 bits (R64). -/
def payloadOk (p : Bytes) : Bool := decide (p.length < 65536)

/-- A descriptor has 32 bytes (R119). -/
def descOk (d : DescRead) : Bool := d.desc.length == 32

/-- A frame is cut at the longest that the device can hold (R131). -/
def frameOk (b : Bytes) : Bool := decide (b.length ≤ 16384)

/-- A conversion has seven rails and powers, six sensors and twelve currents (R494). -/
def sampleOk (x : Sample) : Bool :=
  x.rails.length == 7 && x.powers.length == 7 && x.temps.length == 6 && x.currents.length == 12

/-- An MKA action names an association and a key slot that exist, and a record of 48 bytes (R421, R439). -/
def mkaOk : MkaAction → Bool
  | .install sa key record value =>
    decide (sa < 512) && decide (key < 512) && record.length == 48 && decide (value.length ≤ 32)
  | .activate an => decide (an < 4)
  | .delete sa => decide (sa < 512)
  | .peer _ => true

/-- The operands of a command are ones that the outside can bring. -/
def Instr.wf : Instr → Bool
  | .registerWrite _ addr data => decide (addr < windowSize + pcieSpan) && !data.isEmpty
  | .aliasWrite _ addr data => decide (addr < aliasSize) && !data.isEmpty
  | .evuCauseWrite _ _ _ => true
  | .evuMaskWrite _ _ _ => true
  | .holdoffExpiry _ _ => true
  | .evuBootEvtWrite _ _ => true
  | .cmuCommit _ _ => true
  | .commitApply => true
  | .cmuCommitAtWrite _ _ => true
  | .commitArm _ _ => true
  | .commitCancel _ _ => true
  | .timedCommitFire => true
  | .spiWrite _ addr _ _ => decide (addr < windowSize)
  | .spiRead _ addr _ => decide (addr < windowSize)
  | .spiBadCommand _ _ _ => true
  | .mbxReqHeadWrite _ _ _ => true
  | .requestTake _ => true
  | .responseWrite _ => true
  | .mbxRspTailWrite _ _ _ => true
  | .doneEvent _ => true
  | .mbxEvtTailWrite _ _ _ => true
  | .envelopeReceive _ _ _ _ body => frameOk body
  | .landingBufferWrite _ off data => decide (off + data.length ≤ landingBytes) && !data.isEmpty
  | .bootXferGo _ _ => true
  | .chunkDone => true
  | .bootOwnerTimeout => true
  | .verifyDone => true
  | .firmwareStart => true
  | .dieStart _ _ => true
  | .sealCheckDone disturbed => disturbed.all fun e => decide (e.1 < sramBytes)
  | .resetNAssert => true
  | .resetNRelease => true
  | .powerOnReset _ => true
  | .watchdogExpiry => true
  | .railFault _ => true
  | .railGood _ => true
  | .thermalShutdown => true
  | .thermalRecovery => true
  | .jtagUnlockToken token => token.length == 8
  | .debuggerWrite _ _ => true
  | .ringCtrlEnable _ _ _ _ => true
  | .ringCtrlDisable _ _ _ _ => true
  | .ringTailWrite _ _ _ _ descs => descs.all descOk
  | .ringFetchRetry _ _ descs => descs.all descOk
  | .txDescriptorReturn _ _ => true
  | .canTxDescriptorReturn _ _ => true
  | .rxRingDeliver _ _ descs => descs.all descOk
  | .frameStart _ _ => true
  | .headerHandover _ bytes => frameOk bytes
  | .deepRulePass _ bytes => frameOk bytes
  | .oversizeRefuse _ bytes => frameOk bytes
  | .rxError _ bytes _ => frameOk bytes
  | .frameEnd _ bytes _ _ _ => frameOk bytes
  | .confirmation _ => true
  | .cellTimeMatch => true
  | .egressChoice _ _ => true
  | .txComplete _ => true
  | .shaperRefill => true
  | .gateEntryBoundary _ => true
  | .holdAssert _ => true
  | .gateConfigChange _ => true
  | .preemptVerifyResponse _ => true
  | .preemptVerifyTimeout _ => true
  | .linkDown _ => true
  | .linkUp _ _ => true
  | .linkHoldExpiry _ => true
  | .fdbAgeSweep => true
  | .conversationSweep => true
  | .streamGateEntry _ => true
  | .queueSample _ _ => true
  | .generationRetired => true
  | .timedSwapFire => true
  | .frerResetTimer _ => true
  | .healthReport => true
  | .probeSend _ => true
  | .probeReceive _ _ _ => true
  | .probeMissTimeout _ => true
  | .sqiHoldExpiry _ => true
  | .wtrExpiry => true
  | .tuIncrIntWrite _ _ => true
  | .tuStepHiWrite _ _ => true
  | .tuNowLoRead _ => true
  | .alarmFire _ => true
  | .timeIoEdge _ _ => true
  | .captureFilterEnd _ _ => true
  | .capPopWrite _ _ _ => true
  | .timeIoPulseEdge _ => true
  | .syncReceive _ _ domain _ => decide (domain < 2 ^ 96)
  | .syncTimeout _ => true
  | .syncTransmit _ _ => true
  | .pdelayExchange _ _ _ => true
  | .canFrameValid _ id format af sdt vcid data _ => decide (id < 2 ^ 29) && decide (format < 256) && decide (af < 2 ^ 32) && decide (sdt < 256) && decide (vcid < 256)
      && decide (data.length ≤ 2048)
  | .canProtocolException _ _ => true
  | .canBusError _ _ _ => true
  | .canAttemptEnd _ _ _ => true
  | .canSlotLoad _ _ => true
  | .canLaunchReached _ => true
  | .canLifetimeExpiry _ => true
  | .canModeApply _ => true
  | .canRecoveryDone _ => true
  | .canDetectDwellEnd _ => true
  | .dominantTimeout _ _ => true
  | .vcc5Change _ => true
  | .linScheduleEntry _ => true
  | .linHeaderReceived _ _ _ => true
  | .linFrameReceived _ _ data _ _ => decide (data.length ≤ 8)
  | .linResponseTimeout _ _ => true
  | .linIdleSleep _ => true
  | .linWakeDetect _ => true
  | .linWakeResume _ => true
  | .uartMessageEnd _ data _ _ => decide (data.length ≤ 2048)
  | .uartAccessWaitEnd _ => true
  | .uartTxEnd _ => true
  | .uartEchoCollision _ => true
  | .uartLifetimeExpiry _ => true
  | .relayJobStart _ _ => true
  | .checkRunEnd _ _ _ => true
  | .escortedTimeout _ _ => true
  | .selfTestEnd _ _ => true
  | .tunnelWaitExpiry _ => true
  | .tunnelFrameReceive bytes _ => frameOk bytes
  | .rngHealthFail _ => true
  | .rngReseed => true
  | .mkaFrameReceive _ action => mkaOk action
  | .cdiAcquire _ => true
  | .cdiRelease _ => true
  | .cdiKeyselWrite _ _ => true
  | .cdiGo _ _ => true
  | .cdiAbort _ _ => true
  | .cdiBlockDone => true
  | .remaskPass => true
  | .grantTick => true
  | .guardCheck => true
  | .domainOffTimer _ => true
  | .domainUp _ => true
  | .memTestDone _ _ => true
  | .boardBudgetBoundary => true
  | .inrushEnd _ current => decide (current < 65536)
  | .podlFault _ _ => true
  | .podlFaultTimer _ _ => true
  | .trainingStart _ => true
  | .trainingDone _ _ _ => true
  | .trainGrantRetry _ => true
  | .coeffStore _ => true
  | .sqiSample _ _ => true
  | .tc10SleepRequest _ => true
  | .tc10WakeDetect _ => true
  | .plcaBeaconTimeout _ => true
  | .gpioEdge _ _ => true
  | .gpioDebounceEnd _ => true
  | .wakePinEvent _ _ => true
  | .hostWake _ => true
  | .canWakePattern _ => true
  | .canWakeFrame _ id _ data => decide (id < 2 ^ 29) && decide (data.length ≤ 8)
  | .wakeDecoderIdle _ => true
  | .nmRepeat _ => true
  | .segmentQuiet _ => true
  | .sleepTimeout => true
  | .prepareDone sram => decide (sram.length ≤ sramBytes)
  | .inh0HoldEnd => true
  | .droverLoop load _ => load.length == 16
  | .measurementSample x => sampleOk x
  | .lldpReceive _ _ _ ttl => decide (ttl < 65536)
  | .lldpTtlExpiry _ => true
  | .sysGetCaps _ _ payload => payloadOk payload
  | .sysGetInfo _ _ payload => payloadOk payload
  | .sysPing _ _ payload => payloadOk payload
  | .sysReset _ _ payload => payloadOk payload
  | .sysGpioConfig _ _ payload => payloadOk payload
  | .sysGpioWrite _ _ payload => payloadOk payload
  | .sysGpioRead _ _ payload => payloadOk payload
  | .sysI2cXfer _ _ payload => payloadOk payload
  | .sysMdioAccess _ _ payload => payloadOk payload
  | .slotGetCaps _ _ payload => payloadOk payload
  | .slotOpen _ _ payload => payloadOk payload
  | .slotClose _ _ payload => payloadOk payload
  | .slotBind _ _ payload => payloadOk payload
  | .slotUnbind _ _ payload => payloadOk payload
  | .slotGrant _ _ payload => payloadOk payload
  | .slotRevoke _ _ payload => payloadOk payload
  | .slotGetState _ _ payload => payloadOk payload
  | .slotSetReadPolicy _ _ payload => payloadOk payload
  | .slotFence _ _ payload => payloadOk payload
  | .slotUnfence _ _ payload => payloadOk payload
  | .slotGetOwner _ _ payload => payloadOk payload
  | .slotGetStats _ _ payload => payloadOk payload
  | .slotSetWritePermit _ _ payload => payloadOk payload
  | .slotRekey _ _ payload => payloadOk payload
  | .diagGetCaps _ _ payload => payloadOk payload
  | .diagGetBootRecord _ _ payload => payloadOk payload
  | .diagAdvanceSecver _ _ payload => payloadOk payload
  | .diagRevokeVendorKey _ _ payload => payloadOk payload
  | .diagLcsTransition _ _ payload => payloadOk payload
  | .diagUnlockChallenge _ _ payload => payloadOk payload
  | .diagUnlockResponse _ _ payload => payloadOk payload
  | .diagRelock _ _ payload => payloadOk payload
  | .portGetCaps _ _ payload => payloadOk payload
  | .portSetMode _ _ payload => payloadOk payload
  | .portGetMode _ _ payload => payloadOk payload
  | .portGetStatus _ _ payload => payloadOk payload
  | .portForgetCoeffs _ _ payload => payloadOk payload
  | .portSetWake _ _ payload => payloadOk payload
  | .portSendWake _ _ payload => payloadOk payload
  | .portSetPodl _ _ payload => payloadOk payload
  | .portPodlControl _ _ payload => payloadOk payload
  | .portGetPodl _ _ payload => payloadOk payload
  | .portGetPhyCounters _ _ payload => payloadOk payload
  | .portClearPhyCounters _ _ payload => payloadOk payload
  | .portSetFwdConfig _ _ payload => payloadOk payload
  | .portGetFwdConfig _ _ payload => payloadOk payload
  | .portGetCounters _ _ payload => payloadOk payload
  | .portClearCounters _ _ payload => payloadOk payload
  | .portGetPipelineStats _ _ payload => payloadOk payload
  | .fdbGetCaps _ _ payload => payloadOk payload
  | .fdbAdd _ _ payload => payloadOk payload
  | .fdbDelete _ _ payload => payloadOk payload
  | .fdbLookup _ _ payload => payloadOk payload
  | .fdbFlush _ _ payload => payloadOk payload
  | .fdbSetAging _ _ payload => payloadOk payload
  | .fdbRead _ _ payload => payloadOk payload
  | .fdbSetVlan _ _ payload => payloadOk payload
  | .fdbDeleteVlan _ _ payload => payloadOk payload
  | .fdbGetVlan _ _ payload => payloadOk payload
  | .custGetCaps _ _ payload => payloadOk payload
  | .custSetZone _ _ payload => payloadOk payload
  | .custSetZoneMap _ _ payload => payloadOk payload
  | .custSetPair _ _ payload => payloadOk payload
  | .custSetRule _ _ payload => payloadOk payload
  | .custClearRules _ _ payload => payloadOk payload
  | .custGetRule _ _ payload => payloadOk payload
  | .custSetCanRule _ _ payload => payloadOk payload
  | .custGetCanRule _ _ payload => payloadOk payload
  | .custSetCanDefault _ _ payload => payloadOk payload
  | .custSwap _ _ payload => payloadOk payload
  | .custGetGen _ _ payload => payloadOk payload
  | .custSetConvTimeouts _ _ payload => payloadOk payload
  | .custFlushConv _ _ payload => payloadOk payload
  | .custReadConv _ _ payload => payloadOk payload
  | .custQuarantine _ _ payload => payloadOk payload
  | .custGetCounters _ _ payload => payloadOk payload
  | .custClearCounters _ _ payload => payloadOk payload
  | .schedGetCaps _ _ payload => payloadOk payload
  | .schedSetQueue _ _ payload => payloadOk payload
  | .schedGetQueue _ _ payload => payloadOk payload
  | .schedSetShaper _ _ payload => payloadOk payload
  | .schedGetShaper _ _ payload => payloadOk payload
  | .schedSetMeter _ _ payload => payloadOk payload
  | .schedGetMeter _ _ payload => payloadOk payload
  | .schedSetStreamId _ _ payload => payloadOk payload
  | .schedGetStreamId _ _ payload => payloadOk payload
  | .schedSwapStreamId _ _ payload => payloadOk payload
  | .schedSetFilter _ _ payload => payloadOk payload
  | .schedGetFilter _ _ payload => payloadOk payload
  | .schedSetStreamGate _ _ payload => payloadOk payload
  | .schedGetStreamGate _ _ payload => payloadOk payload
  | .schedClearBlocked _ _ payload => payloadOk payload
  | .schedSetAdmission _ _ payload => payloadOk payload
  | .schedGetAdmission _ _ payload => payloadOk payload
  | .schedSetSampling _ _ payload => payloadOk payload
  | .schedReadHist _ _ payload => payloadOk payload
  | .schedGetCounters _ _ payload => payloadOk payload
  | .schedClearCounters _ _ payload => payloadOk payload
  | .gateGetCaps _ _ payload => payloadOk payload
  | .gateSetAdminHeader _ _ payload => payloadOk payload
  | .gateSetAdminEntries _ _ payload => payloadOk payload
  | .gateGetList _ _ payload => payloadOk payload
  | .gateCommitAdmin _ _ payload => payloadOk payload
  | .gateCancelChange _ _ payload => payloadOk payload
  | .gateGetStatus _ _ payload => payloadOk payload
  | .gateSetQueueTiming _ _ payload => payloadOk payload
  | .gateGetQueueTiming _ _ payload => payloadOk payload
  | .gateSetPreempt _ _ payload => payloadOk payload
  | .gateGetCounters _ _ payload => payloadOk payload
  | .gateClearCounters _ _ payload => payloadOk payload
  | .timeGetCaps _ _ payload => payloadOk payload
  | .timeGetNow _ _ payload => payloadOk payload
  | .timeSetSource _ _ payload => payloadOk payload
  | .timeNewEpoch _ _ payload => payloadOk payload
  | .timeStep _ _ payload => payloadOk payload
  | .timeSetRate _ _ payload => payloadOk payload
  | .timeSetDomain _ _ payload => payloadOk payload
  | .timeEnableDomain _ _ payload => payloadOk payload
  | .timeGetDomain _ _ payload => payloadOk payload
  | .timeSetPort _ _ payload => payloadOk payload
  | .timeSetAlarm _ _ payload => payloadOk payload
  | .timeSetIo _ _ payload => payloadOk payload
  | .timeReadCaptures _ _ payload => payloadOk payload
  | .timeGetCounters _ _ payload => payloadOk payload
  | .redGetCaps _ _ payload => payloadOk payload
  | .redSetGenerator _ _ payload => payloadOk payload
  | .redSetRecovery _ _ payload => payloadOk payload
  | .redEnable _ _ payload => payloadOk payload
  | .redGetInstance _ _ payload => payloadOk payload
  | .redSetProtect _ _ payload => payloadOk payload
  | .redForce _ _ payload => payloadOk payload
  | .redGetProtect _ _ payload => payloadOk payload
  | .redSubscribe _ _ payload => payloadOk payload
  | .redGetCounters _ _ payload => payloadOk payload
  | .redClearCounters _ _ payload => payloadOk payload
  | .canGetCaps _ _ payload => payloadOk payload
  | .canSetConfig _ _ payload => payloadOk payload
  | .canGetConfig _ _ payload => payloadOk payload
  | .canSetMode _ _ payload => payloadOk payload
  | .canGetStatus _ _ payload => payloadOk payload
  | .canSetQueue _ _ payload => payloadOk payload
  | .canSetFilter _ _ payload => payloadOk payload
  | .canTransmit _ _ payload => payloadOk payload
  | .canRxRead _ _ payload => payloadOk payload
  | .canRxRelease _ _ payload => payloadOk payload
  | .canRecover _ _ payload => payloadOk payload
  | .canFlushQueue _ _ payload => payloadOk payload
  | .canDetectRate _ _ payload => payloadOk payload
  | .canGetCounters _ _ payload => payloadOk payload
  | .canClearCounters _ _ payload => payloadOk payload
  | .linGetCaps _ _ payload => payloadOk payload
  | .linSetConfig _ _ payload => payloadOk payload
  | .linSetMode _ _ payload => payloadOk payload
  | .linSetFrame _ _ payload => payloadOk payload
  | .linSetSchedule _ _ payload => payloadOk payload
  | .linSelectSchedule _ _ payload => payloadOk payload
  | .linSetPublish _ _ payload => payloadOk payload
  | .linSendWake _ _ payload => payloadOk payload
  | .linGetStatus _ _ payload => payloadOk payload
  | .serSetConfig _ _ payload => payloadOk payload
  | .serSetMode _ _ payload => payloadOk payload
  | .serTransmit _ _ payload => payloadOk payload
  | .serGetStatus _ _ payload => payloadOk payload
  | .serRxRead _ _ payload => payloadOk payload
  | .serRxRelease _ _ payload => payloadOk payload
  | .serGetCounters _ _ payload => payloadOk payload
  | .serClearCounters _ _ payload => payloadOk payload
  | .routeGetCaps _ _ payload => payloadOk payload
  | .routeSetRule _ _ payload => payloadOk payload
  | .routeClear _ _ payload => payloadOk payload
  | .routeGetRule _ _ payload => payloadOk payload
  | .routeSwap _ _ payload => payloadOk payload
  | .routeGetGen _ _ payload => payloadOk payload
  | .routeSetTunnel _ _ payload => payloadOk payload
  | .routeGetTunnel _ _ payload => payloadOk payload
  | .routeSetEngine _ _ payload => payloadOk payload
  | .routeGetEngines _ _ payload => payloadOk payload
  | .routeGetCounters _ _ payload => payloadOk payload
  | .routeClearCounters _ _ payload => payloadOk payload
  | .escGetCaps _ _ payload => payloadOk payload
  | .escSetConfig _ _ payload => payloadOk payload
  | .escGetStatus _ _ payload => payloadOk payload
  | .escSetSafe _ _ payload => payloadOk payload
  | .escGetSafe _ _ payload => payloadOk payload
  | .escAckFault _ _ payload => payloadOk payload
  | .escTestEngine _ _ payload => payloadOk payload
  | .escInject _ _ payload => payloadOk payload
  | .escGetCounters _ _ payload => payloadOk payload
  | .escClearCounters _ _ payload => payloadOk payload
  | .cryptGetCaps _ _ payload => payloadOk payload
  | .cryptSetPort _ _ payload => payloadOk payload
  | .cryptSetMka _ _ payload => payloadOk payload
  | .cryptInstallSa _ _ payload => payloadOk payload
  | .cryptSetTxAn _ _ payload => payloadOk payload
  | .cryptDeleteSa _ _ payload => payloadOk payload
  | .cryptGetSa _ _ payload => payloadOk payload
  | .cryptSetProfile _ _ payload => payloadOk payload
  | .cryptGetProfile _ _ payload => payloadOk payload
  | .cryptOpen _ _ payload => payloadOk payload
  | .cryptUpdate _ _ payload => payloadOk payload
  | .cryptFinal _ _ payload => payloadOk payload
  | .cryptSave _ _ payload => payloadOk payload
  | .cryptRestore _ _ payload => payloadOk payload
  | .cryptOneshot _ _ payload => payloadOk payload
  | .cryptBreakLock _ _ payload => payloadOk payload
  | .cryptGetCounters _ _ payload => payloadOk payload
  | .cryptClearCounters _ _ payload => payloadOk payload
  | .keyGetCaps _ _ payload => payloadOk payload
  | .keyImport _ _ payload => payloadOk payload
  | .keyDerive _ _ payload => payloadOk payload
  | .keyPrefetch _ _ payload => payloadOk payload
  | .keyRefresh _ _ payload => payloadOk payload
  | .keyInvalidate _ _ payload => payloadOk payload
  | .keyErase _ _ payload => payloadOk payload
  | .keyNarrowMask _ _ payload => payloadOk payload
  | .keyGetAttr _ _ payload => payloadOk payload
  | .keySetService _ _ payload => payloadOk payload
  | .keyGetCounters _ _ payload => payloadOk payload
  | .keyClearCounters _ _ payload => payloadOk payload
  | .pwrGetCaps _ _ payload => payloadOk payload
  | .pwrGetStatus _ _ payload => payloadOk payload
  | .pwrSetCeiling _ _ payload => payloadOk payload
  | .pwrSetBoardBudget _ _ payload => payloadOk payload
  | .pwrSetDomain _ _ payload => payloadOk payload
  | .pwrGetGrants _ _ payload => payloadOk payload
  | .pwrGetCounters _ _ payload => payloadOk payload
  | .pwrClearCounters _ _ payload => payloadOk payload
  | .sleepGetCaps _ _ payload => payloadOk payload
  | .sleepRequest _ _ payload => payloadOk payload
  | .sleepCancel _ _ payload => payloadOk payload
  | .sleepGetStatus _ _ payload => payloadOk payload
  | .sleepSegment _ _ payload => payloadOk payload
  | .sleepSetPin _ _ payload => payloadOk payload
  | .sleepSetCanWake _ _ payload => payloadOk payload
  | .sleepSetNm _ _ payload => payloadOk payload
  | .sleepSetHostWake _ _ payload => payloadOk payload
  | .sleepSetInh _ _ payload => payloadOk payload
  | .sleepGetWakeRecord _ _ payload => payloadOk payload
  | .sleepGetCounters _ _ payload => payloadOk payload
  | .sleepClearCounters _ _ payload => payloadOk payload
  | .measGetCaps _ _ payload => payloadOk payload
  | .measRead _ _ payload => payloadOk payload
  | .measRunTdr _ _ payload => payloadOk payload
  | .measRunTerm _ _ payload => payloadOk payload
  | .measGetPartner _ _ payload => payloadOk payload
  | .drovGetCaps _ _ payload => payloadOk payload
  | .drovGrant _ _ payload => payloadOk payload
  | .drovRevoke _ _ payload => payloadOk payload
  | .drovGetMandate _ _ payload => payloadOk payload
  | .drovReadLedger _ _ payload => payloadOk payload
  | .drovPause _ _ payload => payloadOk payload
  | .drovGetCounters _ _ payload => payloadOk payload
  | .drovClearCounters _ _ payload => payloadOk payload
  | .xtal32kSwitch _ => true
  | .inh0AssertAfterPor => true
  | .inh1DelayExpiry => true
  | .pcieLinkUp => true
  | .grandmasterChange _ => true
  | .wakeDecodingError _ _ => true

end Sys2Proof
end

