-- ==== Sys2Proof/Tests/Slice0.lean ====
section
/-! SUPPORT. Tests: a small state for each kind of situation, a witness for the hypotheses of every statement, ill-formed commands, and
values that the spec works out. -/

open Sys2Proof Sys2Proof.Machine

namespace Sys2Proof.Tests

section

-- one kernel evaluation at a time
set_option Elab.async false

/-- The machine goes on. -/
def goesOn : Host.Outcome State Fault Refusal → Bool
  | .next _ => true
  | _ => false

/-- A machine whose firmware runs: the die is powered, slot 0 is open on PCIe function 0, which may write everywhere. -/
def live : State := { State.reset with
  boot := { State.reset.boot with state := .running, runSecver := 3, runKey := 0 }
  pd0 := { State.reset.pd0 with die := true, inh0 := true, rails := 0x7F }
  slots := vset State.reset.slots 0 { SlotRec.reset with state := .opened, binding := .pcie 0 }
  hiu := { State.reset.hiu with permit := 1 }
  pws := { State.reset.pws with domains := 0x1FFF }
  memTest := { result := 0, fail := 0xFFFFFFFF }
  time := { State.reset.time with run := true }
  pcie := { Pcie.reset with numVfs := 15 }
  net := { State.reset.net with pcieUp := true } }

/-- A receive entry in its consumer's hands. -/
def anEntry : RxEntry := { (default : RxEntry) with handle := 1, owned := true }

/-- The live machine with further slots in each state, the host as its clock source, and the edge channels in use. -/
def edges : State :=
  ((((((({ live with time := { live.time with source := 2 }, owners := [(6 * 1024 + 15, 1)] }.modSlot 1 (fun x =>
    { x with state := .opened, binding := .pcie 1 })).modSlot 2 (fun x =>
    { x with state := .fenced, binding := .pcie 2 })).modSlot 3 (fun x =>
    { x with state := .bound, binding := .eth { (default : EthBinding) with mac := 2, keySlot := 1 } })).modCan 0 (fun x =>
    { x with state := .normal, record := splice x.record 6 [1], fifos := vmod x.fifos 0 (fun q =>
      { q with entries := [anEntry] }) })).modCan 1 (fun x => { x with state := .busOff })).modLin 0 (fun x =>
    { x with state := 1, record := splice x.record 1 [1] })).modUart 0 (fun x =>
    { x with state := 1, record := splice x.record 3 [1], fifo := { x.fifo with entries := [anEntry] } }))

/-- The live machine with the shared units in use: key slots, associations, contexts, a mandate, a pending gate change, a latched
escort fault, protection switched on, a learned address. -/
def units : State := { live with
  keys := { live.keys with slots := [(1, { (default : KeySlot) with state := .valid, mask := 0xFFFF, value := zeros 32 }),
    (2, { (default : KeySlot) with state := .stale, mask := 0xFFFF, parent := 0x8000, value := zeros 32 })] }
  crypt := { live.crypt with
    sas := [(0, { (default : Sa) with record := [0, 1] ++ zeros 46 })]
    ctxs := [(0, { (default : HostCtx) with state := .data, keySlot := 1 })] }
  drover := { live.drover with mandates := [(0, { (default : Mandate) with record := zeros 32 })] }
  esc := { live.esc with latched := true, seq := 1 }
  net := { live.net with
    gates := vmod live.net.gates 0 (fun g => { g with state := .pending })
    red := { live.net.red with state := .onA }
    fdb := [(0, { (default : FdbEntry) with mac := 2, fid := 1 })] } }

/-- The live machine with a sleep request under way. -/
def indicating : State := { live with sleep := { live.sleep with phase := .indicate } }

/-- An Ethernet frame that has ended and waits to be ruled. -/
def aFrame : Frame := { (default : Frame) with id := 7, ingress := 2, ended := true }

/-- The live machine with port 2 up and receiving, a frame that waits on it, and one that waits for host slot 0. -/
def network : State := { live with
  net := { live.net with
    phys := vmod (vmod live.net.phys 2 (fun x => { x with link := .up })) 5 (fun x =>
      { x with link := .up, acceptSleep := true })
    rx := vmod live.net.rx 2 (fun x => { x with active := true, maxFrame := 64 })
    frames := [aFrame, { (default : Frame) with id := 8, ended := true, confirmed := true, ruled := true, deepDone := true }]
    waybills := [{ (default : Waybill) with id := 1, frame := 8, egress := 25 }] }
  relay := { live.relay with vout := [default] } }

/-- The live machine with a ring that is enabled and holds a sent frame, and another ring stopped. -/
def ringed : State :=
  (((live.modRing 0 0 (fun g => { g with enable := true, frames := [{ (default : RingTx) with status := some 0 }] })).modRing 0 1
    (fun g => { g with stopped := true })).modRing 0 2 (fun g =>
    { g with frames := [{ (default : RingTx) with can := true, status := some 0 }] }))

/-- Powered, and waiting for an image on any transport. -/
def loading : State := { live with boot := { live.boot with state := .waitImage } }

/-- A chunk handed over by GO. -/
def chunk : State := { live with boot := { live.boot with state := .receiving, go := true } }

/-- Battery present and nothing else started. -/
def off : State := { State.reset with pd0 := { State.reset.pd0 with vbatGood := true, inh0 := true, rails := 0x7F } }

/-- Asleep: PD0 alone runs. -/
def asleep : State := { off with sleep := { off.sleep with phase := .sleeping } }

/-- SYS commands with a payload that the live machine admits. -/
def sysOnLive : List (Cmd × Bytes) :=
  [(cmdSysGetCaps, []), (cmdSysGetInfo, []), (cmdSysPing, []), (cmdSysReset, []), (cmdSysGpioConfig, zeros 8),
   (cmdSysGpioWrite, zeros 4), (cmdSysGpioRead, []), (cmdSysI2cXfer, [0, 0, 8, 0, 0, 0, 0, 0]), (cmdSysMdioAccess, zeros 8),
   (cmdSlotGetCaps, []), (cmdSlotOpen, [2, 0]), (cmdSlotClose, []), (cmdSlotBind, zeros 16),
   (cmdSlotGrant, [1, 1, 0, 0, 0, 0, 1, 0]), (cmdSlotGetState, zeros 4), (cmdSlotSetReadPolicy, [1, 0, 0, 0]),
   (cmdSlotGetOwner, [1, 0, 0, 0]), (cmdSlotGetStats, zeros 4), (cmdSlotSetWritePermit, [1, 0, 0, 0]), (cmdDiagGetCaps, []),
   (cmdDiagGetBootRecord, []), (cmdDiagAdvanceSecver, zeros 4), (cmdDiagRevokeVendorKey, [1, 0, 0, 0]),
   (cmdDiagLcsTransition, [5, 0, 0, 0]), (cmdDiagUnlockChallenge, zeros 4), (cmdDiagUnlockResponse, zeros 8),
   (cmdDiagRelock, [])]

/-- PORT commands with a payload that the live machine admits. -/
def portOnLive : List (Cmd × Bytes) :=
  [(cmdPortGetCaps, []), (cmdPortSetMode, [0, 0, 0, 0, 0, 0, 0, 0, 0, 1] ++ zeros 18), (cmdPortGetMode, zeros 4),
   (cmdPortGetStatus, zeros 4), (cmdPortForgetCoeffs, zeros 4), (cmdPortSetWake, [5, 0, 0, 0]),
   (cmdPortSendWake, [5, 0, 0, 0]), (cmdPortSetPodl, [5, 0, 0, 0, 0, 12, 50, 0, 50, 0, 1, 1, 0, 0, 50, 0, 0, 0, 0, 0]),
   (cmdPortPodlControl, [5, 0, 0, 0]), (cmdPortGetPodl, [5, 0, 0, 0]), (cmdPortGetPhyCounters, zeros 4),
   (cmdPortClearPhyCounters, zeros 4),
   (cmdPortSetFwdConfig, [0, 0, 0, 0, 1, 0, 0, 0, 0, 0, 0, 0, 0, 0, 0, 0, 0, 0, 64] ++ zeros 9),
   (cmdPortGetFwdConfig, zeros 4), (cmdPortGetCounters, zeros 4), (cmdPortClearCounters, zeros 4),
   (cmdPortGetPipelineStats, []), (cmdFdbGetCaps, []), (cmdFdbAdd, [0, 0, 0, 0, 0, 0, 1] ++ zeros 15), (cmdFdbFlush, zeros 4),
   (cmdFdbSetAging, [1, 0, 0, 0]), (cmdFdbRead, [0, 0, 1, 0]),
   (cmdFdbSetVlan, [1, 0, 0, 0, 0, 0, 0, 0, 0, 0, 0, 0, 0, 0, 0, 0, 1, 0, 0, 0]), (cmdFdbDeleteVlan, [1, 0, 0, 0]),
   (cmdFdbGetVlan, zeros 4)]

/-- CUST commands with a payload that the live machine admits. -/
def custOnLive : List (Cmd × Bytes) :=
  [(cmdCustGetCaps, []), (cmdCustSetZone, zeros 4), (cmdCustSetZoneMap, [0, 0, 1, 0, 0, 0, 0, 0]), (cmdCustSetPair, zeros 4),
   (cmdCustSetRule, zeros 180), (cmdCustClearRules, [0, 0, 1, 0]), (cmdCustGetRule, zeros 4), (cmdCustSetCanRule, zeros 36),
   (cmdCustGetCanRule, zeros 4), (cmdCustSetCanDefault, zeros 4), (cmdCustSwap, zeros 12), (cmdCustGetGen, []),
   (cmdCustSetConvTimeouts, [1, 0, 1, 0, 1, 0, 160, 134, 1, 0]), (cmdCustFlushConv, zeros 4), (cmdCustReadConv, [0, 0, 1, 0]),
   (cmdCustQuarantine, zeros 4), (cmdCustGetCounters, [0, 0, 0, 0, 1, 0]), (cmdCustClearCounters, [0, 0, 0, 0, 1, 0]),
   (cmdRedGetCaps, []), (cmdRedSetGenerator, zeros 8), (cmdRedSetRecovery, [0, 0, 0, 0, 0, 0, 0, 44, 1] ++ zeros 11),
   (cmdRedEnable, zeros 4), (cmdRedGetInstance, zeros 4),
   (cmdRedSetProtect, [0, 0, 1, 0, 0, 1, 2, 0, 0, 0, 1, 0, 0, 0, 0, 0]), (cmdRedGetProtect, []), (cmdRedSubscribe, zeros 4),
   (cmdRedGetCounters, [0, 0, 0, 0, 1, 0, 0, 0]), (cmdRedClearCounters, [0, 0, 0, 0, 1, 0, 0, 0])]

/-- SCHED commands with a payload that the live machine admits. -/
def schedOnLive : List (Cmd × Bytes) :=
  [(cmdSchedGetCaps, []), (cmdSchedSetQueue, [0, 0, 0, 0, 1, 0, 0, 0]), (cmdSchedGetQueue, zeros 4),
   (cmdSchedSetShaper, [0, 0, 0, 0, 1, 0, 0, 0, 64, 0, 0, 0]), (cmdSchedGetShaper, zeros 4), (cmdSchedSetMeter, zeros 20),
   (cmdSchedGetMeter, zeros 4), (cmdSchedSetStreamId, zeros 68), (cmdSchedGetStreamId, zeros 4), (cmdSchedSwapStreamId, []),
   (cmdSchedSetFilter, zeros 20), (cmdSchedGetFilter, zeros 4),
   (cmdSchedSetStreamGate, [0, 0, 0, 1, 0, 0, 0, 0, 0, 0, 0, 0, 0, 0, 0, 0, 64, 0, 0, 0, 0, 0, 0, 0, 0, 0, 0, 0, 32, 0, 0, 0]),
   (cmdSchedGetStreamGate, zeros 4), (cmdSchedClearBlocked, zeros 4), (cmdSchedSetAdmission, zeros 8),
   (cmdSchedGetAdmission, zeros 4), (cmdSchedSetSampling, [0, 0, 0, 0, 1, 0, 0, 0, 0, 0, 0, 0]), (cmdSchedReadHist, zeros 4),
   (cmdSchedGetCounters, [0, 0, 0, 0, 1, 0, 0, 0]), (cmdSchedClearCounters, [0, 0, 0, 0, 1, 0, 0, 0]), (cmdGateGetCaps, []),
   (cmdGateSetAdminHeader, [0, 0, 0, 0, 0, 0, 1, 0, 0, 0, 0, 0, 0, 0, 0, 0, 0, 0, 0, 0, 64, 0, 0, 0, 16, 39] ++ zeros 10),
   (cmdGateSetAdminEntries, [0, 0, 0, 0, 1, 0, 0, 0, 0, 0, 0, 0, 32, 0, 0, 0]), (cmdGateGetList, [0, 0, 0, 0, 1, 0, 0, 0]),
   (cmdGateCommitAdmin, zeros 4), (cmdGateGetStatus, zeros 4), (cmdGateSetQueueTiming, zeros 12),
   (cmdGateGetQueueTiming, zeros 4), (cmdGateSetPreempt, [0, 0, 0, 0, 1, 0, 0, 0]),
   (cmdGateGetCounters, [0, 0, 0, 0, 1, 0, 0, 0]), (cmdGateClearCounters, [0, 0, 0, 0, 1, 0, 0, 0])]

/-- TIME commands with a payload that the live machine admits. -/
def timeOnLive : List (Cmd × Bytes) :=
  [(cmdTimeGetCaps, []), (cmdTimeGetNow, []), (cmdTimeSetSource, zeros 4), (cmdTimeNewEpoch, []),
   (cmdTimeSetDomain, [0, 0, 0, 0, 0, 0, 0, 0, 0, 0, 0, 0, 0, 0, 0, 2, 1, 0, 0, 0, 100, 0, 0, 0, 0, 0, 0, 0]),
   (cmdTimeEnableDomain, zeros 4), (cmdTimeGetDomain, zeros 4), (cmdTimeSetPort, zeros 8), (cmdTimeSetAlarm, zeros 8),
   (cmdTimeSetIo, [0, 0, 0, 0, 0, 0, 0, 0, 0, 0, 0, 0, 0, 0, 0, 0, 100, 0, 0, 0, 10, 0, 0, 0, 0, 0, 0, 0]),
   (cmdTimeReadCaptures, [0, 1, 0, 0]), (cmdTimeGetCounters, zeros 4), (cmdPwrGetCaps, []), (cmdPwrGetStatus, []),
   (cmdPwrSetCeiling, [0, 3, 0, 0]), (cmdPwrSetBoardBudget, [10, 0, 0, 0]), (cmdPwrSetDomain, [5, 0, 0, 0]),
   (cmdPwrGetGrants, []), (cmdPwrGetCounters, []), (cmdPwrClearCounters, []), (cmdSleepGetCaps, []), (cmdSleepGetStatus, []),
   (cmdSleepSegment, zeros 16), (cmdSleepSetPin, [0, 0, 0, 0, 0, 0, 10] ++ zeros 9), (cmdSleepSetCanWake, zeros 36),
   (cmdSleepSetNm, [0, 0, 0, 0, 0, 0, 1] ++ zeros 21), (cmdSleepSetHostWake, zeros 12), (cmdSleepSetInh, zeros 4),
   (cmdSleepGetWakeRecord, []), (cmdSleepGetCounters, []), (cmdSleepClearCounters, []),
   (cmdSleepRequest, [0, 0, 10, 0, 100, 0, 0, 0])]

/-- EDGE commands with a payload that the live machine admits. -/
def edgeOnLive : List (Cmd × Bytes) :=
  [(cmdCanGetCaps, []),
   (cmdCanSetConfig, [0, 0, 0, 0, 0, 0, 0, 0, 0, 0, 0, 0, 20, 1, 2, 0, 1, 0, 0, 0, 4, 1, 1, 0, 1, 128, 0, 0, 3, 1, 1, 0, 1, 128, 0, 0]),
   (cmdCanGetConfig, zeros 4), (cmdCanSetMode, zeros 4), (cmdCanGetStatus, zeros 4), (cmdCanSetQueue, [0, 0, 0, 1]),
   (cmdCanSetFilter, zeros 16), (cmdCanFlushQueue, zeros 4), (cmdCanDetectRate, [2, 1, 10, 0, 4, 4, 15, 0, 1, 0, 0, 0]),
   (cmdCanGetCounters, zeros 4), (cmdCanClearCounters, zeros 4), (cmdLinGetCaps, []),
   (cmdLinSetConfig, [0, 0, 0, 0, 0, 0, 232, 3, 1, 4, 0, 0]), (cmdLinSetMode, zeros 4),
   (cmdLinSetFrame, [0, 0, 0, 1, 0, 0, 0, 0]), (cmdLinSetSchedule, zeros 4), (cmdLinSelectSchedule, zeros 4),
   (cmdLinSetPublish, [0, 0, 1] ++ zeros 9), (cmdLinGetStatus, zeros 4),
   (cmdSerSetConfig, [0, 0, 0, 0, 0, 0, 2, 0, 220, 5, 0, 0, 1, 0, 0, 0, 1, 0, 0, 0]), (cmdSerSetMode, zeros 4),
   (cmdSerGetStatus, zeros 4), (cmdSerGetCounters, [0, 3, 0, 0]), (cmdSerClearCounters, [0, 3, 0, 0])]

/-- RELAY commands with a payload that the live machine admits. -/
def relayOnLive : List (Cmd × Bytes) :=
  [(cmdRouteGetCaps, []), (cmdRouteSetRule, zeros 44), (cmdRouteClear, [0, 0, 1, 0]), (cmdRouteGetRule, zeros 4),
   (cmdRouteSwap, zeros 8), (cmdRouteGetGen, []), (cmdRouteSetTunnel, [0, 0, 0, 0, 0, 0, 1, 0, 64] ++ zeros 27),
   (cmdRouteGetTunnel, zeros 4), (cmdRouteSetEngine, zeros 4), (cmdRouteGetEngines, []),
   (cmdRouteGetCounters, [0, 0, 0, 0, 1, 0, 0, 0]), (cmdRouteClearCounters, [0, 0, 0, 0, 1, 0, 0, 0]), (cmdEscGetCaps, []),
   (cmdEscSetConfig, [1, 0, 1, 0, 0, 0, 0, 0]), (cmdEscGetStatus, []), (cmdEscSetSafe, zeros 76), (cmdEscGetSafe, zeros 4),
   (cmdEscTestEngine, zeros 4), (cmdEscInject, zeros 4), (cmdEscGetCounters, [0, 0, 0, 0, 1, 0, 0, 0]),
   (cmdEscClearCounters, [0, 0, 0, 0, 1, 0, 0, 0])]

/-- CRYPT commands with a payload that the live machine admits. -/
def cryptOnLive : List (Cmd × Bytes) :=
  [(cmdCryptGetCaps, []), (cmdCryptSetPort, zeros 12), (cmdCryptSetMka, zeros 44),
   (cmdCryptInstallSa, [0, 0, 0, 0, 0, 0, 0, 0, 0, 0, 0, 0, 0, 0, 0, 0, 0, 0, 0, 0, 1] ++ zeros 31),
   (cmdCryptDeleteSa, zeros 4), (cmdCryptGetSa, zeros 4), (cmdCryptSetProfile, zeros 44), (cmdCryptGetProfile, zeros 4),
   (cmdCryptOpen, zeros 20), (cmdCryptRestore, zeros 64), (cmdCryptOneshot, zeros 52), (cmdCryptBreakLock, []),
   (cmdCryptGetCounters, [0, 0, 0, 0, 1, 0, 0, 0]), (cmdCryptClearCounters, [0, 0, 0, 0, 1, 0, 0, 0]), (cmdKeyGetCaps, []),
   (cmdKeyPrefetch, zeros 4), (cmdKeyInvalidate, zeros 4), (cmdKeyErase, [0, 0, 1, 0]), (cmdKeyNarrowMask, zeros 4),
   (cmdKeyGetAttr, zeros 4), (cmdKeySetService, []), (cmdKeyGetCounters, []), (cmdKeyClearCounters, [])]

/-- DROV commands with a payload that the live machine admits. -/
def drovOnLive : List (Cmd × Bytes) :=
  [(cmdMeasGetCaps, []), (cmdMeasRead, zeros 4), (cmdMeasRunTdr, [0, 50, 0, 0]), (cmdMeasRunTerm, zeros 4),
   (cmdMeasGetPartner, zeros 4), (cmdDrovGetCaps, []), (cmdDrovGrant, [2] ++ zeros 31), (cmdDrovGetMandate, zeros 4),
   (cmdDrovReadLedger, [0, 0, 0, 0, 1, 0, 0, 0]), (cmdDrovPause, zeros 4), (cmdDrovGetCounters, []),
   (cmdDrovClearCounters, [])]

/-- Commands with a payload that the machine with its edge channels in use admits. -/
def onEdges : List (Cmd × Bytes) :=
  [(cmdSlotUnbind, [1, 0, 0, 0]), (cmdSlotRevoke, [1, 6, 0, 0, 15, 0, 1, 0]), (cmdSlotFence, [1, 0, 0, 0]),
   (cmdSlotUnfence, [2, 0, 0, 0]), (cmdSlotRekey, [3, 0, 1, 0]), (cmdTimeStep, zeros 8),
   (cmdTimeSetRate, [1, 0, 0, 0, 0, 0, 0, 0]), (cmdCanTransmit, zeros 28), (cmdCanRxRead, [0, 0, 1, 0]),
   (cmdCanRecover, [1, 0, 0, 0]), (cmdLinSendWake, zeros 4), (cmdSerTransmit, [0, 1, 0, 0, 0, 0, 0, 0, 1, 0, 0, 0, 9]),
   (cmdSerRxRead, [16, 3, 1, 0]), (cmdCanRxRelease, [0, 0, 1, 0, 1]), (cmdSerRxRelease, [16, 3, 1, 0, 1])]

/-- Commands with a payload that the machine with its shared units in use admits. -/
def onUnits : List (Cmd × Bytes) :=
  [(cmdFdbDelete, [0, 0, 0, 0, 0, 2, 1, 0]), (cmdFdbLookup, [0, 0, 0, 0, 0, 2, 1, 0]), (cmdRedForce, zeros 4),
   (cmdGateCancelChange, zeros 4), (cmdEscAckFault, [1, 0, 0, 0]), (cmdCryptSetTxAn, zeros 4), (cmdCryptUpdate, [0, 0, 1, 0]),
   (cmdCryptFinal, zeros 4), (cmdCryptSave, zeros 4), (cmdKeyImport, [3, 0, 1, 0] ++ zeros 56),
   (cmdKeyDerive, [3, 0, 1, 0, 1, 1, 0, 0, 1, 0, 1, 0, 65] ++ zeros 43), (cmdKeyRefresh, [2, 0, 0, 0]),
   (cmdDrovRevoke, zeros 4)]
/-! Statements about the step. -/

theorem test_idle_step : live.pending = [] ∧ live.net.outbox = [] ∧
    (∀ (n : Slot) (r : Fin 4), (live.ringAt n.val r.val).queue = []) ∧ (live.slot 0).resetDue = false ∧
    live.sleep.phase = .awake ∧ live.time.ns < 2 ^ 64 := by decide +kernel

theorem test_step_goes_on : live.ram.wf = true ∧ goesOn (step { live with pending := [.rngReseed] }) = true ∧
    goesOn (step { live with pending := [.registerWrite 0 4 [1, 2, 3, 4]] }) = true := by decide +kernel

theorem test_revoked_key_and_step :
    (live.modBoot (fun b => { b with keyrevFused := 2 })).boot.keyrevFused.getLsbD 1 = true ∧
    goesOn (step ((live.modBoot (fun b => { b with keyrevFused := 2 })))) = true := by decide +kernel

/-! Statements about the window. -/

theorem test_window_hyps : live.running = true ∧ live.reaches 0 = true ∧ live.reaches 16 = true ∧ live.mayEvu 0 0 = true ∧
    live.mayCommit 0 = true ∧ edges.reaches 1 = true ∧ edges.mayCommit 1 = false ∧ edges.mayEvu 1 0 = false ∧
    (live.modEvu 0 (fun e => { e with holding := 1 }) |>.slot 0).evu.holding.getLsbD 0 = true := by decide +kernel

/-- Slot 0 with cause 0 set and unmasked, on a function whose MSI-X the host has enabled. -/
def calling : State := (live.modFn 0 (fun f => { f with msix := true, table := vset f.table 0 default })).modEvu 0 (fun e => { e with cause := 1, mask := 1 })

theorem test_message_hyps : calling.running = true ∧ (calling.slot 0).binding = .pcie 0 ∧ (calling.pcieFn 0).msix = true ∧
    calling.fnAwake 0 = true ∧ (calling.pcieFn 0).funcMask = false ∧ (vget (calling.pcieFn 0).table 0).masked = false ∧
    (calling.slot 0).evu.holding.getLsbD 0 = false ∧ (calling.slot 0).evu.delayed.getLsbD 0 = false ∧
    (let s := calling.modEvu 0 (fun e => { e with holding := 1, delayed := 1 });
      (s.slot 0).evu.delayed.getLsbD 0 = true ∧ (s.slot 0).evu.isPending 0 = true) := by decide +kernel

/-- R39: a write that leaves a vector pending sends its message. -/
theorem test_mask_write_sends :
    (match exec (.evuMaskWrite 0 0 1) calling with
      | .next t => (t.slot 0).evu.isPending 0 && decide (t.out = [.msix 0 0 0 0])
      | _ => false) = true := by decide +kernel

theorem test_commit_hyps :
    (live.cmu.arm = false ∧ (1#32).setWidth 16 ≠ (0 : BitVec 16) ∧ (1#32).getLsbD 17 = false ∧ live.time.run = true) ∧
    0 < diff32 (live.modCmu (fun c => { c with atTime := 100 })).cmu.atTime.toNat live.now ∧
    diff32 live.cmu.atTime.toNat live.now ≤ 0 ∧ (live.modCmu (fun c => { c with arm := true })).cmu.arm = true ∧
    (live.modCmu (fun c => { c with arm := true })).mayCommit 0 = true ∧
    (live.modCmu (fun c => { c with busy := true })).cmu.busy = true := by decide +kernel

theorem test_alias_and_spi_hyps : ([1, 2] : Bytes) ≠ [] ∧ (([1, 2] : Bytes).length ≠ 4 ∨ 0 % 4 ≠ 0) ∧
    live.reaches (spiTransport 0) = true ∧ 2 % 4 ≠ 0 ∧ (0x55 : Byte) ≠ 0x02 ∧ (0x55 : Byte) ≠ 0x0B := by decide +kernel

theorem test_foreign_mailbox_hyps : live.reaches 1 = true ∧ live.slotOf 1 ≠ some 0 ∧ edges.slotOf 1 = some 1 ∧
    (0x100 % 4 = 0 ∧ 0x100 % 32 < 0x18) ∧ (0x1C % 4 = 0 ∧ 0x1C ≤ 0x1C) := by decide +kernel

/-! Statements about mailboxes. -/

theorem test_mailbox_hyps : live.slotOf 0 = some 0 ∧ (live.slot 0).state ≠ .unbound ∧ (live.slot 0).isEth = false ∧
    (live.slot 0).canTake = true ∧ (live.slot 0).evtFree ≠ 0 ∧ live.ram.wf = true ∧
    (live.modSlot 0 (fun x => { x with reqHead := 16 })).requestByte 0 0 = true ∧ live.ram.read 0 ≠ 1 ∧
    live.requestByte 0 0 = false ∧
    (live.modSlot 0 (fun x => { x with held := [default] }) |>.slot 0).held = [default] := by decide +kernel

/-- Slot 0 with a request of 16 bytes in its buffer: SYS_PING with tag 5. -/
def asking : State := ({ live with ram := live.ram.writeAll 0 [2, 1, 5, 0] }).modSlot 0 (fun x => { x with reqHead := 16 })

theorem test_request_hyps :
    le (ringRead asking.ram 0 8192 0 16) 4 2 ≤ 8176 ∧ msgSize 0 ≤ ((asking.slot 0).reqHead - (asking.slot 0).reqTail).toNat ∧
    (asking.slot 0).holder 5 = none ∧ (asking.slot 0).canTake = true ∧
    (let s := asking.modSlot 0 (fun x => { x with tags := [{ tag := 5, op := 0x0102, answer := none }] });
      ((s.slot 0).holder 5).isSome = true) ∧
    (let s : State := { asking with ram := asking.ram.writeAll 4 [0xFF, 0xFF] };
      8176 < le (ringRead s.ram 0 8192 0 16) 4 2 ∧ 16 ≤ ((s.slot 0).reqHead - (s.slot 0).reqTail).toNat ∧
        (s.slot 0).holder 5 = none) := by decide +kernel

/-- R60, R66: the request is taken with its opcode and tag. -/
theorem test_request_take :
    (match exec (.requestTake 0) asking with
      | .next t => decide ((t.slot 0).inFlight.map (fun f => (f.op, f.tag)) = [(0x0102, 5)]) && (t.slot 0).reqTail == 16
      | _ => false) = true := by decide +kernel

theorem test_started_and_done_hyps :
    (let f : InFlight := { (default : InFlight) with started := true };
      f.answer = none ∧ f.dup = false ∧ f.started = true ∧
        ((live.modSlot 0 (fun x => { x with inFlight := [f] })).slot 0).jobs.length < 4) ∧
    (let h : HeldDone := { (default : HeldDone) with entry := zeros 64 };
      ((live.modSlot 0 (fun x => { x with held := [h] })).slot 0).held = [h] ∧ h.entry.length = 64) := by decide +kernel

theorem test_response_hyps :
    let f : InFlight := { (default : InFlight) with answer := some (stOk [1]) }
    let s := live.modSlot 0 (fun x => { x with inFlight := [f] })
    (s.slot 0).inFlight = [f] ∧ f.answer = some (stOk [1]) ∧ f.orphan = false ∧ f.op ≠ 0x0103 ∧ (s.slot 0).replyTo = none ∧
      (s.slot 0).isEth = false ∧ msgSize 1 ≤ (s.slot 0).rspRoom := by decide +kernel

/-! Statements about boot and the always-on domain. -/

theorem test_boot_hyps : loading.reaches 0 = true ∧ loading.running = false ∧ loading.bootRefused 0 = false ∧
    loading.boot.go = false ∧ chunk.boot.go = true ∧ chunk.boot.state = .receiving ∧ chunk.reaches 0 = true ∧
    chunk.running = false ∧ chunk.bootRefused 0 = false ∧ chunk.ram.readAll 0 1 ≠ [1] ∧
    (chunk.modBoot (fun b => { b with go := false })).boot.go = false ∧
    (chunk.modBoot (fun b => { b with state := .verifying })).boot.released = false ∧
    (chunk.modBoot (fun b => { b with state := .verifying, released := true })).boot.released = true := by decide +kernel

theorem test_die_start_hyps : (off.modBoot (fun b => { b with lcs := 3 })).dieMayStart = true ∧
    (off.modBoot (fun b => { b with lcs := 3 })).boot.lcs = 3 ∧ off.retSeal.marker = false ∧
    (live.modBoot (fun b => { b with state := .resumeCheck })).boot.state = .resumeCheck := by decide +kernel

theorem test_always_on_hyps : live.pd0.vbatGood = true ∧ live.pd0.resetN = true ∧ live.pd0.die = true ∧ live.running = true ∧
    ({ live with pd0 := { live.pd0 with resetN := false } } : State).pd0.resetN = false ∧
    ({ live with pd0 := { live.pd0 with vbatGood := false } } : State).pd0.vbatGood = false ∧ live.railGood 6 = true ∧
    ({ live with pd0 := { live.pd0 with rails := 0 } } : State).railGood 6 = false ∧ live.pd0.inh0 = true ∧
    live.pd0.thermal = false ∧ ({ live with pd0 := { live.pd0 with thermal := true } } : State).pd0.thermal = true ∧
    live.pd0.crystalTried = false ∧ State.reset.pd0.inh0 = false ∧ State.reset.pd0.thermal = false ∧
    State.reset.sleep.inhHold = false ∧ State.reset.sleep.phase ≠ .sleeping ∧ live.sleep.inhMode = 0 ∧
    live.pcieCanTrain = true := by decide +kernel

/-! Statements about rings and frames. -/

theorem test_ring_hyps : ringed.reaches 0 = true ∧ ringed.slotOf 0 = some 0 ∧ (ringed.fnOf 0).isSome = true ∧
    (ringed.ringAt 0 0).enable = true ∧ (ringed.ringAt 0 1).enable = false ∧
    (0x01000000#32).toNat &&& Ring.ctrlMask false ≠ (ringed.ringAt 0 0).ctrl &&& Ring.ctrlMask false ∧
    (5#32).toNat % 16 < 6 ∧ 12 < (13#32).toNat % 16 ∧ 6 ≤ (6#32).toNat % 16 ∧ (12#32).toNat % 16 ≤ 12 ∧
    (ringed.ringAt 0 0).size < ((65#16) - (ringed.ringAt 0 0).head).toNat ∧
    ((64#16) - (ringed.ringAt 0 0).head).toNat ≤ (ringed.ringAt 0 0).size ∧ (ringed.ringAt 0 1).stopped = true ∧
    ringed.fnOf 0 = some 0 ∧ (ringed.ringAt 0 0).frames = [{ (default : RingTx) with status := some 0 }] ∧
    (ringed.ringAt 0 2).frames = [{ (default : RingTx) with can := true, status := some 0 }] ∧
    (network.atHost 0 1).isSome = true ∧ (network.voutOf 0).isSome = true := by decide +kernel

theorem test_frame_hyps :
    ({ network with net := { network.net with rx := live.net.rx } } : State).canStart 2 = true ∧
    network.canHand 2 (zeros 128) = true ∧ (network.deepFrame 2 []).isSome = true ∧ (network.rx 2).active = true ∧
    (network.rx 2).maxFrame < (zeros 65).length ∧ (network.toRule 2).isSome = true ∧ network.memTest.result ≠ 2 := by
  decide +kernel

/-- A gate list on port 2 that runs, its one entry with SET_AND_HOLD. -/
def gated : State := live.modPg 2 (fun g => { g with oper :=
  { header := [1, 0, 1, 0, 100, 0, 0, 0] ++ zeros 8 ++ [64, 0, 0, 0] ++ zeros 12, entries := [(0, [0, 1, 0, 0, 64, 0, 0, 0])] } })

theorem test_egress_hyps : network.linkUp 2 = true ∧ network.startsNow 2 0 = true ∧
    ((live.modEgr 2 (fun x => { x with line := some default })).egr 2).line.isSome = true ∧
    (gated.pg 2).oper.enabled = true ∧ gated.holdComes 2 = true ∧ units.gateDue 0 = true ∧
    ((live.modPg 2 (fun g => { g with status := .verifying })).pg 2).status = .verifying ∧
    (let s := live.modQueue 2 0 (fun q => { q with sampling := { q.sampling with enable := true } });
      (s.queue 2 0).sampling.enable = true ∧ s.sampleDue (s.queue 2 0) = true) := by decide +kernel

theorem test_link_hyps : network.isUp 2 = true ∧ isT1 5 = true ∧ network.isUp 5 = true ∧
    ((live.modPhy 5 (fun x => { x with link := .down, mode := splice x.mode 0 [1] })).canTrain 5 = true) ∧
    ((live.modPhy 5 (fun x => { x with link := .training })).phy 5).link = .training ∧
    (let s := live.modPhy 5 (fun x => { x with link := .down, mode := splice x.mode 0 [1] });
      ((s.startTraining 5 (s.phy 5).attemptCause).phy 5).link = .training) ∧
    (live.modPhy 0 (fun x => { x with link := .grantWait })).mustAskAgain 0 = true ∧
    (live.modPhy 23 (fun x => { x with link := .up, plca := [1] })).isUp 23 = true ∧
    byteAt ((live.modPhy 23 (fun x => { x with link := .up, plca := [1] })).phy 23).plca 0 ≠ 0 := by decide +kernel

theorem test_redundancy_hyps :
    ((live.modRed (fun r => { r with recs := tmod r.recs 0 Recovery.blank (fun x => { x with enabled := true }) })).recovery 0).enabled
      = true ∧
    (live.modRed (fun r => { r with second := 1 })).net.red.second ≠ live.now / 1000000000 ∧
    (let s := (live.modRed (fun r => { r with protect := [0, 0, 0, 0, 1, 0, 0, 0, 3], state := .wtr })).modPhy 0 (fun x =>
        { x with link := .up });
      byteAt s.net.red.protect 4 = 1 ∧ s.linkUp 0 = true ∧ (s.phy 0).sqi < byteAt s.net.red.protect 8 ∧ s.net.red.state = .wtr)
    := by decide +kernel

/-! Statements about time. -/

theorem test_time_hyps : live.time.ns < 2 ^ 64 ∧ edges.reaches 0 = true ∧ edges.mayTune 0 = true ∧
    edges.time.nextIncr.toNat / 2 ^ 32 ≠ 0 ∧ edges.admitted cmdTimeSetRate 0 1 (zeros 8) = true ∧
    edges.time.stepLocked = false ∧ (edges.modTime (fun u => { u with stepLocked := true })).mayTune 0 = true ∧
    (1#32).toNat % 256 ≠ 0 := by decide +kernel

theorem test_time_rows_hyps :
    (let s := live.modTime (fun u => { u with
        source := 1
        alarms := vmod u.alarms 0 (fun a => { a with active := { a.active with enable := true } })
        io := vmod u.io 0 (fun x => { x with
          running := true, active := { x.active with function := 1, edge := 2, width := 1, period := 2 }, waiting := some default })
        inst := vmod u.inst 0 (fun g => { g with state := .locked, record := splice (splice g.record 2 [2]) 4 [6] }) });
      (vget s.time.alarms 0).active.enable = true ∧ s.alarmDiff 0 ≤ 0 ∧ s.bank33 = true ∧ (vget s.time.io 0).active.function = 1 ∧
      (vget s.time.io 0).waiting.isSome = true ∧ (vget s.time.io 0).held s.tick = true ∧ (vget s.time.io 0).running = true ∧
      (vget s.time.io 0).inside s.now ≠ (vget s.time.io 0).inPulse ∧ (s.gptp 0).state = .locked ∧
      (s.gptp 0).ownMaster = false ∧ s.takesSync 0 = true ∧ s.masterOn 0 1 = true ∧ s.time.driving 0 = true ∧ s.running = true ∧ s.time.source = 1 ∧
      (s.gptp s.time.driver.toNat).gm ≠ 1) := by decide +kernel

/-! Statements about the edge channels. -/

theorem test_can_hyps : edges.canHears 0 = true ∧ canXl (edges.canCh 0).record = false ∧
    (edges.modCan 0 (fun x => { x with record := splice x.record 0 [4] })).canHears 0 = true ∧
    bitOf (byteAt ((edges.modCan 0 (fun x => { x with record := splice x.record 0 [4] })).canCh 0).record 0) 2 = true ∧
    (edges.canCh 0).state = .normal ∧ ((live.modCan 1 (fun x => { x with state := .recovering })).canCh 1).state = .recovering ∧
    live.vcc5 = true ∧ live.canSegUp 1 = true ∧
    (let d : Detect := { (default : Detect) with candidates := [[], []] };
      ((live.modCan 1 (fun x => { x with state := .detecting, detect := some d })).canCh 1).detect = some d ∧
        d.current + 1 < d.candidates.length) := by decide +kernel

theorem test_release_hyps : edges.admitted cmdCanRxRelease 0 1 [0, 0, 1, 0, 1] = true ∧
    (vget (edges.canCh 0).fifos 0).ownsAll (handlesOf [0, 0, 1, 0, 1]) = true ∧
    edges.admitted cmdCanRxRelease 0 1 [0, 0, 1, 0, 9] = true ∧
    (vget (edges.canCh 0).fifos 0).ownsAll (handlesOf [0, 0, 1, 0, 9]) = false ∧
    edges.admitted cmdSerRxRelease 0 1 [16, 3, 1, 0, 1] = true ∧
    (edges.serFifo 0x310).ownsAll (handlesOf [16, 3, 1, 0, 1]) = true ∧
    (edges.serFifo 0x310).ownsAll (handlesOf [16, 3, 1, 0, 9]) = false := by decide +kernel

theorem test_lin_and_uart_hyps :
    (let s := live.modLin 0 (fun x => { x with state := 1, record := zeros 8 });
      (s.linCh 0).master = true) ∧
    (let s := live.modLin 0 (fun x => { x with state := 1, record := [1, 6] ++ zeros 6, resuming := true });
      (s.linCh 0).state = 1 ∧ (s.linCh 0).master = false ∧ bitOf (byteAt (s.linCh 0).record 1) 2 = true ∧
        (s.linCh 0).resuming = true) ∧
    (let s := live.modLin 0 (fun x => { x with state := 2, record := [1, 6] ++ zeros 6 });
      s.watches 16 = true ∧ bitOf (byteAt (s.linCh 0).record 1) 1 = true) ∧
    (let s := live.modUart 0 (fun x => { x with state := 1, record := [1] ++ zeros 15, queue := [default] });
      (s.uartCh 0).j1708 = true ∧ (s.uartCh 0).state = 1 ∧ live.bank33 = true ∧ (s.uartCh 0).wanted = [] ∧ (s.uartCh 0).queue ≠ []) := by
  decide +kernel

/-! Statements about relays, ciphers, keys. -/

/-- Channel 0 has a frame for the relay complex. -/
def relaying : State := live.modRelay (fun x => { x with
  routes := [(0, [1, 255, 255, 255] ++ zeros 40)], waiting := [{ (default : RMsg) with source := 0x100, charged := true }] })

theorem test_relay_hyps : (({ live with jtag := { live.jtag with unlocked := true } } : State).debugOpen = true) ∧
    (let s := live.modEngine 0 (fun x => { x with jobs := [{ (default : RJob) with escorted := true }] });
      (s.engine 0).halted = false ∧ (s.runningJob 0 0).isSome = true) ∧
    (let s := { live with power := { live.power with grants := [{ (default : Grant) with kind := .selfTest }] } };
      (s.modEngine 0 (fun x => { x with state := .selfTest })).testing 0 = true) ∧
    (((relaying.startJob 0).engine 0).job? relaying.relay.nextJob).map (·.escorted) = some false := by decide +kernel

theorem test_crypt_hyps :
    live.crypt.cdi.owned = false ∧ live.cdiHolder 0 = false ∧
    (live.modCdi (fun c => { c with owned := true, owner := 0 })).cdiHolder 0 = true ∧ (0#32).getLsbD 0 = false ∧
    (vget (live.modMac 0 (fun m => { m with mkaEn := true })).crypt.ports 0).mkaEn = true ∧
    ({ live with jtag := { live.jtag with unlocked := true } } : State).rolling = true ∧ (zeros 8).length = 8 ∧
    unlockOpen (live.modBoot (fun b => { b with lcs := 3 })) = none := by decide +kernel

/-! Statements about power, sleep and measurement. -/

theorem test_power_hyps : live.running = true ∧ (live.modPower (fun x => { x with keepOn := 0 })).domainNeeded 12 = false ∧ live.pws.domains.getLsbD 12 = true ∧
    live.domainNeeded 0 = true ∧ ({ live with pws := { live.pws with domains := 0 } } : State).pws.domains.getLsbD 0 = false ∧
    ({ live with power := { live.power with grants := [{ (default : Grant) with kind := .memTest }] } } : State).power.grants.any
      (fun g => g.kind == .memTest) = true ∧
    (((live.modPodl 5 (fun x => { x with state := .powered })).podlOf 5).state.drives = true) ∧
    ((live.modPodl 5 (fun x => { x with state := .powered })).podlOf 5).state = .powered := by decide +kernel

theorem test_sleep_hyps : hasTc10 5 = true ∧ network.isUp 5 = true ∧ (network.phy 5).acceptSleep = true ∧
    asleep.watches (segOfPort 5) = true ∧ ((asleep.modPhy 5 (fun x => { x with wakeEn := true })).phy 5).wakeEn = true ∧
    ((live.modPin 0 (fun x => { x with since := some (3, 0) })).pin 0).since = some (3, 0) ∧
    0 + 800 * (live.pin 0).debounce ≤ live.tick ∧
    (let s := live.modSleep (fun z => { z with pins := vmod z.pins 0 (fun y => { y with record := [1, 2] }) });
      (vget s.sleep.pins 0).counts true = true ∧ s.sleep.phase = .awake) ∧
    bitOf (live.modSleep (fun z => { z with hostFlags := 1 })).sleep.hostFlags 0 = true := by decide +kernel

theorem test_wake_frame_hyps :
    (let s := asleep.modSleep (fun z => { z with canWake := vset z.canWake 0 ([1] ++ zeros 19) });
      s.watches 0 = true ∧ byteAt (s.wakeRec 0) 0 = 1) ∧
    (let s := (asleep.modSleep (fun z => { z with canWake := vset z.canWake 0 ([2] ++ zeros 19) })).modDecoder 0 (fun d =>
        { d with running := true });
      s.decodes 0 = true ∧ wakeMatches (s.wakeRec 0) 5 0 [] = true ∧ s.watches 0 = true ∧
        (vget s.sleep.decoders 0).running = true ∧ (vget s.sleep.decoders 0).errors < 30) ∧
    (let s := live.modSleep (fun z => { z with
        segs := vset (vset z.segs 1 .going) 3 .going, nmLeft := vset z.nmLeft 1 1, phase := .quiet });
      s.segState 1 = .going ∧ 0 < vget s.sleep.nmLeft 1 ∧ segReal 3 = true ∧ s.segState 3 = .going ∧ s.segQuiet 3 = true ∧
        s.sleep.phase = .quiet) ∧
    (live.modSleep (fun z => { z with phase := .prepare })).sleep.phase = .prepare ∧
    (live.modSleep (fun z => { z with inhHold := true })).sleep.inhHold = true := by decide +kernel

theorem test_measurement_hyps : live.running = true ∧ loading.pd0.die = true ∧ loading.running = false ∧ network.isUp 2 = true ∧
    ((live.modPartner 2 (fun x => { x with lldpSeen := true })).partner 2).lost live.tick = true := by decide +kernel

/-! An envelope whose authenticator is right exists, whatever the opaque cipher and management address are. -/

/-- An envelope of R80 for slot 0 with sequence number 1, a message with no payload, and an authenticator. -/
def envelopeHead : Bytes := [0x0A, 0xE1, 0x7C, 0, 2, 0, 0, 0] ++ zeros 7 ++ [1] ++ zeros 16

/-- The binding it is checked against. -/
def binding : EthBinding := { (default : EthBinding) with port := 0xFFFF, mac := 2 }

/-- Its authenticator. -/
def authenticator : Bytes :=
  beBytes 16 (cmac binding.h2d (beBytes 6 Config.managementMac.toNat ++ beBytes 6 2 ++ beBytes 2 0x88B7 ++ envelopeHead)).toNat

/-- Slot 0 bound to that host, with the frame at F27. -/
def written : State :=
  ({ live with
    keys := { live.keys with slots := [(0, { (default : KeySlot) with state := .valid })] }
    net := { live.net with inbox := [{ port := 1, dst := Config.managementMac, src := 2, vid := 0, body := envelopeHead ++ authenticator }] } }
    : State).modSlot 0 (fun x => { x with binding := .eth binding })

theorem test_envelope_at_f27 :
    written.atF27 { port := 1, dst := Config.managementMac, src := 2, vid := 0, body := envelopeHead ++ authenticator } = true := by
  simp [State.atF27, written, State.modSlot]

theorem test_envelope_hyps :
    (written.envelopeFault 0 binding 1 Config.managementMac 2 0 (envelopeHead ++ authenticator) = none) ∧
    byteAt (envelopeHead ++ authenticator) 6 = 0 ∧ written.running = true ∧ (written.slot 0).inFlight.length < 8 ∧
    (written.slot 0).binding = .eth binding := by
  have hl : authenticator.length = 16 := by simp [authenticator, beBytes, leBytes]
  have hf : envelopeForm (envelopeHead ++ authenticator) = true := by
    simp only [envelopeForm, List.length_append, hl]; decide +kernel
  have hs : slice (envelopeHead ++ authenticator) 32 16 = authenticator := by
    have : envelopeHead.length = 32 := by decide
    rw [slice, ← this, List.drop_left, List.take_of_length_le (by omega)]
  refine ⟨?_, by rfl, by decide +kernel, by decide +kernel, by decide +kernel⟩
  unfold State.envelopeFault
  rw [if_neg (by rw [hf]; decide +kernel), if_neg, if_neg (by decide +kernel)]
  rintro (h | h | h)
  · revert h; decide +kernel
  · exact h (by decide +kernel)
  · exact h hs.symm

/-- The same frame from another address fails R81. -/
theorem test_envelope_fault_hyps :
    written.envelopeFault 0 binding 1 Config.managementMac 3 0 (envelopeHead ++ authenticator) = some .format := by
  unfold State.envelopeFault
  rw [if_pos (by decide +kernel)]

/-! Penyen commands: every one is admitted somewhere, goes on, and is refused by a fenced slot. -/

/-- Every command of the list is admitted on the state, from slot 0 with tag 1. -/
def admits (s : State) (l : List (Cmd × Bytes)) : Bool := l.all (fun x => s.admitted x.1 0 1 x.2)

/-- Slot 2, which is fenced, is refused every command of the list but SLOT_GET_STATE. -/
def locksOut (l : List (Cmd × Bytes)) : Bool :=
  l.all (fun x => x.1.op == 0x0207 || (edges.turnOf x.1 2 1 x.2 &&
    decide (x.1.refusal (edges.asTaken x.1 2 1 x.2) 2 (edges.excusedAt 2) x.2 = some stLocked)))

theorem test_admitted : admits live sysOnLive = true ∧
    admits live portOnLive = true ∧
    admits live custOnLive = true ∧
    admits live schedOnLive = true ∧
    admits live timeOnLive = true ∧
    admits live edgeOnLive = true ∧
    admits live relayOnLive = true ∧
    admits live cryptOnLive = true ∧
    admits live drovOnLive = true ∧
    admits edges onEdges = true ∧
    admits units onUnits = true ∧
    indicating.admitted cmdSleepCancel 0 1 [] = true := by
  decide +kernel

theorem test_locked_out : locksOut sysOnLive = true ∧
    locksOut portOnLive = true ∧
    locksOut custOnLive = true ∧
    locksOut schedOnLive = true ∧
    locksOut timeOnLive = true ∧
    locksOut edgeOnLive = true ∧
    locksOut relayOnLive = true ∧
    locksOut cryptOnLive = true ∧
    locksOut drovOnLive = true ∧
    locksOut onEdges = true ∧
    locksOut onUnits = true := by
  decide +kernel

theorem test_sys_rows_go_on :
    goesOn (exec (.sysGetCaps 0 1 []) live) = true ∧ goesOn (exec (.sysGetInfo 0 1 []) live) = true ∧
    goesOn (exec (.sysPing 0 1 []) live) = true ∧ goesOn (exec (.sysReset 0 1 []) live) = true ∧
    goesOn (exec (.sysGpioConfig 0 1 (zeros 8)) live) = true ∧ goesOn (exec (.sysGpioWrite 0 1 (zeros 4)) live) = true ∧
    goesOn (exec (.sysGpioRead 0 1 []) live) = true ∧ goesOn (exec (.sysI2cXfer 0 1 [0, 0, 8, 0, 0, 0, 0, 0]) live) = true ∧
    goesOn (exec (.sysMdioAccess 0 1 (zeros 8)) live) = true ∧ goesOn (exec (.slotGetCaps 0 1 []) live) = true ∧
    goesOn (exec (.slotOpen 0 1 [2, 0]) live) = true ∧ goesOn (exec (.slotClose 0 1 []) live) = true ∧
    goesOn (exec (.slotBind 0 1 (zeros 16)) live) = true ∧ goesOn (exec (.slotUnbind 0 1 [1, 0, 0, 0]) edges) = true ∧
    goesOn (exec (.slotGrant 0 1 [1, 1, 0, 0, 0, 0, 1, 0]) live) = true ∧
    goesOn (exec (.slotRevoke 0 1 [1, 6, 0, 0, 15, 0, 1, 0]) edges) = true ∧
    goesOn (exec (.slotGetState 0 1 (zeros 4)) live) = true ∧ goesOn (exec (.slotSetReadPolicy 0 1 [1, 0, 0, 0]) live) = true ∧
    goesOn (exec (.slotFence 0 1 [1, 0, 0, 0]) edges) = true ∧ goesOn (exec (.slotUnfence 0 1 [2, 0, 0, 0]) edges) = true ∧
    goesOn (exec (.slotGetOwner 0 1 [1, 0, 0, 0]) live) = true ∧ goesOn (exec (.slotGetStats 0 1 (zeros 4)) live) = true ∧
    goesOn (exec (.slotSetWritePermit 0 1 [1, 0, 0, 0]) live) = true ∧
    goesOn (exec (.slotRekey 0 1 [3, 0, 1, 0]) edges) = true ∧ goesOn (exec (.diagGetCaps 0 1 []) live) = true ∧
    goesOn (exec (.diagGetBootRecord 0 1 []) live) = true ∧ goesOn (exec (.diagAdvanceSecver 0 1 (zeros 4)) live) = true ∧
    goesOn (exec (.diagRevokeVendorKey 0 1 [1, 0, 0, 0]) live) = true ∧
    goesOn (exec (.diagLcsTransition 0 1 [5, 0, 0, 0]) live) = true ∧
    goesOn (exec (.diagUnlockChallenge 0 1 (zeros 4)) live) = true ∧
    goesOn (exec (.diagUnlockResponse 0 1 (zeros 8)) live) = true ∧ goesOn (exec (.diagRelock 0 1 []) live) = true := by
  decide +kernel

theorem test_port_rows_go_on :
    goesOn (exec (.portGetCaps 0 1 []) live) = true ∧
    goesOn (exec (.portSetMode 0 1 ([0, 0, 0, 0, 0, 0, 0, 0, 0, 1] ++ zeros 18)) live) = true ∧
    goesOn (exec (.portGetMode 0 1 (zeros 4)) live) = true ∧ goesOn (exec (.portGetStatus 0 1 (zeros 4)) live) = true ∧
    goesOn (exec (.portForgetCoeffs 0 1 (zeros 4)) live) = true ∧ goesOn (exec (.portSetWake 0 1 [5, 0, 0, 0]) live) = true ∧
    goesOn (exec (.portSendWake 0 1 [5, 0, 0, 0]) live) = true ∧
    goesOn (exec (.portSetPodl 0 1 [5, 0, 0, 0, 0, 12, 50, 0, 50, 0, 1, 1, 0, 0, 50, 0, 0, 0, 0, 0]) live) = true ∧
    goesOn (exec (.portPodlControl 0 1 [5, 0, 0, 0]) live) = true ∧ goesOn (exec (.portGetPodl 0 1 [5, 0, 0, 0]) live) = true ∧
    goesOn (exec (.portGetPhyCounters 0 1 (zeros 4)) live) = true ∧
    goesOn (exec (.portClearPhyCounters 0 1 (zeros 4)) live) = true ∧
    goesOn (exec (.portSetFwdConfig 0 1 ([0, 0, 0, 0, 1, 0, 0, 0, 0, 0, 0, 0, 0, 0, 0, 0, 0, 0, 64] ++ zeros 9)) live) = true ∧
    goesOn (exec (.portGetFwdConfig 0 1 (zeros 4)) live) = true ∧ goesOn (exec (.portGetCounters 0 1 (zeros 4)) live) = true ∧
    goesOn (exec (.portClearCounters 0 1 (zeros 4)) live) = true ∧ goesOn (exec (.portGetPipelineStats 0 1 []) live) = true ∧
    goesOn (exec (.fdbGetCaps 0 1 []) live) = true ∧
    goesOn (exec (.fdbAdd 0 1 ([0, 0, 0, 0, 0, 0, 1] ++ zeros 15)) live) = true ∧
    goesOn (exec (.fdbDelete 0 1 [0, 0, 0, 0, 0, 2, 1, 0]) units) = true ∧
    goesOn (exec (.fdbLookup 0 1 [0, 0, 0, 0, 0, 2, 1, 0]) units) = true ∧ goesOn (exec (.fdbFlush 0 1 (zeros 4)) live) = true ∧
    goesOn (exec (.fdbSetAging 0 1 [1, 0, 0, 0]) live) = true ∧ goesOn (exec (.fdbRead 0 1 [0, 0, 1, 0]) live) = true ∧
    goesOn (exec (.fdbSetVlan 0 1 [1, 0, 0, 0, 0, 0, 0, 0, 0, 0, 0, 0, 0, 0, 0, 0, 1, 0, 0, 0]) live) = true ∧
    goesOn (exec (.fdbDeleteVlan 0 1 [1, 0, 0, 0]) live) = true ∧ goesOn (exec (.fdbGetVlan 0 1 (zeros 4)) live) = true := by
  decide +kernel

theorem test_cust_rows_go_on :
    goesOn (exec (.custGetCaps 0 1 []) live) = true ∧ goesOn (exec (.custSetZone 0 1 (zeros 4)) live) = true ∧
    goesOn (exec (.custSetZoneMap 0 1 [0, 0, 1, 0, 0, 0, 0, 0]) live) = true ∧
    goesOn (exec (.custSetPair 0 1 (zeros 4)) live) = true ∧ goesOn (exec (.custSetRule 0 1 (zeros 180)) live) = true ∧
    goesOn (exec (.custClearRules 0 1 [0, 0, 1, 0]) live) = true ∧ goesOn (exec (.custGetRule 0 1 (zeros 4)) live) = true ∧
    goesOn (exec (.custSetCanRule 0 1 (zeros 36)) live) = true ∧ goesOn (exec (.custGetCanRule 0 1 (zeros 4)) live) = true ∧
    goesOn (exec (.custSetCanDefault 0 1 (zeros 4)) live) = true ∧ goesOn (exec (.custSwap 0 1 (zeros 12)) live) = true ∧
    goesOn (exec (.custGetGen 0 1 []) live) = true ∧
    goesOn (exec (.custSetConvTimeouts 0 1 [1, 0, 1, 0, 1, 0, 160, 134, 1, 0]) live) = true ∧
    goesOn (exec (.custFlushConv 0 1 (zeros 4)) live) = true ∧ goesOn (exec (.custReadConv 0 1 [0, 0, 1, 0]) live) = true ∧
    goesOn (exec (.custQuarantine 0 1 (zeros 4)) live) = true ∧
    goesOn (exec (.custGetCounters 0 1 [0, 0, 0, 0, 1, 0]) live) = true ∧
    goesOn (exec (.custClearCounters 0 1 [0, 0, 0, 0, 1, 0]) live) = true ∧ goesOn (exec (.redGetCaps 0 1 []) live) = true ∧
    goesOn (exec (.redSetGenerator 0 1 (zeros 8)) live) = true ∧
    goesOn (exec (.redSetRecovery 0 1 ([0, 0, 0, 0, 0, 0, 0, 44, 1] ++ zeros 11)) live) = true ∧
    goesOn (exec (.redEnable 0 1 (zeros 4)) live) = true ∧ goesOn (exec (.redGetInstance 0 1 (zeros 4)) live) = true ∧
    goesOn (exec (.redSetProtect 0 1 [0, 0, 1, 0, 0, 1, 2, 0, 0, 0, 1, 0, 0, 0, 0, 0]) live) = true ∧
    goesOn (exec (.redForce 0 1 (zeros 4)) units) = true ∧ goesOn (exec (.redGetProtect 0 1 []) live) = true ∧
    goesOn (exec (.redSubscribe 0 1 (zeros 4)) live) = true ∧
    goesOn (exec (.redGetCounters 0 1 [0, 0, 0, 0, 1, 0, 0, 0]) live) = true ∧
    goesOn (exec (.redClearCounters 0 1 [0, 0, 0, 0, 1, 0, 0, 0]) live) = true := by
  decide +kernel

theorem test_sched_rows_go_on :
    goesOn (exec (.schedGetCaps 0 1 []) live) = true ∧ goesOn (exec (.schedSetQueue 0 1 [0, 0, 0, 0, 1, 0, 0, 0]) live) = true ∧
    goesOn (exec (.schedGetQueue 0 1 (zeros 4)) live) = true ∧
    goesOn (exec (.schedSetShaper 0 1 [0, 0, 0, 0, 1, 0, 0, 0, 64, 0, 0, 0]) live) = true ∧
    goesOn (exec (.schedGetShaper 0 1 (zeros 4)) live) = true ∧ goesOn (exec (.schedSetMeter 0 1 (zeros 20)) live) = true ∧
    goesOn (exec (.schedGetMeter 0 1 (zeros 4)) live) = true ∧ goesOn (exec (.schedSetStreamId 0 1 (zeros 68)) live) = true ∧
    goesOn (exec (.schedGetStreamId 0 1 (zeros 4)) live) = true ∧ goesOn (exec (.schedSwapStreamId 0 1 []) live) = true ∧
    goesOn (exec (.schedSetFilter 0 1 (zeros 20)) live) = true ∧ goesOn (exec (.schedGetFilter 0 1 (zeros 4)) live) = true ∧
    goesOn (exec (.schedSetStreamGate 0 1 [0, 0, 0, 1, 0, 0, 0, 0, 0, 0, 0, 0, 0, 0, 0, 0, 64, 0, 0, 0, 0, 0, 0, 0, 0, 0, 0, 0, 32, 0, 0, 0]) live) = true ∧
    goesOn (exec (.schedGetStreamGate 0 1 (zeros 4)) live) = true ∧
    goesOn (exec (.schedClearBlocked 0 1 (zeros 4)) live) = true ∧
    goesOn (exec (.schedSetAdmission 0 1 (zeros 8)) live) = true ∧
    goesOn (exec (.schedGetAdmission 0 1 (zeros 4)) live) = true ∧
    goesOn (exec (.schedSetSampling 0 1 [0, 0, 0, 0, 1, 0, 0, 0, 0, 0, 0, 0]) live) = true ∧
    goesOn (exec (.schedReadHist 0 1 (zeros 4)) live) = true ∧
    goesOn (exec (.schedGetCounters 0 1 [0, 0, 0, 0, 1, 0, 0, 0]) live) = true ∧
    goesOn (exec (.schedClearCounters 0 1 [0, 0, 0, 0, 1, 0, 0, 0]) live) = true ∧
    goesOn (exec (.gateGetCaps 0 1 []) live) = true ∧
    goesOn (exec (.gateSetAdminHeader 0 1 ([0, 0, 0, 0, 0, 0, 1, 0, 0, 0, 0, 0, 0, 0, 0, 0, 0, 0, 0, 0, 64, 0, 0, 0, 16, 39] ++ zeros 10)) live) = true ∧
    goesOn (exec (.gateSetAdminEntries 0 1 [0, 0, 0, 0, 1, 0, 0, 0, 0, 0, 0, 0, 32, 0, 0, 0]) live) = true ∧
    goesOn (exec (.gateGetList 0 1 [0, 0, 0, 0, 1, 0, 0, 0]) live) = true ∧
    goesOn (exec (.gateCommitAdmin 0 1 (zeros 4)) live) = true ∧ goesOn (exec (.gateCancelChange 0 1 (zeros 4)) units) = true ∧
    goesOn (exec (.gateGetStatus 0 1 (zeros 4)) live) = true ∧ goesOn (exec (.gateSetQueueTiming 0 1 (zeros 12)) live) = true ∧
    goesOn (exec (.gateGetQueueTiming 0 1 (zeros 4)) live) = true ∧
    goesOn (exec (.gateSetPreempt 0 1 [0, 0, 0, 0, 1, 0, 0, 0]) live) = true ∧
    goesOn (exec (.gateGetCounters 0 1 [0, 0, 0, 0, 1, 0, 0, 0]) live) = true ∧
    goesOn (exec (.gateClearCounters 0 1 [0, 0, 0, 0, 1, 0, 0, 0]) live) = true := by
  decide +kernel

theorem test_time_rows_go_on :
    goesOn (exec (.timeGetCaps 0 1 []) live) = true ∧ goesOn (exec (.timeGetNow 0 1 []) live) = true ∧
    goesOn (exec (.timeSetSource 0 1 (zeros 4)) live) = true ∧ goesOn (exec (.timeNewEpoch 0 1 []) live) = true ∧
    goesOn (exec (.timeStep 0 1 (zeros 8)) edges) = true ∧
    goesOn (exec (.timeSetDomain 0 1 [0, 0, 0, 0, 0, 0, 0, 0, 0, 0, 0, 0, 0, 0, 0, 2, 1, 0, 0, 0, 100, 0, 0, 0, 0, 0, 0, 0]) live) = true ∧
    goesOn (exec (.timeEnableDomain 0 1 (zeros 4)) live) = true ∧ goesOn (exec (.timeGetDomain 0 1 (zeros 4)) live) = true ∧
    goesOn (exec (.timeSetPort 0 1 (zeros 8)) live) = true ∧ goesOn (exec (.timeSetAlarm 0 1 (zeros 8)) live) = true ∧
    goesOn (exec (.timeSetIo 0 1 [0, 0, 0, 0, 0, 0, 0, 0, 0, 0, 0, 0, 0, 0, 0, 0, 100, 0, 0, 0, 10, 0, 0, 0, 0, 0, 0, 0]) live) = true ∧
    goesOn (exec (.timeReadCaptures 0 1 [0, 1, 0, 0]) live) = true ∧
    goesOn (exec (.timeGetCounters 0 1 (zeros 4)) live) = true ∧ goesOn (exec (.pwrGetCaps 0 1 []) live) = true ∧
    goesOn (exec (.pwrGetStatus 0 1 []) live) = true ∧ goesOn (exec (.pwrSetCeiling 0 1 [0, 3, 0, 0]) live) = true ∧
    goesOn (exec (.pwrSetBoardBudget 0 1 [10, 0, 0, 0]) live) = true ∧
    goesOn (exec (.pwrSetDomain 0 1 [5, 0, 0, 0]) live) = true ∧ goesOn (exec (.pwrGetGrants 0 1 []) live) = true ∧
    goesOn (exec (.pwrGetCounters 0 1 []) live) = true ∧ goesOn (exec (.pwrClearCounters 0 1 []) live) = true ∧
    goesOn (exec (.sleepGetCaps 0 1 []) live) = true ∧ goesOn (exec (.sleepCancel 0 1 []) indicating) = true ∧
    goesOn (exec (.sleepGetStatus 0 1 []) live) = true ∧ goesOn (exec (.sleepSegment 0 1 (zeros 16)) live) = true ∧
    goesOn (exec (.sleepSetPin 0 1 ([0, 0, 0, 0, 0, 0, 10] ++ zeros 9)) live) = true ∧
    goesOn (exec (.sleepSetCanWake 0 1 (zeros 36)) live) = true ∧
    goesOn (exec (.sleepSetNm 0 1 ([0, 0, 0, 0, 0, 0, 1] ++ zeros 21)) live) = true ∧
    goesOn (exec (.sleepSetHostWake 0 1 (zeros 12)) live) = true ∧ goesOn (exec (.sleepSetInh 0 1 (zeros 4)) live) = true ∧
    goesOn (exec (.sleepGetWakeRecord 0 1 []) live) = true ∧ goesOn (exec (.sleepGetCounters 0 1 []) live) = true ∧
    goesOn (exec (.sleepClearCounters 0 1 []) live) = true ∧
    goesOn (exec (.timeSetRate 0 1 [1, 0, 0, 0, 0, 0, 0, 0]) edges) = true ∧
    goesOn (exec (.sleepRequest 0 1 [0, 0, 10, 0, 100, 0, 0, 0]) live) = true := by
  decide +kernel

theorem test_edge_rows_go_on :
    goesOn (exec (.canGetCaps 0 1 []) live) = true ∧
    goesOn (exec (.canSetConfig 0 1 [0, 0, 0, 0, 0, 0, 0, 0, 0, 0, 0, 0, 20, 1, 2, 0, 1, 0, 0, 0, 4, 1, 1, 0, 1, 128, 0, 0, 3, 1, 1, 0, 1, 128, 0, 0]) live) = true ∧
    goesOn (exec (.canGetConfig 0 1 (zeros 4)) live) = true ∧ goesOn (exec (.canSetMode 0 1 (zeros 4)) live) = true ∧
    goesOn (exec (.canGetStatus 0 1 (zeros 4)) live) = true ∧ goesOn (exec (.canSetQueue 0 1 [0, 0, 0, 1]) live) = true ∧
    goesOn (exec (.canSetFilter 0 1 (zeros 16)) live) = true ∧ goesOn (exec (.canTransmit 0 1 (zeros 28)) edges) = true ∧
    goesOn (exec (.canRxRead 0 1 [0, 0, 1, 0]) edges) = true ∧ goesOn (exec (.canRecover 0 1 [1, 0, 0, 0]) edges) = true ∧
    goesOn (exec (.canFlushQueue 0 1 (zeros 4)) live) = true ∧
    goesOn (exec (.canDetectRate 0 1 [2, 1, 10, 0, 4, 4, 15, 0, 1, 0, 0, 0]) live) = true ∧
    goesOn (exec (.canGetCounters 0 1 (zeros 4)) live) = true ∧ goesOn (exec (.canClearCounters 0 1 (zeros 4)) live) = true ∧
    goesOn (exec (.linGetCaps 0 1 []) live) = true ∧
    goesOn (exec (.linSetConfig 0 1 [0, 0, 0, 0, 0, 0, 232, 3, 1, 4, 0, 0]) live) = true ∧
    goesOn (exec (.linSetMode 0 1 (zeros 4)) live) = true ∧
    goesOn (exec (.linSetFrame 0 1 [0, 0, 0, 1, 0, 0, 0, 0]) live) = true ∧
    goesOn (exec (.linSetSchedule 0 1 (zeros 4)) live) = true ∧ goesOn (exec (.linSelectSchedule 0 1 (zeros 4)) live) = true ∧
    goesOn (exec (.linSetPublish 0 1 ([0, 0, 1] ++ zeros 9)) live) = true ∧
    goesOn (exec (.linSendWake 0 1 (zeros 4)) edges) = true ∧ goesOn (exec (.linGetStatus 0 1 (zeros 4)) live) = true ∧
    goesOn (exec (.serSetConfig 0 1 [0, 0, 0, 0, 0, 0, 2, 0, 220, 5, 0, 0, 1, 0, 0, 0, 1, 0, 0, 0]) live) = true ∧
    goesOn (exec (.serSetMode 0 1 (zeros 4)) live) = true ∧
    goesOn (exec (.serTransmit 0 1 [0, 1, 0, 0, 0, 0, 0, 0, 1, 0, 0, 0, 9]) edges) = true ∧
    goesOn (exec (.serGetStatus 0 1 (zeros 4)) live) = true ∧ goesOn (exec (.serRxRead 0 1 [16, 3, 1, 0]) edges) = true ∧
    goesOn (exec (.serGetCounters 0 1 [0, 3, 0, 0]) live) = true ∧
    goesOn (exec (.serClearCounters 0 1 [0, 3, 0, 0]) live) = true ∧
    goesOn (exec (.canRxRelease 0 1 [0, 0, 1, 0, 1]) edges) = true ∧
    goesOn (exec (.serRxRelease 0 1 [16, 3, 1, 0, 1]) edges) = true := by
  decide +kernel

theorem test_relay_rows_go_on :
    goesOn (exec (.routeGetCaps 0 1 []) live) = true ∧ goesOn (exec (.routeSetRule 0 1 (zeros 44)) live) = true ∧
    goesOn (exec (.routeClear 0 1 [0, 0, 1, 0]) live) = true ∧ goesOn (exec (.routeGetRule 0 1 (zeros 4)) live) = true ∧
    goesOn (exec (.routeSwap 0 1 (zeros 8)) live) = true ∧ goesOn (exec (.routeGetGen 0 1 []) live) = true ∧
    goesOn (exec (.routeSetTunnel 0 1 ([0, 0, 0, 0, 0, 0, 1, 0, 64] ++ zeros 27)) live) = true ∧
    goesOn (exec (.routeGetTunnel 0 1 (zeros 4)) live) = true ∧ goesOn (exec (.routeSetEngine 0 1 (zeros 4)) live) = true ∧
    goesOn (exec (.routeGetEngines 0 1 []) live) = true ∧
    goesOn (exec (.routeGetCounters 0 1 [0, 0, 0, 0, 1, 0, 0, 0]) live) = true ∧
    goesOn (exec (.routeClearCounters 0 1 [0, 0, 0, 0, 1, 0, 0, 0]) live) = true ∧
    goesOn (exec (.escGetCaps 0 1 []) live) = true ∧ goesOn (exec (.escSetConfig 0 1 [1, 0, 1, 0, 0, 0, 0, 0]) live) = true ∧
    goesOn (exec (.escGetStatus 0 1 []) live) = true ∧ goesOn (exec (.escSetSafe 0 1 (zeros 76)) live) = true ∧
    goesOn (exec (.escGetSafe 0 1 (zeros 4)) live) = true ∧ goesOn (exec (.escAckFault 0 1 [1, 0, 0, 0]) units) = true ∧
    goesOn (exec (.escTestEngine 0 1 (zeros 4)) live) = true ∧ goesOn (exec (.escInject 0 1 (zeros 4)) live) = true ∧
    goesOn (exec (.escGetCounters 0 1 [0, 0, 0, 0, 1, 0, 0, 0]) live) = true ∧
    goesOn (exec (.escClearCounters 0 1 [0, 0, 0, 0, 1, 0, 0, 0]) live) = true := by
  decide +kernel

theorem test_crypt_rows_go_on :
    goesOn (exec (.cryptGetCaps 0 1 []) live) = true ∧ goesOn (exec (.cryptSetPort 0 1 (zeros 12)) live) = true ∧
    goesOn (exec (.cryptSetMka 0 1 (zeros 44)) live) = true ∧
    goesOn (exec (.cryptInstallSa 0 1 ([0, 0, 0, 0, 0, 0, 0, 0, 0, 0, 0, 0, 0, 0, 0, 0, 0, 0, 0, 0, 1] ++ zeros 31)) live) = true ∧
    goesOn (exec (.cryptSetTxAn 0 1 (zeros 4)) units) = true ∧ goesOn (exec (.cryptDeleteSa 0 1 (zeros 4)) live) = true ∧
    goesOn (exec (.cryptGetSa 0 1 (zeros 4)) live) = true ∧ goesOn (exec (.cryptSetProfile 0 1 (zeros 44)) live) = true ∧
    goesOn (exec (.cryptGetProfile 0 1 (zeros 4)) live) = true ∧ goesOn (exec (.cryptOpen 0 1 (zeros 20)) live) = true ∧
    goesOn (exec (.cryptUpdate 0 1 [0, 0, 1, 0]) units) = true ∧ goesOn (exec (.cryptFinal 0 1 (zeros 4)) units) = true ∧
    goesOn (exec (.cryptSave 0 1 (zeros 4)) units) = true ∧ goesOn (exec (.cryptRestore 0 1 (zeros 64)) live) = true ∧
    goesOn (exec (.cryptOneshot 0 1 (zeros 52)) live) = true ∧ goesOn (exec (.cryptBreakLock 0 1 []) live) = true ∧
    goesOn (exec (.cryptGetCounters 0 1 [0, 0, 0, 0, 1, 0, 0, 0]) live) = true ∧
    goesOn (exec (.cryptClearCounters 0 1 [0, 0, 0, 0, 1, 0, 0, 0]) live) = true ∧
    goesOn (exec (.keyGetCaps 0 1 []) live) = true ∧ goesOn (exec (.keyImport 0 1 ([3, 0, 1, 0] ++ zeros 56)) units) = true ∧
    goesOn (exec (.keyDerive 0 1 ([3, 0, 1, 0, 1, 1, 0, 0, 1, 0, 1, 0, 65] ++ zeros 43)) units) = true ∧
    goesOn (exec (.keyPrefetch 0 1 (zeros 4)) live) = true ∧ goesOn (exec (.keyRefresh 0 1 [2, 0, 0, 0]) units) = true ∧
    goesOn (exec (.keyInvalidate 0 1 (zeros 4)) live) = true ∧ goesOn (exec (.keyErase 0 1 [0, 0, 1, 0]) live) = true ∧
    goesOn (exec (.keyNarrowMask 0 1 (zeros 4)) live) = true ∧ goesOn (exec (.keyGetAttr 0 1 (zeros 4)) live) = true ∧
    goesOn (exec (.keySetService 0 1 []) live) = true ∧ goesOn (exec (.keyGetCounters 0 1 []) live) = true ∧
    goesOn (exec (.keyClearCounters 0 1 []) live) = true := by
  decide +kernel

theorem test_drov_rows_go_on :
    goesOn (exec (.measGetCaps 0 1 []) live) = true ∧ goesOn (exec (.measRead 0 1 (zeros 4)) live) = true ∧
    goesOn (exec (.measRunTdr 0 1 [0, 50, 0, 0]) live) = true ∧ goesOn (exec (.measRunTerm 0 1 (zeros 4)) live) = true ∧
    goesOn (exec (.measGetPartner 0 1 (zeros 4)) live) = true ∧ goesOn (exec (.drovGetCaps 0 1 []) live) = true ∧
    goesOn (exec (.drovGrant 0 1 ([2] ++ zeros 31)) live) = true ∧ goesOn (exec (.drovRevoke 0 1 (zeros 4)) units) = true ∧
    goesOn (exec (.drovGetMandate 0 1 (zeros 4)) live) = true ∧
    goesOn (exec (.drovReadLedger 0 1 [0, 0, 0, 0, 1, 0, 0, 0]) live) = true ∧
    goesOn (exec (.drovPause 0 1 (zeros 4)) live) = true ∧ goesOn (exec (.drovGetCounters 0 1 []) live) = true ∧
    goesOn (exec (.drovClearCounters 0 1 []) live) = true := by
  decide +kernel
/-! Values that the spec works out. -/

/-- The example after R35: the alias of COMMIT in EVU_MASK3 sets that bit alone. -/
theorem test_alias_example :
    (match exec (.aliasWrite 0 0x20694 [1, 0, 0, 0]) live with
      | .next t => (t.slot 3).evu.mask == 0x20
      | _ => false) = true := by decide +kernel

/-- The example after R35: clearing LOCK_ERR through its alias. -/
theorem test_alias_clears_lock_err :
    (match exec (.aliasWrite 0 0x100 [1, 0, 0, 0]) { live with hiu := { live.hiu with err := 9 } } with
      | .next t => t.hiu.err == 8
      | _ => false) = true := by decide +kernel

/-- The example after R271: a crystal 12 ppm fast. -/
theorem test_fast_crystal :
    (match exec (.tuIncrIntWrite 0 1) (edges.modTime (fun u => { u with heldFrac := 0x3FFF0458 })) with
      | .next t => t.time.nextIncr == 0x13FFF0458
      | _ => false) = true := by decide +kernel

/-- The example after R223: at 200,000 kbit/s a refill adds 6.4 bytes, rounded down to 2⁻³² byte. -/
theorem test_depot_upload_refill :
    (({ (default : Queue) with shaper := { enable := true, rate := 200000, burst := 16384 } } : Queue).refill).credit
      = 27487790694 := by decide +kernel

/-- The example after R411: the replay of a debugger's write in the check run. -/
theorem test_replay_example : mirrored 0x40 = 0x1FBC ∧ turned 0x18A = 0x00314000 := by decide +kernel

/-- R235: at scale 0, 9,680 cells fall in bin 14, and 2^14 cells in bin 15; at scale 7, 128 ns fall in bin 1. -/
theorem test_histogram_bins : binOf 0 9680 = 14 ∧ binOf 0 16384 = 15 ∧ binOf 7 127 = 0 ∧ binOf 7 128 = 1 := by decide +kernel

/-- The example of chapter 21: identifier 0x51C, DLC 8, DATA_MASK 0x01 in byte 0. -/
theorem test_wake_frame_example :
    wakeMatches ([2, 0, 0, 8, 0x1C, 5, 0, 0, 0xFF, 0xFF, 0xFF, 0x3F, 1] ++ zeros 7) 0x51C 8 ([1] ++ zeros 7) = true ∧
    wakeMatches ([2, 0, 0, 8, 0x1C, 5, 0, 0, 0xFF, 0xFF, 0xFF, 0x3F, 1] ++ zeros 7) 0x51C 8 ([2] ++ zeros 7) = false ∧
    wakeMatches ([2, 0, 0, 8, 0x1C, 5, 0, 0, 0xFF, 0xFF, 0xFF, 0x3F, 1] ++ zeros 7) 0x51D 8 ([1] ++ zeros 7) = false := by
  decide +kernel

/-- The example of chapter 20: with every domain powered the baseline is 11.15 W. -/
theorem test_baseline_of_every_domain : live.baseline = 1115 := by decide +kernel

/-- R37: HIU_ID reads 0x7120B002, over SPI too. -/
theorem test_hiu_id :
    (match exec (.spiRead 0 0 1) live with
      | .next t => decide (t.out.head? = some (.miso 0 [0x7120B002]))
      | _ => false) = true := by decide +kernel

/-- R65: SYS_PING with a length that does not suit is answered ST_BAD_LENGTH. -/
theorem test_fenced_slot_state_command_needs_its_length : live.turnOf cmdSlotGetState 0 1 [] = true ∧
    cmdSlotGetState.refusal (live.asTaken cmdSlotGetState 0 1 []) 0 false [] = some stBadLength := by decide +kernel

/-- R484: in PREPARE a reset is refused, a GET command is not. -/
theorem test_prepare :
    (let s := live.modSleep (fun z => { z with phase := .prepare });
      cmdSysReset.refusal s 0 false [] = some (stWrongState 0x1001 0 3) ∧ cmdSysReset.op ∉ getOps ∧ cmdSysReset.op ≠ 0x1002 ∧
        s.admitted cmdSysGetCaps 0 1 [] = true) := by decide +kernel

/-- R52, R53: nothing runs before firmware; a slot that is UNBOUND has nothing in flight. -/
theorem test_no_firmware_hyps : State.reset.running = false ∧ (live.slot 4).state = .unbound ∧ (live.slot 4).inFlight = [] := by
  decide +kernel

/-- R68: a slot whose four accepted commands are unfinished, under a ceiling that leaves no room for a grant. -/
def crowded : State :=
  { live with power := { live.power with ceiling := 600 } }.modSlot 0 (fun x => { x with jobs := List.replicate 4 default })

/-- A fifth command that would answer ST_ACCEPTED passes there. -/
def fifth (c : Cmd) (p : Bytes) : Bool := crowded.passes c 0 1 p && c.startsJob (crowded.asTaken c 0 1 p) 0 1 p

theorem test_fifth_job_hyps : (crowded.slot 0).jobs.length = 4 ∧
    fifth cmdCustSwap [0, 0, 0, 0, 0, 1, 0, 0, 0, 0, 0, 0] = true ∧ fifth cmdRouteSwap [0, 0, 1, 0, 0, 0, 0, 0] = true ∧
    fifth cmdCanDetectRate [2, 1, 10, 0, 4, 4, 15, 0, 1, 0, 0, 0] = true ∧ fifth cmdEscTestEngine (zeros 4) = true ∧
    fifth cmdSleepSegment [0, 0, 0, 0, 0, 0, 0, 0, 1, 0, 0, 0, 10, 0, 0, 0] = true ∧
    fifth cmdSleepRequest [0, 0, 10, 0, 100, 0, 0, 0] = true := by decide +kernel

/-! Well-formed commands: each check refuses something and takes something. -/

theorem test_wf_window : (Instr.registerWrite 0 0x404000 [0]).wf = false ∧ (Instr.registerWrite 0 0 []).wf = false ∧
    (Instr.registerWrite 0 0x3FFFFF [0]).wf = true ∧ (Instr.aliasWrite 0 0x200000 [0]).wf = false ∧
    (Instr.aliasWrite 0 0 []).wf = false ∧ (Instr.aliasWrite 0 0x1FFFFC [0]).wf = true ∧
    (Instr.spiWrite 0 0x400000 [] false).wf = false ∧ (Instr.spiRead 0 0x400000 1).wf = false ∧
    (Instr.spiRead 0 0x3FFFFF 1).wf = true := by decide +kernel

theorem test_wf_buffers : (Instr.landingBufferWrite 0 262144 [0]).wf = false ∧ (Instr.landingBufferWrite 0 0 []).wf = false ∧
    (Instr.landingBufferWrite 0 262143 [0]).wf = true ∧ (Instr.jtagUnlockToken (zeros 7)).wf = false ∧
    (Instr.jtagUnlockToken (zeros 8)).wf = true ∧ (Instr.ringTailWrite 0 0 0 0 [default]).wf = false ∧
    (Instr.ringTailWrite 0 0 0 0 [{ (default : DescRead) with desc := zeros 32 }]).wf = true ∧
    (Instr.ringFetchRetry 0 0 [default]).wf = false ∧ (Instr.rxRingDeliver 0 none [default]).wf = false := by decide +kernel

theorem test_wf_frames : (Instr.frameEnd 0 (zeros 16385) false false 0).wf = false ∧
    (Instr.frameEnd 0 (zeros 64) false false 0).wf = true ∧ (Instr.envelopeReceive 0 0 0 0 (zeros 16385)).wf = false ∧
    (Instr.headerHandover 0 (zeros 16385)).wf = false ∧ (Instr.deepRulePass 0 (zeros 16385)).wf = false ∧
    (Instr.oversizeRefuse 0 (zeros 16385)).wf = false ∧ (Instr.rxError 0 (zeros 16385) default).wf = false ∧
    (Instr.tunnelFrameReceive (zeros 16385) 0).wf = false := by decide +kernel

theorem test_wf_edges : (Instr.canFrameValid 0 (2 ^ 29) 0 0 0 0 [] 0).wf = false ∧
    (Instr.canFrameValid 0 0 256 0 0 0 [] 0).wf = false ∧ (Instr.canFrameValid 0 0 0 (2 ^ 32) 0 0 [] 0).wf = false ∧
    (Instr.canFrameValid 0 0 0 0 256 0 [] 0).wf = false ∧ (Instr.canFrameValid 0 0 0 0 0 256 [] 0).wf = false ∧
    (Instr.canFrameValid 0 0 0 0 0 0 (zeros 2049) 0).wf = false ∧ (Instr.canFrameValid 0 1 0 0 0 0 [1] 0).wf = true ∧
    (Instr.linFrameReceived 0 0 (zeros 9) 0 0).wf = false ∧ (Instr.uartMessageEnd 0 (zeros 2049) 0 true).wf = false ∧
    (Instr.canWakeFrame 0 (2 ^ 29) 0 []).wf = false ∧ (Instr.canWakeFrame 0 0 0 (zeros 9)).wf = false := by decide +kernel

theorem test_wf_others : (Instr.syncReceive 0 0 (2 ^ 96) 0).wf = false ∧ (Instr.mkaFrameReceive 0 (.activate 4)).wf = false ∧
    (Instr.mkaFrameReceive 0 (.install 512 0 (zeros 48) [])).wf = false ∧
    (Instr.mkaFrameReceive 0 (.install 0 512 (zeros 48) [])).wf = false ∧
    (Instr.mkaFrameReceive 0 (.install 0 0 (zeros 47) [])).wf = false ∧
    (Instr.mkaFrameReceive 0 (.install 0 0 (zeros 48) (zeros 33))).wf = false ∧ (Instr.mkaFrameReceive 0 (.delete 512)).wf = false ∧
    (Instr.mkaFrameReceive 0 (.peer true)).wf = true ∧ (Instr.inrushEnd 0 65536).wf = false ∧
    (Instr.droverLoop [0] false).wf = false ∧ (Instr.measurementSample default).wf = false ∧
    (Instr.lldpReceive 0 [] [] 65536).wf = false ∧ (Instr.sealCheckDone [(4194304, 0)]).wf = false ∧
    (Instr.sealCheckDone [(4194303, 0)]).wf = true ∧ (Instr.prepareDone []).wf = true := by decide +kernel

theorem test_wf_payload : (∀ p : Bytes, p.length = 65536 → (Instr.sysPing 0 0 p).wf = false) ∧ (Instr.sysPing 0 0 [1]).wf = true :=
  ⟨fun _ h => decide_eq_false (by rw [h]; decide), by decide +kernel⟩

end

end Sys2Proof.Tests
end

/-! The direct window: REGISTER_WRITE of one 32-bit register, and the test controls. -/

namespace Sys2Proof.Machine

/-- REGISTER_WRITE of an aligned 32-bit register, over any transport that reaches the window, is the write of that register (R25,
R26): a PCIe host's other registers start only at 0x0040_0000. -/
theorem exec_registerWrite_word (s : State) (t : Transport) (a : Nat) (v : Word) (hreach : s.reaches t = true)
    (ha : a < 0x40000) (h4 : a % 4 = 0) : exec (.registerWrite t a (wordBytes v)) s = s.regWrite t a v := by
  have hbar0 : ¬(t.val < 16 ∧ 0x400000 ≤ a) := by omega
  calc exec (.registerWrite t a (wordBytes v)) s
      = execRegisterWrite t a (wordBytes v) s := rfl
    _ = s.windowWrite t a (wordBytes v) := if_neg hbar0
    _ = s.regWrite t a v := windowWrite_word s t a v hreach ha h4

/-- The first page of register space holds the HIU registers. -/
theorem regWrite_hiu (s : State) (t : Transport) (a : Nat) (v : Word) (ha : a < 0x1000) :
    s.regWrite t a v = s.hiuWrite t a v := if_pos ha

/-- A write of HIU_TEST (R8): the value it reads goes back without effect, any other stops the machine. -/
@[simp] theorem hiuWrite_test (s : State) (t : Transport) (v : Word) :
    s.hiuWrite t 0x18 v = if v = s.hiu.test then .next s else .fault .testControl := rfl

/-- Settles O16: the write reaches HIU_TEST through the window, and there the value decides. -/
theorem testControlsMustBeWrittenBack : Obligations.TestControlsMustBeWrittenBack := by
  intro s t v hreach
  rw [exec_registerWrite_word s t 0x18 v hreach (by decide) (by decide), regWrite_hiu s t 0x18 v (by decide), hiuWrite_test]

end Sys2Proof.Machine

/-! What the errors of a window access, and what events, leave alone. -/

namespace Sys2Proof.Machine

variable (s : State)

@[simp] theorem State.hiuError_boot (t : Transport) (addr bit : Nat) : (s.hiuError t addr bit).boot = s.boot := by
  unfold State.hiuError
  dsimp only
  split
  · split
    · split <;> simp
    · simp
  · rfl

@[simp] theorem State.permErr_boot (t : Transport) (addr : Nat) : (s.permErr t addr).boot = s.boot :=
  s.hiuError_boot t addr _

@[simp] theorem State.spiBusy_boot (t : Transport) : (s.spiBusy t).boot = s.boot := by
  unfold State.spiBusy
  split <;> rfl

@[simp] theorem State.bootRefuse_boot (t : Transport) (addr : Nat) : (s.bootRefuse t addr).boot = s.boot := by
  unfold State.bootRefuse
  rw [State.permErr_boot]
  split <;> simp

theorem State.sendEnvelope_crypt (n k : Nat) (msg : Bytes) : (s.sendEnvelope n k msg).crypt = s.crypt := by
  unfold State.sendEnvelope
  split <;> rfl

theorem State.storeEvent_crypt (n : Nat) (entry : Bytes) : (s.storeEvent n entry).crypt = s.crypt :=
  State.setCause_crypt _ n 1

theorem State.event_crypt (n ev : Nat) (data : Bytes) : (s.event n ev data).crypt = s.crypt := by
  unfold State.event
  dsimp only
  split
  · exact State.sendEnvelope_crypt _ n 3 _
  · split
    · rfl
    · exact State.storeEvent_crypt _ n _

end Sys2Proof.Machine

/-! The chunk that GO has handed over (R95). -/

namespace Sys2Proof.Machine

/-- A write of BOOT_XFER while GO reads 1 is refused or ignored: the boot ROM keeps what it holds. -/
theorem bootXferWrite_boot_of_go (s : State) (t : Transport) (addr v : Nat) (hgo : s.boot.go = true) :
    (s.bootXferWrite t addr v).boot = s.boot := by
  unfold State.bootXferWrite
  rw [if_pos hgo]
  split
  · exact s.bootRefuse_boot t addr
  · rfl

/-- A write inside the landing buffer before firmware runs (R535). -/
theorem exec_landingBufferWrite (s : State) (t : Transport) (off : Nat) (data : Bytes) (hreach : s.reaches t = true)
    (hrun : s.running = false) (hne : data ≠ []) (hin : off + data.length ≤ landingSize) :
    exec (.landingBufferWrite t off data) s = thenDo (s.landingWrite t off data) .next := by
  have hpos : 0 < data.length := List.length_pos_iff.mpr hne
  simp only [landingSize] at hin
  have hoff : 0x100000 + off % landingSize = 0x100000 + off := by simp only [landingSize]; omega
  have haddr : (0x100000 + off) % 0x400000 = 0x100000 + off := by omega
  have hbuf : s.windowWrite t (0x100000 + off) data = s.bufWrite t off data := by
    unfold State.windowWrite
    rw [haddr, if_neg (by simp [hreach, hne]), if_neg (by omega), if_neg (by omega), if_pos (by omega), Nat.add_sub_cancel_left]
  have hmost : data.take (0x80000 - off) = data := List.take_of_length_le (by omega)
  have hland : data.take (landingSize - off) = data := List.take_of_length_le (by simp only [landingSize]; omega)
  calc exec (.landingBufferWrite t off data) s
      = s.windowWrite t (0x100000 + off % landingSize) data := rfl
    _ = s.bufWrite t off data := by rw [hoff, hbuf]
    _ = thenDo (s.landingWrite t off data) .next := by
        have hfits : ¬ 0x80000 - off < data.length := by omega
        have hlow : ¬ landingSize ≤ off := by simp only [landingSize]; omega
        simp [State.bufWrite, hrun, hlow, hmost, hland, hfits]

/-- Settles O23: GO shuts BOOT_XFER to both of its rows, and lets no other byte into the landing buffer. -/
theorem chunkIsFrozenWhileGo : Obligations.ChunkIsFrozenWhileGo := by
  intro s t v off data hreach hgo
  have hwrite (w : Word) : ∃ q, exec (.registerWrite t 0x4008 (wordBytes w)) s = .next q ∧ q.boot = s.boot :=
    ⟨_, exec_registerWrite_word s t 0x4008 w hreach (by decide) (by decide), bootXferWrite_boot_of_go s t 0x4008 _ hgo⟩
  refine ⟨?_, hwrite v, ?_⟩
  · exact ⟨_, wordWrite_reg s t 0x4008 _ hreach (by decide) (by decide), bootXferWrite_boot_of_go s t 0x4008 _ hgo⟩
  · intro hrun hopen hne hin hchanged
    rw [exec_landingBufferWrite s t off data hreach hrun hne hin, State.landingWrite, if_neg (by simp [hopen]),
      if_pos (by simp [hgo, hchanged])]
    rfl

end Sys2Proof.Machine

/-! The random source, key agreement, remasking and the JTAG unlock. -/

namespace Sys2Proof.Machine

/-- Settles O45: with firmware running each row's own condition is met, and it answers its effect; the report of a failed health test
leaves the random source as the failure has set it. -/
theorem cipherRowsAct : Obligations.CipherRowsAct := by
  intro s k p a token hrun
  refine ⟨⟨_, congrArg Host.Outcome.next (if_pos hrun), ?_⟩, congrArg Host.Outcome.next (if_pos hrun), fun hmka => ?_,
    fun hroll => ?_, fun hlen hopen => ?_⟩
  · simp [State.event_crypt]
  · exact congrArg Host.Outcome.next (if_pos (by simp [hrun, hmka]))
  · exact congrArg Host.Outcome.next (if_pos (by simp [hrun, hroll]))
  · exact congrArg Host.Outcome.next (if_pos (by simp [hrun, hlen, hopen]))

end Sys2Proof.Machine

/-! The vendor keys revoked in the fuses (R101): which steps leave them alone. For each operation of the model one lemma says that it
leaves the boot ROM's registers (`_boot`), or, where it writes those, the fused revocations (`_keyrevFused`). The ones that hold by
computation are proved `by rfl`, which keeps `simp` and the kernel from unfolding the state to use them. -/

namespace Sys2Proof.Machine

/-- What an outcome may do to the vendor keys revoked in the fuses: nothing. -/
structure KeepsRevoked (s : State) (r : Res) : Prop where
  same : ∀ t, r = .next t → t.boot.keyrevFused = s.boot.keyrevFused

@[simp] theorem keepsRevoked_next (s t : State) : KeepsRevoked s (.next t) ↔ t.boot.keyrevFused = s.boot.keyrevFused :=
  ⟨fun h => h.same t rfl, fun h => ⟨fun _ e => by cases e; exact h⟩⟩

@[simp] theorem keepsRevoked_fault (s : State) (e : Fault) : KeepsRevoked s (.fault e) := ⟨fun _ h => by cases h⟩

theorem KeepsRevoked.of_boot {s t : State} (h : t.boot = s.boot) : KeepsRevoked s (.next t) :=
  (keepsRevoked_next s t).mpr (congrArg Boot.keyrevFused h)

theorem KeepsRevoked.of_same {s u : State} {r : Res} (h : KeepsRevoked u r) (hu : u.boot = s.boot) : KeepsRevoked s r where
  same t ht := by rw [h.same t ht, hu]

theorem KeepsRevoked.ite {c : Prop} [Decidable c] {s : State} {a b : Res} (ha : KeepsRevoked s a) (hb : KeepsRevoked s b) :
    KeepsRevoked s (if c then a else b) := by
  split
  · exact ha
  · exact hb

theorem KeepsRevoked.thenDo {s : State} {r : Res} {f : State → Res} (hr : KeepsRevoked s r) (hf : ∀ u, KeepsRevoked u (f u)) :
    KeepsRevoked s (thenDo r f) where
  same t ht := by
    cases r with
    | next u => exact ((hf u).same t ht).trans (hr.same u rfl)
    | fault e => cases ht
    | refused e => cases ht

/-- What a read may do to the boot ROM's registers: nothing. -/
structure KeepsBoot {α : Type} (s : State) (o : Option (α × State)) : Prop where
  same : ∀ v t, o = some (v, t) → t.boot = s.boot

theorem keepsBoot_none {α : Type} (s : State) : KeepsBoot s (none : Option (α × State)) := ⟨fun _ _ h => by cases h⟩

theorem KeepsBoot.some {α : Type} {s : State} {r : α × State} (h : r.2.boot = s.boot) : KeepsBoot s (some r) :=
  ⟨fun _ _ e => by cases e; exact h⟩

theorem KeepsBoot.map {α β : Type} {s t : State} {o : Option (α × State)} (h : KeepsBoot t o) (ht : t.boot = s.boot) (f : α → β) :
    KeepsBoot s (o.map fun r => (f r.1, r.2)) := by
  cases o with
  | none => exact keepsBoot_none s
  | some r => exact .some ((h.same r.1 r.2 rfl).trans ht)

theorem keepsBoot_pure {α : Type} (s : State) (o : Option α) : KeepsBoot s (o.map fun v => (v, s)) := by
  cases o with
  | none => exact keepsBoot_none s
  | some v => exact .some rfl

theorem KeepsBoot.ite {α : Type} {s : State} {c : Prop} [Decidable c] {a b : Option (α × State)} (ha : KeepsBoot s a)
    (hb : KeepsBoot s b) : KeepsBoot s (if c then a else b) := by
  split
  · exact ha
  · exact hb

/-- Every read of this kind keeps the boot ROM's registers. -/
structure ReadKeepsBoot (f : State → Transport → Nat → Nat × State) : Prop where
  same : ∀ s t a, KeepsBoot s (some (f s t a))

/-- No write of this kind changes the vendor keys revoked in the fuses. -/
structure WriteKeepsRevoked (f : State → Transport → Nat → Word → Res) : Prop where
  same : ∀ s t a v, KeepsRevoked s (f s t a v)

@[simp] theorem State.boot_ite (c : Prop) [Decidable c] (a b : State) :
    (if c then a else b).boot = if c then a.boot else b.boot := apply_ite State.boot c a b

@[simp] theorem keyrevFused_ite (c : Prop) [Decidable c] (a b : Boot) :
    (if c then a else b).keyrevFused = if c then a.keyrevFused else b.keyrevFused := apply_ite Boot.keyrevFused c a b

@[simp] theorem snd_ite {α : Type} (c : Prop) [Decidable c] (a b : α × State) :
    (if c then a else b).2 = if c then a.2 else b.2 := apply_ite Prod.snd c a b

theorem snd_boot_ite {α : Type} {c : Prop} [Decidable c] {s : State} {a b : α × State} (ha : a.2.boot = s.boot)
    (hb : b.2.boot = s.boot) : (if c then a else b).2.boot = s.boot := by
  split
  · exact ha
  · exact hb

@[simp] theorem fst_ite {α : Type} (c : Prop) [Decidable c] (a b : State × α) :
    (if c then a else b).1 = if c then a.1 else b.1 := apply_ite Prod.fst c a b

/-- The state of a pair that a match has taken apart. -/
theorem boot_of_eq {α : Type} {s t : State} {a : α} {p : α × State} (h : p = (a, t)) (hp : p.2.boot = s.boot) : t.boot = s.boot := by
  rw [← hp, h]

variable (s : State)

@[simp] theorem doIf_boot (c : Bool) {f : State → State} (h : (f s).boot = s.boot) : (doIf c f s).boot = s.boot := by
  unfold doIf
  split
  · exact h
  · rfl

@[simp] theorem forAll_boot {α : Type} (l : List α) {f : α → State → State} (h : ∀ a (u : State), (f a u).boot = u.boot) :
    (forAll l f s).boot = s.boot := forAll_keeps _ _ State.boot h

/-! Frame of the shared operations: counters, outputs, causes, window errors, events, the life of a command. -/

@[simp] theorem State.modStats_boot (n : Nat) (f : SlotStats → SlotStats) : (s.modStats n f).boot = s.boot := by rfl
@[simp] theorem State.railBit_boot (r : Nat) (good : Bool) : (s.railBit r good).boot = s.boot := by rfl
@[simp] theorem State.setOwner_boot (ty i n : Nat) : (s.setOwner ty i n).boot = s.boot := by rfl
@[simp] theorem State.modFn_boot (f : Nat) (g : PcieFn → PcieFn) : (s.modFn f g).boot = s.boot := by rfl
@[simp] theorem State.msixSend_boot (f : Fin 16) (v : Nat) : (s.msixSend f v).boot = s.boot := by simp [State.msixSend]
@[simp] theorem State.pcieDown_boot : s.pcieDown.boot = s.boot := by rfl
@[simp] theorem State.messagesSince_boot (n : Nat) (before : Evu) : (s.messagesSince n before).boot = s.boot := by
  simp [State.messagesSince]
@[simp] theorem State.messagesAll_boot (n : Nat) : (s.messagesAll n).boot = s.boot := by simp [State.messagesAll]
@[simp] theorem State.lockErr_boot (t : Transport) (addr : Nat) : (s.lockErr t addr).boot = s.boot := by simp [State.lockErr]
@[simp] theorem State.decodeErr_boot (t : Transport) (addr : Nat) : (s.decodeErr t addr).boot = s.boot := by simp [State.decodeErr]
@[simp] theorem State.sizeErr_boot (t : Transport) (addr : Nat) : (s.sizeErr t addr).boot = s.boot := by simp [State.sizeErr]
@[simp] theorem State.bootStateTo_keyrevFused (b : BootState) : (s.bootStateTo b).boot.keyrevFused = s.boot.keyrevFused := by
  simp [State.bootStateTo]

@[simp] theorem State.sendEnvelope_boot (n flags : Nat) (msg : Bytes) : (s.sendEnvelope n flags msg).boot = s.boot := by
  unfold State.sendEnvelope
  split <;> simp

@[simp] theorem State.storeEvent_boot (n : Nat) (entry : Bytes) : (s.storeEvent n entry).boot = s.boot := by simp [State.storeEvent]
@[simp] theorem State.event_boot (n ev : Nat) (data : Bytes) : (s.event n ev data).boot = s.boot := by simp [State.event]
@[simp] theorem State.eventTwo_boot (a b ev : Nat) (data : Bytes) : (s.eventTwo a b ev data).boot = s.boot := by simp [State.eventTwo]
@[simp] theorem State.eventOpen_boot (ev : Nat) (data : Bytes) : (s.eventOpen ev data).boot = s.boot := by simp [State.eventOpen]
@[simp] theorem State.finishJob_boot (n : Nat) (tag op status : Half) (result : Bytes) :
    (s.finishJob n tag op status result).boot = s.boot := by simp [State.finishJob]

@[simp] theorem State.writeDone_boot (n : Nat) : (s.writeDone n).boot = s.boot := by
  unfold State.writeDone
  dsimp only
  (repeat' split) <;> simp

@[simp] theorem State.writeHeld_boot (n k : Nat) : (s.writeHeld n k).boot = s.boot := by
  induction k generalizing s with
  | zero => rfl
  | succ k ih => simp [State.writeHeld, ih]

@[simp] theorem State.answerFront_boot (n : Nat) (a : Answer) : (s.answerFront n a).boot = s.boot := by
  unfold State.answerFront
  split <;> simp

@[simp] theorem State.answerStarted_boot (n : Nat) (tag op : Half) (a : Answer) : (s.answerStarted n tag op a).boot = s.boot := by
  unfold State.answerStarted
  split <;> simp

@[simp] theorem State.take_boot (n : Nat) (op tag : Half) (payload : Bytes) (now : Option Answer) :
    (s.take n op tag payload now).boot = s.boot := by
  unfold State.take
  split <;> simp

/-! Frame of segments. -/

@[simp] theorem State.segEvent_boot (n : Nat) (st : SegState) (cause : Nat) : (s.segEvent n st cause).boot = s.boot := by
  simp [State.segEvent]
@[simp] theorem State.segMark_boot (n : Nat) (st : SegState) : (s.segMark n st).boot = s.boot := by rfl
@[simp] theorem State.segTo_boot (n : Nat) (st : SegState) (cause : Nat) : (s.segTo n st cause).boot = s.boot := by simp [State.segTo]
@[simp] theorem State.segSettle_boot : s.segSettle.boot = s.boot := by simp [State.segSettle]
@[simp] theorem State.segWoke_boot (n src : Nat) : (s.segWoke n src).boot = s.boot := by simp [State.segWoke]

/-! Frame of CAN controllers. -/

@[simp] theorem State.canEvent_boot (c cause : Nat) : (s.canEvent c cause).boot = s.boot := by simp [State.canEvent]
@[simp] theorem State.ringFate_boot (r : RingRef) (status : Nat) (stamp : Option Nat) : (s.ringFate r status stamp).boot = s.boot := by
  rfl

@[simp] theorem State.refFailed_boot (r : Option RingRef) (lifetime : Bool) : (s.refFailed r lifetime).boot = s.boot := by
  unfold State.refFailed
  split <;> simp

@[simp] theorem State.canFail_boot (c : Nat) (k : CanCtr) (t : CanTx) : (s.canFail c k t).boot = s.boot := by simp [State.canFail]

@[simp] theorem State.feedCan_boot (c : Nat) : (s.feedCan c).boot = s.boot := by
  unfold State.feedCan
  dsimp only
  (repeat' split) <;> simp

@[simp] theorem State.arbitrate_boot (c : Nat) : (s.arbitrate c).boot = s.boot := by simp [State.arbitrate]
@[simp] theorem State.canTo_boot (c : Nat) (st : CanState) (cause : Nat) : (s.canTo c st cause).boot = s.boot := by simp [State.canTo]

@[simp] theorem State.applyWaiting_boot (c k : Nat) : (s.applyWaiting c k).boot = s.boot := by
  induction k generalizing s with
  | zero => rfl
  | succ k ih =>
    unfold State.applyWaiting
    split
    · rfl
    · simp [ih]

@[simp] theorem State.applyWanted_boot (c : Nat) : (s.applyWanted c).boot = s.boot := by simp [State.applyWanted]

@[simp] theorem State.canSent_boot (c k : Nat) (t : CanTx) (stamp : Nat) : (s.canSent c k t stamp).boot = s.boot := by
  unfold State.canSent
  split <;> simp

@[simp] theorem State.canErred_boot (c k : Nat) (t : CanTx) : (s.canErred c k t).boot = s.boot := by simp [State.canErred]
@[simp] theorem State.canLost_boot (c k : Nat) (t : CanTx) : (s.canLost c k t).boot = s.boot := by simp [State.canLost]

@[simp] theorem State.attemptEnd_boot (c outcome stamp : Nat) : (s.attemptEnd c outcome stamp).boot = s.boot := by
  unfold State.attemptEnd
  (repeat' split) <;> simp

@[simp] theorem State.canExpire_boot (c : Nat) : (s.canExpire c).boot = s.boot := by simp [State.canExpire]
@[simp] theorem State.canFlush_boot (c mask : Nat) : (s.canFlush c mask).2.boot = s.boot := by simp [State.canFlush]
@[simp] theorem State.enqueueCan_boot (c : Nat) (t : CanTx) : (s.enqueueCan c t).2.boot = s.boot := by simp [State.enqueueCan]

@[simp] theorem State.canStore_boot (c f : Nat) (frame : CanFrame) (sof : Nat) : (s.canStore c f frame sof).boot = s.boot := by
  unfold State.canStore
  dsimp only
  (repeat' split) <;> simp

@[simp] theorem State.recDown_boot (c : Nat) : (s.recDown c).boot = s.boot := by simp [State.recDown]

@[simp] theorem State.detectEnd_boot (c : Nat) (winner : Option Nat) : (s.detectEnd c winner).boot = s.boot := by
  unfold State.detectEnd
  split <;> simp

@[simp] theorem State.canValid_boot (c : Nat) (f : CanFrame) (sof : Nat) : (s.canValid c f sof).boot = s.boot := by
  unfold State.canValid
  dsimp only
  (repeat' split) <;> simp

@[simp] theorem State.busOff_boot (c : Nat) : (s.busOff c).boot = s.boot := by
  unfold State.busOff
  dsimp only
  (repeat' split) <;> simp

@[simp] theorem State.canError_boot (c code : Nat) (primary : Bool) : (s.canError c code primary).boot = s.boot := by
  simp [State.canError]
@[simp] theorem State.canRecover_boot (c cause : Nat) : (s.canRecover c cause).boot = s.boot := by simp [State.canRecover]
@[simp] theorem State.canRecovered_boot (c : Nat) : (s.canRecovered c).boot = s.boot := by simp [State.canRecovered]

@[simp] theorem State.vcc5To_boot (good : Bool) : (s.vcc5To good).boot = s.boot := by
  unfold State.vcc5To
  dsimp only
  split
  · rfl
  · rw [forAll_boot]
    · simp
    · intro c u
      (repeat' split) <;> simp

/-! Frame of CAN commands. -/

@[simp] theorem State.canListen_boot (c : Nat) : (s.canListen c).boot = s.boot := by simp [State.canListen]

/-! Frame of LIN and UART channels. -/

@[simp] theorem State.linTo_boot (c st cause segCause : Nat) : (s.linTo c st cause segCause).boot = s.boot := by simp [State.linTo]

@[simp] theorem State.applyLinWaiting_boot (c k : Nat) : (s.applyLinWaiting c k).boot = s.boot := by
  induction k generalizing s with
  | zero => rfl
  | succ k ih =>
    unfold State.applyLinWaiting
    split
    · rfl
    · simp [ih]

@[simp] theorem State.applyLin_boot (c : Nat) : (s.applyLin c).boot = s.boot := by simp [State.applyLin]
@[simp] theorem State.linFrameEnds_boot (c : Nat) : (s.linFrameEnds c).boot = s.boot := by simp [State.linFrameEnds]
@[simp] theorem State.linRespond_boot (c id len : Nat) : (s.linRespond c id len).boot = s.boot := by rfl
@[simp] theorem State.linHeader_boot (c id ty : Nat) : (s.linHeader c id ty).boot = s.boot := by simp [State.linHeader]

@[simp] theorem State.linEntry_boot (c : Nat) (e : Bytes) : (s.linEntry c e).boot = s.boot := by
  unfold State.linEntry
  split <;> simp

@[simp] theorem State.linSchedule_boot (c : Nat) : (s.linSchedule c).boot = s.boot := by
  unfold State.linSchedule
  dsimp only
  (repeat' split) <;> simp

@[simp] theorem State.linHeaderIn_boot (c id : Nat) (syncOk : Bool) : (s.linHeaderIn c id syncOk).boot = s.boot := by
  simp [State.linHeaderIn]

@[simp] theorem State.overran_boot (k : Ctr) (ty c : Nat) (x0 : Option (Option Nat)) : (s.overran k ty c x0).boot = s.boot := by
  unfold State.overran
  split <;> simp

@[simp] theorem State.linStore_boot (c id : Nat) (data : Bytes) (stamp : Nat) : (s.linStore c id data stamp).boot = s.boot := by
  simp [State.linStore]
@[simp] theorem State.linCollision_boot (c : Nat) : (s.linCollision c).boot = s.boot := by rfl

@[simp] theorem State.linFrame_boot (c id : Nat) (data : Bytes) (stamp error : Nat) : (s.linFrame c id data stamp error).boot = s.boot := by
  unfold State.linFrame
  split <;> simp

@[simp] theorem State.linTimeout_boot (c : Nat) (partly : Bool) : (s.linTimeout c partly).boot = s.boot := by simp [State.linTimeout]
@[simp] theorem State.linWake_boot (c segCause : Nat) : (s.linWake c segCause).boot = s.boot := by simp [State.linWake]
@[simp] theorem State.linDriveWake_boot (c : Nat) : (s.linDriveWake c).boot = s.boot := by rfl
@[simp] theorem State.enqueueUart_boot (c : Nat) (t : SerTx) : (s.enqueueUart c t).2.boot = s.boot := by simp [State.enqueueUart]

@[simp] theorem State.applyUartWaiting_boot (c k : Nat) : (s.applyUartWaiting c k).boot = s.boot := by
  induction k generalizing s with
  | zero => rfl
  | succ k ih =>
    unfold State.applyUartWaiting
    split
    · rfl
    · simp [ih]

@[simp] theorem State.applyUart_boot (c : Nat) : (s.applyUart c).boot = s.boot := by simp [State.applyUart]
@[simp] theorem State.uartStore_boot (c : Nat) (d : Bytes) (stamp : Nat) (bad : Bool) : (s.uartStore c d stamp bad).boot = s.boot := by
  simp [State.uartStore]
@[simp] theorem State.uartMessage_boot (c : Nat) (data : Bytes) (stamp : Nat) (bad : Bool) :
    (s.uartMessage c data stamp bad).boot = s.boot := by simp [State.uartMessage]

@[simp] theorem State.uartSent_boot (c : Nat) : (s.uartSent c).boot = s.boot := by
  unfold State.uartSent
  dsimp only
  (repeat' split) <;> simp

@[simp] theorem State.uartCollision_boot (c : Nat) : (s.uartCollision c).boot = s.boot := by
  unfold State.uartCollision
  dsimp only
  (repeat' split) <;> simp

@[simp] theorem State.uartExpire_boot (c : Nat) : (s.uartExpire c).boot = s.boot := by simp [State.uartExpire]

/-! Frame of LIN and serial commands. -/

@[simp] theorem State.linPublish_boot (c id : Nat) (data : Bytes) : (s.linPublish c id data).boot = s.boot := by rfl
@[simp] theorem State.uartListen_boot (c : Nat) : (s.uartListen c).boot = s.boot := by simp [State.uartListen]

@[simp] theorem State.modSerFifo_boot (v : Nat) (f : Fifo → Fifo) : (s.modSerFifo v f).boot = s.boot := by
  unfold State.modSerFifo
  split <;> simp

/-! Frame of the ledger. -/

@[simp] theorem State.modMandate_boot (i : Nat) (f : Mandate → Mandate) : (s.modMandate i f).boot = s.boot := by rfl
@[simp] theorem State.touch_boot (kind res : Nat) : (s.touch kind res).boot = s.boot := by rfl
@[simp] theorem State.touchPodl_boot (p : Nat) (on : Bool) : (s.touchPodl p on).boot = s.boot := by rfl

@[simp] theorem State.ledgerAt_boot (i : Nat) (m : Mandate) (d : Decision) (effect : Nat) : (s.ledgerAt i m d effect).boot = s.boot := by
  unfold State.ledgerAt
  (repeat' split) <;> simp

@[simp] theorem State.ledger_boot (i : Nat) (d : Decision) : (s.ledger i d).boot = s.boot := by simp [State.ledger]
@[simp] theorem State.duePort_boot (p : Nat) (powered hostOff : Bool) : (s.duePort p powered hostOff).boot = s.boot := by
  simp [State.duePort]
@[simp] theorem State.ledgerPorts_boot (i : Nat) (d : Decision) (ports : Nat) : (s.ledgerPorts i d ports).boot = s.boot := by
  simp [State.ledgerPorts]

/-! Frame of meters, filters and gates of stage 4. -/

@[simp] theorem State.sendAgent_boot (p dst etype : Nat) : (s.sendAgent p dst etype).boot = s.boot := by rfl
@[simp] theorem State.sendLldp_boot (p : Nat) : (s.sendLldp p).boot = s.boot := by simp [State.sendLldp]
@[simp] theorem State.sendMka_boot (p : Nat) : (s.sendMka p).boot = s.boot := by simp [State.sendMka]
@[simp] theorem State.modMeter_boot (i : Nat) (f : Meter → Meter) : (s.modMeter i f).boot = s.boot := by rfl

@[simp] theorem State.chargeMeter_boot (i : Nat) (inYellow : Bool) (l : Nat) : (s.chargeMeter i inYellow l).2.2.boot = s.boot := by
  unfold State.chargeMeter
  dsimp only
  (repeat' split) <;> simp

@[simp] theorem State.creditMeter_boot (c : Charge) (n : Int) : (s.creditMeter c n).boot = s.boot := by rfl
@[simp] theorem State.refundAll_boot (cs : List Charge) : (s.refundAll cs).boot = s.boot := by simp [State.refundAll]
@[simp] theorem State.correctAll_boot (cs : List Charge) (len : Nat) : (s.correctAll cs len).boot = s.boot := by
  simp [State.correctAll]

/-! Frame of the cell buffer. -/

@[simp] theorem State.modQueue_boot (p tc : Nat) (f : Queue → Queue) : (s.modQueue p tc f).boot = s.boot := by rfl
@[simp] theorem State.modEgr_boot (p : Nat) (f : Egress → Egress) : (s.modEgr p f).boot = s.boot := by rfl
@[simp] theorem State.modFrame_boot (id : Nat) (f : Frame → Frame) : (s.modFrame id f).boot = s.boot := by rfl
@[simp] theorem State.modWaybill_boot (id : Nat) (f : Waybill → Waybill) : (s.modWaybill id f).boot = s.boot := by rfl
@[simp] theorem State.chargeCells_boot (ingress : Nat) (reserve : Bool) (n : Int) : (s.chargeCells ingress reserve n).boot = s.boot := by
  rfl
@[simp] theorem State.addDepth_boot (p tc : Nat) (n : Int) : (s.addDepth p tc n).boot = s.boot := by rfl
@[simp] theorem State.markWaybills_boot : s.markWaybills.boot = s.boot := by rfl

@[simp] theorem State.settleFrame_boot (fid : Nat) : (s.settleFrame fid).boot = s.boot := by
  unfold State.settleFrame
  split <;> simp

@[simp] theorem State.endShaperHold_boot (p tc : Nat) : (s.endShaperHold p tc).boot = s.boot := by
  unfold State.endShaperHold
  split <;> simp

@[simp] theorem State.freeWaybill_boot (w : Waybill) : (s.freeWaybill w).boot = s.boot := by simp [State.freeWaybill]
@[simp] theorem State.dropCopy_boot (w : Waybill) (ds : Nat) : (s.dropCopy w ds).boot = s.boot := by simp [State.dropCopy]

@[simp] theorem State.correctCells_boot (fid : Nat) : (s.correctCells fid).boot = s.boot := by
  unfold State.correctCells
  split
  · rfl
  · dsimp only
    split
    · rfl
    · exact forAll_keeps _ _ State.boot fun _ _ => rfl

@[simp] theorem State.deliverCopy_boot (w : Waybill) : (s.deliverCopy w).boot = s.boot := by simp [State.deliverCopy]
@[simp] theorem State.modPhy_boot (p : Nat) (f : Phy → Phy) : (s.modPhy p f).boot = s.boot := by rfl
@[simp] theorem State.countCopy_boot (w : Waybill) (c : Ctr) : (s.countCopy w c).boot = s.boot := by simp [State.countCopy]
@[simp] theorem State.flushCopies_boot (p : Nat) (l : List Waybill) : (s.flushCopies p l).boot = s.boot := by simp [State.flushCopies]
@[simp] theorem State.flushPort_boot (p : Nat) : (s.flushPort p).boot = s.boot := by simp [State.flushPort]
@[simp] theorem State.secDown_boot (p : Nat) : (s.secDown p).boot = s.boot := by simp [State.secDown]
@[simp] theorem State.secUp_boot (p : Nat) : (s.secUp p).boot = s.boot := by rfl

@[simp] theorem State.abortLine_boot (p : Nat) : (s.abortLine p).boot = s.boot := by
  unfold State.abortLine
  dsimp only
  (repeat' split) <;> simp

@[simp] theorem State.egressDown_boot (p ms : Nat) : (s.egressDown p ms).boot = s.boot := by simp [State.egressDown]
@[simp] theorem State.egressUp_boot (p : Nat) : (s.egressUp p).boot = s.boot := by rfl

/-! Frame of rulings on a frame. -/

@[simp] theorem State.modCustoms_boot (f : Customs → Customs) : (s.modCustoms f).boot = s.boot := by rfl
@[simp] theorem State.quarantine_boot (m cause rule : Nat) : (s.quarantine m cause rule).boot = s.boot := by simp [State.quarantine]
@[simp] theorem State.releaseQuarantine_boot (m cause : Nat) : (s.releaseQuarantine m cause).boot = s.boot := by
  simp [State.releaseQuarantine]
@[simp] theorem State.converse_boot (k : ConvKey) (src dst : Nat) (fin create : Bool) :
    (s.converse k src dst fin create).boot = s.boot := by simp [State.converse]
@[simp] theorem State.convFullFrame_boot : s.convFullFrame.boot = s.boot := by simp [State.convFullFrame]

@[simp] theorem State.canCheck_boot (source id fmtBit vcid sdt : Nat) : (s.canCheck source id fmtBit vcid sdt).2.boot = s.boot := by
  unfold State.canCheck
  dsimp only
  (repeat' split) <;> simp

/-! Frame of a frame on its way in. -/

@[simp] theorem State.newWaybill_boot (fr : Frame) (c : Copy) (st : WbState) (untagged : Nat) (cut : Bool) (n : Nat) (seq : Option Nat) :
    (s.newWaybill fr c st untagged cut n seq).boot = s.boot := by simp [State.newWaybill]

@[simp] theorem State.intake_boot (x : Intake) (fr : Frame) (copies mirrors : List Copy) (untagged : Nat) (seq : Option Nat) :
    (s.intake x fr copies mirrors untagged seq).2.boot = s.boot := by
  unfold State.intake
  extract_lets made s1 mm s2 all n reserve step r kept s3 whole heldAhead prov st s4 s5 s6 s7 s8
  have hstep (a : List Copy × State × List (Nat × Nat)) (c : Copy) : (step a c).2.1.boot = a.2.1.boot := by
    simp only [step]
    split
    · exact a.2.1.count_boot ..
    · exact a.2.1.count_boot ..
  have h3 : s3.boot = s.boot :=
    List.foldlRecOn (motive := fun a : List Copy × State × List (Nat × Nat) => a.2.1.boot = s.boot) _ _
      ((s1.count_boot ..).trans (s.count_boot ..)) fun a ha c _ => (hstep a c).trans ha
  have h5 : s5.boot = s.boot := by simp [s5, s4, h3]
  split
  · exact h3
  · split
    · exact h3
    · simp [s8, s7, s6, h5]

@[simp] theorem State.classify_boot (x : Intake) : (s.classify x).2.boot = s.boot := by
  unfold State.classify
  extract_lets e0 h mac strict no cfg tagged tvid prio vid acc admitted v pcp dei tc0 cu member src matching key hs se handle fi fMax
    est e1 gi gate blocked shut tc1 tc2 ds gen set raw zonesOf verdicts whole hits zv keep kept0 ruleOf winners0 winners low kept counts
    lowZone lowV quar denied e2 m1 m2 c1 s1 c2 s2 charges colour red mir s3 s4 seq recov frame0 fr a
  clear_value ds gen m1 m2
  have h1 : s1.boot = s.boot := by
    simp only [s1, c1]
    split
    · exact s.chargeMeter_boot ..
    · rfl
  have h2 : s2.boot = s.boot := by
    simp only [s2, c2]
    split
    · exact (s1.chargeMeter_boot ..).trans h1
    · exact h1
  have hrefund : (s2.refundAll charges).boot = s.boot := (s2.refundAll_boot charges).trans h2
  have h4 : s4.boot = s.boot := by
    simp only [s4, s3]
    split <;> simp [h2]
  have ha : a.2.boot = s.boot := (s4.intake_boot ..).trans h4
  refine snd_boot_ite rfl <| snd_boot_ite rfl <| snd_boot_ite rfl <| snd_boot_ite rfl <| snd_boot_ite (s.modNet_boot _) <|
    snd_boot_ite rfl <| snd_boot_ite hrefund ?_
  split
  · exact hrefund
  · refine snd_boot_ite hrefund <| snd_boot_ite ((State.refundAll_boot ..).trans ((s2.count_boot ..).trans h2)) ?_
    split
    · exact (State.refundAll_boot ..).trans ha
    · exact ha

/-! Frame of a frame that has ended. -/

@[simp] theorem State.countOutcome_boot (p : Nat) (c : Cause) (sec : Nat) : (s.countOutcome p c sec).boot = s.boot := by
  simp [State.countOutcome]
@[simp] theorem State.countStale_boot (v : MacView) (c : Cause) (sec : Nat) : (s.countStale v c sec).boot = s.boot := by
  simp [State.countStale]

@[simp] theorem State.applyEnds_boot (ingress slot : Nat) (e : EndFacts) : (s.applyEnds ingress slot e).boot = s.boot := by
  unfold State.applyEnds
  (repeat' split) <;> simp

@[simp] theorem State.countRefused_boot (p slot : Nat) (c : Cause) (sec : Nat) (e : EndFacts) :
    (s.countRefused p slot c sec e).boot = s.boot := by simp [State.countRefused]
@[simp] theorem State.modFdb_boot (f : Tbl FdbEntry → Tbl FdbEntry) : (s.modFdb f).boot = s.boot := by rfl

@[simp] theorem State.learnSource_boot (f : Frame) : (s.learnSource f).boot = s.boot := by
  unfold State.learnSource
  dsimp only
  (repeat' split) <;> simp

@[simp] theorem State.modRec_boot (x : Nat × Nat) (f : Recovery → Recovery) : (s.modRec x f).boot = s.boot := by rfl

@[simp] theorem State.recover_boot (f : Frame) : (s.recover f).2.boot = s.boot := by
  unfold State.recover
  dsimp only
  (repeat' split) <;> simp

@[simp] theorem State.modSa_boot (i : Nat) (f : Sa → Sa) : (s.modSa i f).boot = s.boot := by rfl
@[simp] theorem State.modSaRun_boot (i run : Nat) (f : Sa → Sa) : (s.modSaRun i run f).boot = s.boot := by simp [State.modSaRun]
@[simp] theorem State.retireSa_boot (i : Nat) : (s.retireSa i).boot = s.boot := by rfl
@[simp] theorem State.moveReplay_boot (p : Nat) (v : MacView) (i pn : Nat) : (s.moveReplay p v i pn).boot = s.boot := by
  simp [State.moveReplay]
@[simp] theorem State.usePn_boot (i p owner : Nat) : (s.usePn i p owner).2.boot = s.boot := by simp [State.usePn]
@[simp] theorem State.countRx_boot (f : Frame) : (s.countRx f).boot = s.boot := by simp [State.countRx]
@[simp] theorem State.confirmWaybills_boot (fid : Nat) : (s.confirmWaybills fid).boot = s.boot := by rfl
@[simp] theorem State.revokeCopies_boot (fid : Nat) : (s.revokeCopies fid).boot = s.boot := by simp [State.revokeCopies]

@[simp] theorem State.converseAll_boot (f : Frame) : (s.converseAll f).boot = s.boot := by
  unfold State.converseAll
  split <;> simp

@[simp] theorem State.countMeters_boot (f : Frame) : (s.countMeters f).boot = s.boot := by simp [State.countMeters]

@[simp] theorem State.confirmFrame_boot (fid : Nat) : (s.confirmFrame fid).boot = s.boot := by
  unfold State.confirmFrame
  split
  · rfl
  · next f _ =>
    extract_lets s1 s2 ends s3 e s4 s5 s6 s7 s8 s9 s10 s11 s12 s13
    have h5 : s5.boot = s.boot := by simp [s5, s4, e, s3, s2, s1]
    have h10 : s10.boot = s.boot := by simp [s10, s9, s8, s7, s6, h5]
    have h11 : s11.boot = s.boot := by simp only [s11]; cases f.filter <;> simp [h10]
    have h12 : s12.boot = s.boot := by simp only [s12]; cases f.streamEntry <;> simp [h11]
    have h13 : s13.boot = s.boot := by simp only [s13]; cases f.mac.sa <;> simp [h12]
    simp [h5, h13]

@[simp] theorem State.revokeFrame_boot (fid : Nat) (bytes : Bytes) : (s.revokeFrame fid bytes).boot = s.boot := by
  unfold State.revokeFrame
  split <;> simp

@[simp] theorem State.ruleFrame_boot (fid : Nat) : (s.ruleFrame fid).boot = s.boot := by
  unfold State.ruleFrame
  dsimp only
  (repeat' split) <;> simp

@[simp] theorem State.wholeFrame_boot (x : Intake) : (s.wholeFrame x).2.boot = s.boot := by
  unfold State.wholeFrame
  dsimp only
  (repeat' split) <;> simp

/-! Frame of the key table. -/

@[simp] theorem State.setKey_boot (i : Nat) (k : KeySlot) : (s.setKey i k).boot = s.boot := by rfl
@[simp] theorem State.putDerived_boot (i : Nat) (parent : Bytes) : (s.putDerived i parent).2.boot = s.boot := by
  simp [State.putDerived]

@[simp] theorem State.computeKey_boot (i fuel : Nat) : (s.computeKey i fuel).2.boot = s.boot := by
  induction fuel generalizing s i with
  | zero => rfl
  | succ fuel ih =>
    unfold State.computeKey
    extract_lets k q
    split
    · rfl
    · split
      · exact s.putDerived_boot ..
      · split
        · rfl
        · split
          · rfl
          · split
            all_goals next h => simp [boot_of_eq h (ih ..)]

@[simp] theorem State.staleUse_boot (a : Answer) : (s.staleUse a).boot = s.boot := by simp [State.staleUse]

@[simp] theorem State.useKey_boot (host : Option Nat) (i use : Nat) (algs : List Nat) :
    (s.useKey host i use algs).2.boot = s.boot := by
  unfold State.useKey
  extract_lets k masked
  split
  · rfl
  · split
    · simp
    · split
      all_goals next h => simp [boot_of_eq h (s.computeKey_boot i 9)]

@[simp] theorem State.staleUsers_boot (l : List Nat) : (s.staleUsers l).boot = s.boot :=
  forAll_keeps _ _ State.boot fun p u => by
    split
    · split <;> simp
    · rfl

@[simp] theorem State.markStale_boot (root : Nat) (self : Bool) : (s.markStale root self).2.boot = s.boot := by simp [State.markStale]
@[simp] theorem State.keyEvent_boot (i cause marked : Nat) : (s.keyEvent i cause marked).boot = s.boot := by simp [State.keyEvent]
@[simp] theorem State.invalidateKey_boot (i cause : Nat) : (s.invalidateKey i cause).2.boot = s.boot := by simp [State.invalidateKey]
@[simp] theorem State.rewriteKey_boot (i : Nat) (k : KeySlot) : (s.rewriteKey i k).boot = s.boot := by simp [State.rewriteKey]
@[simp] theorem State.eraseKey_boot (i : Nat) : (s.eraseKey i).2.boot = s.boot := by simp [State.eraseKey]

/-! Frame of authenticated CAN frames. -/

@[simp] theorem State.modProfile_boot (i : Nat) (f : Profile → Profile) : (s.modProfile i f).boot = s.boot := by rfl

@[simp] theorem State.profileKey_boot (x : Profile) (use : Nat) : (s.profileKey x use).2.boot = s.boot := by
  unfold State.profileKey
  extract_lets i
  split
  · simp
  · split
    all_goals next h => exact boot_of_eq h (s.useKey_boot ..)

@[simp] theorem State.cansecKey_boot (x : Profile) (use : Nat) : (s.cansecKey x use).2.boot = s.boot := by
  unfold State.cansecKey
  split
  · rfl
  · split
    · rfl
    · split
      · simp
      · split
        · simp
        · extract_lets i
          split
          all_goals next h => exact boot_of_eq h (s.useKey_boot ..)

@[simp] theorem State.authCheck_boot (source : Nat) (f : CanFrame) : (s.authCheck source f).2.boot = s.boot := by
  unfold State.authCheck
  split
  · rfl
  · extract_lets failed
    have hfailed (u : State) : (failed u).2.boot = u.boot := by simp [failed]
    split
    · split
      · next h => simp [hfailed, boot_of_eq h (s.profileKey_boot ..)]
      · next h => split <;> simp [hfailed, boot_of_eq h (s.profileKey_boot ..)]
    · split
      · exact hfailed s
      · split
        · next h => simp [hfailed, boot_of_eq h (s.cansecKey_boot ..)]
        · next h => split <;> simp [hfailed, boot_of_eq h (s.cansecKey_boot ..)]

@[simp] theorem State.useFresh_boot (i fv : Nat) : (s.useFresh i fv).boot = s.boot := by simp [State.useFresh]

@[simp] theorem State.authProtect_boot (dest : Nat) (pad : BitVec 8) (f : CanFrame) : (s.authProtect dest pad f).2.boot = s.boot := by
  unfold State.authProtect
  split
  · rfl
  · split
    · split
      · simp
      · split
        all_goals next h => simp [boot_of_eq h (s.profileKey_boot ..)]
    · split
      · rfl
      · extract_lets k a
        split
        · simp
        · split
          all_goals next h => simp [boot_of_eq h (s.cansecKey_boot ..)]

/-! Frame of key commands. -/

@[simp] theorem State.eraseKeys_boot (l : List Nat) : (s.eraseKeys l).2.boot = s.boot := by
  induction l generalizing s with
  | nil => rfl
  | cons i is ih => simp [State.eraseKeys, ih]

@[simp] theorem State.drawMasks_boot : s.drawMasks.boot = s.boot := by rfl

/-! Frame of the cipher interface. -/

@[simp] theorem State.powerChanged_boot : s.powerChanged.boot = s.boot := by simp [State.powerChanged]
@[simp] theorem State.overCeiling_boot (cause : Nat) : (s.overCeiling cause).boot = s.boot := by simp [State.overCeiling]
@[simp] theorem State.checkBaseline_boot : s.checkBaseline.boot = s.boot := by simp [State.checkBaseline]
@[simp] theorem State.ask_boot (k : GrantKind) (requester : Nat) (again : Bool) : (s.ask k requester again).boot = s.boot := by rfl
@[simp] theorem State.release_boot (k : GrantKind) (requester : Nat) : (s.release k requester).boot = s.boot := by
  simp [State.release]
@[simp] theorem State.immediate_boot (p : Nat) : (s.immediate p).2.boot = s.boot := by simp [State.immediate]

/-! Frame of MACsec and the random source. -/

@[simp] theorem State.modMac_boot (p : Nat) (f : MacPort → MacPort) : (s.modMac p f).boot = s.boot := by rfl
@[simp] theorem State.installSa_boot (i : Nat) (record : Bytes) (mka : Bool) : (s.installSa i record mka).boot = s.boot := by rfl

@[simp] theorem State.selectSa_boot (p i : Nat) : (s.selectSa p i).boot = s.boot := by
  unfold State.selectSa
  split <;> simp

@[simp] theorem State.freeSa_boot (i : Nat) : (s.freeSa i).boot = s.boot := by
  unfold State.freeSa
  dsimp only
  (repeat' split) <;> simp

@[simp] theorem State.modCdi_boot (f : Cdi → Cdi) : (s.modCdi f).boot = s.boot := by rfl
@[simp] theorem State.cdiEnd_boot : s.cdiEnd.boot = s.boot := by rfl
@[simp] theorem State.cdiRelease_boot : s.cdiRelease.boot = s.boot := by rfl
@[simp] theorem State.cdiDrop_boot (n : Nat) : (s.cdiDrop n).boot = s.boot := by simp [State.cdiDrop]
@[simp] theorem State.cdiFail_boot (err : Nat) : (s.cdiFail err).boot = s.boot := by rfl

@[simp] theorem State.cdiOpen_boot : s.cdiOpen.boot = s.boot := by
  unfold State.cdiOpen
  dsimp only
  split
  · simp
  · split
    all_goals next h => simp [boot_of_eq h (State.useKey_boot ..)]

@[simp] theorem State.cdiGo_boot : s.cdiGo.boot = s.boot := by simp [State.cdiGo]

@[simp] theorem State.cdiFinal_boot (b : CdiBlock) (data : Bytes) : (s.cdiFinal b data).boot = s.boot := by
  unfold State.cdiFinal
  dsimp only
  (repeat' split) <;> simp

@[simp] theorem State.cdiBlockDone_boot : s.cdiBlockDone.boot = s.boot := by
  unfold State.cdiBlockDone
  split <;> simp

theorem cdiHeld_keepsRevoked {t : Transport} {f : State → State} (h : (f s).boot = s.boot) : KeepsRevoked s (cdiHeld t f s) :=
  .ite (.of_boot h) (keepsRevoked_fault s _)
@[simp] theorem cdiLockWrite_boot (t : Transport) (v : Word) (s : State) : (cdiLockWrite t v s).boot = s.boot := by
  simp [cdiLockWrite]
@[simp] theorem cdiRead_boot (t : Transport) (off : Nat) (s : State) : (cdiRead t off s).2.boot = s.boot := by simp [cdiRead]

/-! Frame of transmission gates. -/

@[simp] theorem State.modPg_boot (p : Nat) (f : PortGate → PortGate) : (s.modPg p f).boot = s.boot := by rfl
@[simp] theorem State.gateChangedEvent_boot (p : Nat) : (s.gateChangedEvent p).boot = s.boot := by simp [State.gateChangedEvent]
@[simp] theorem State.preemptTo_boot (p : Nat) (st : PreemptStatus) : (s.preemptTo p st).boot = s.boot := by simp [State.preemptTo]
@[simp] theorem State.preemptStart_boot (p : Nat) : (s.preemptStart p).boot = s.boot := by simp [State.preemptStart]
@[simp] theorem State.assertHold_boot (p : Nat) : (s.assertHold p).boot = s.boot := by simp [State.assertHold]
@[simp] theorem State.gateChange_boot (p : Nat) : (s.gateChange p).boot = s.boot := by simp [State.gateChange]

/-! Frame of cells across the fabric. -/

@[simp] theorem State.tagHead_boot (p tc : Nat) : (s.tagHead p tc).boot = s.boot := by
  unfold State.tagHead
  split <;> simp

@[simp] theorem State.catchUp_boot (p : Nat) : (s.catchUp p).boot = s.boot := by simp [State.catchUp]
@[simp] theorem State.dropHeadTag_boot (p tc : Nat) : (s.dropHeadTag p tc).boot = s.boot := by simp [State.dropHeadTag]
@[simp] theorem State.countTx_boot (p tc len : Nat) (early : Bool) : (s.countTx p tc len early).boot = s.boot := by
  simp [State.countTx]
@[simp] theorem State.innerArrive_boot (w : Waybill) (f : Frame) : (s.innerArrive w f).boot = s.boot := by simp [State.innerArrive]

@[simp] theorem State.crossCell_boot (w : Waybill) : (s.crossCell w).boot = s.boot := by
  unfold State.crossCell
  dsimp only
  (repeat' split) <;> simp

@[simp] theorem State.countHeld_boot : s.countHeld.boot = s.boot := by simp [State.countHeld]

@[simp] theorem State.cellTime_boot : s.cellTime.boot = s.boot := by
  unfold State.cellTime
  extract_lets s1 feeds heads reqs m0 m s2 s3
  have h2 : s2.boot = s1.boot := forAll_keeps _ _ State.boot fun r u => by split <;> simp
  have h3 : s3.boot = s.boot := by simp [s3, h2, s1]
  refine (forAll_keeps _ _ State.boot fun p u => ?_).trans h3
  dsimp only
  split
  · rfl
  · split <;> simp

/-! Frame of the time unit. -/

@[simp] theorem State.fabricTick_boot (step : Int) : (s.fabricTick step).boot = s.boot := by rfl
@[simp] theorem State.fireAlarm_boot (n : Nat) (late : Bool) : (s.fireAlarm n late).boot = s.boot := by simp [State.fireAlarm]
@[simp] theorem State.commitAlarm_boot (n : Nat) : (s.commitAlarm n).boot = s.boot := by simp [State.commitAlarm]
@[simp] theorem State.ioLevel_boot (n : Nat) (pulse : Bool) : (s.ioLevel n pulse).boot = s.boot := by rfl
@[simp] theorem State.commitIo_boot (n : Nat) : (s.commitIo n).boot = s.boot := by simp [State.commitIo]
@[simp] theorem State.ioEdge_boot (n : Nat) : (s.ioEdge n).boot = s.boot := by simp [State.ioEdge]
@[simp] theorem State.keepCapture_boot (n : Nat) (c : Capture) : (s.keepCapture n c).boot = s.boot := by simp [State.keepCapture]
@[simp] theorem State.captureEdge_boot (n : Nat) (falling : Bool) : (s.captureEdge n falling).boot = s.boot := by
  simp [State.captureEdge]
@[simp] theorem State.filterEnd_boot (n : Nat) (high : Bool) (c : Capture) : (s.filterEnd n high c).boot = s.boot := by
  simp [State.filterEnd]
@[simp] theorem State.newEpoch_boot (cause : Nat) : (s.newEpoch cause).boot = s.boot := by simp [State.newEpoch]
@[simp] theorem State.modGptp_boot (i : Nat) (f : Gptp → Gptp) : (s.modGptp i f).boot = s.boot := by rfl
@[simp] theorem State.gptpTo_boot (i : Nat) (st : GptpState) : (s.gptpTo i st).boot = s.boot := by simp [State.gptpTo]
@[simp] theorem State.gptpResume_boot : s.gptpResume.boot = s.boot := by simp [State.gptpResume]

/-! Frame of egress. -/

@[simp] theorem State.dropHead_boot (p tc : Nat) (c : QCtr) (ds : Nat) : (s.dropHead p tc c ds).boot = s.boot := by
  unfold State.dropHead
  split <;> simp

@[simp] theorem State.dropHeads_boot (p tc startPs n : Nat) : (s.dropHeads p tc startPs n).boot = s.boot := by
  induction n generalizing s with
  | zero => rfl
  | succ n ih =>
    unfold State.dropHeads
    split
    · simp [ih]
    · rfl

@[simp] theorem State.countMiss_boot (p tc startPs : Nat) : (s.countMiss p tc startPs).boot = s.boot := by
  unfold State.countMiss
  split <;> simp

@[simp] theorem State.trackShaper_boot (p tc startPs : Nat) : (s.trackShaper p tc startPs).boot = s.boot := by
  unfold State.trackShaper
  split <;> simp

@[simp] theorem State.takePn_boot (p : Nat) (policy : Bytes) (etype : Nat) : (s.takePn p policy etype).2.boot = s.boot := by
  unfold State.takePn
  (repeat' split) <;> simp

@[simp] theorem State.beginEgress_boot (p tc startPs : Nat) (cut : Option Nat) : (s.beginEgress p tc startPs cut).boot = s.boot := by
  unfold State.beginEgress
  split <;> simp

@[simp] theorem State.pauseLine_boot (p : Nat) (l : OnLine) (k : Nat) : (s.pauseLine p l k).boot = s.boot := by
  unfold State.pauseLine
  dsimp only
  (repeat' split) <;> simp

@[simp] theorem State.chooseIdle_boot (p startPs : Nat) : (s.chooseIdle p startPs).boot = s.boot := by
  unfold State.chooseIdle
  dsimp only
  (repeat' split) <;> simp

@[simp] theorem State.chooseOver_boot (p startPs : Nat) (l : OnLine) : (s.chooseOver p startPs l).boot = s.boot := by
  unfold State.chooseOver
  split <;> simp

@[simp] theorem State.choose_boot (p startPs : Nat) : (s.choose p startPs).boot = s.boot := by
  unfold State.choose
  dsimp only
  (repeat' split) <;> simp

@[simp] theorem State.finishTx_boot (p : Nat) (l : OnLine) (w : Waybill) (f : Frame) : (s.finishTx p l w f).boot = s.boot := by
  simp [State.finishTx]

@[simp] theorem State.txComplete_boot (p : Nat) (l : OnLine) : (s.txComplete p l).boot = s.boot := by
  unfold State.txComplete
  (repeat' split) <;> simp

@[simp] theorem State.refillAll_boot : s.refillAll.boot = s.boot := by simp [State.refillAll]

@[simp] theorem State.countOverrun_boot (p ns : Nat) : (s.countOverrun p ns).boot = s.boot := by
  unfold State.countOverrun
  (repeat' split) <;> simp

@[simp] theorem State.holdCut_boot (p : Nat) : (s.holdCut p).boot = s.boot := by
  unfold State.holdCut
  (repeat' split) <;> simp

@[simp] theorem State.nextEntry_boot (p : Nat) : (s.nextEntry p).boot = s.boot := by
  unfold State.nextEntry
  split <;> simp

@[simp] theorem State.entriesTo_boot (p k n : Nat) : (s.entriesTo p k n).boot = s.boot := by
  induction n generalizing s with
  | zero => rfl
  | succ n ih => simp [State.entriesTo, ih]

@[simp] theorem State.verifyTimeout_boot (p : Nat) : (s.verifyTimeout p).boot = s.boot := by simp [State.verifyTimeout]
@[simp] theorem State.holdExpiry_boot (p : Nat) : (s.holdExpiry p).boot = s.boot := by simp [State.holdExpiry]

/-! Frame of redundancy. -/

@[simp] theorem State.modRed_boot (f : Red → Red) : (s.modRed f).boot = s.boot := by rfl
@[simp] theorem State.modMember_boot (p : Nat) (f : Member → Member) : (s.modMember p f).boot = s.boot := by rfl
@[simp] theorem State.redEvent_boot (ev : Nat) (data : Bytes) : (s.redEvent ev data).boot = s.boot := by simp [State.redEvent]

@[simp] theorem State.protTo_boot (st : ProtState) (onB : Bool) (found : Option Nat) : (s.protTo st onB found).boot = s.boot := by
  unfold State.protTo
  (repeat' split) <;> simp

@[simp] theorem State.protect_boot : s.protect.boot = s.boot := by
  unfold State.protect
  split <;> simp

@[simp] theorem State.judgeMembers_boot : s.judgeMembers.boot = s.boot := by simp [State.judgeMembers]
@[simp] theorem State.noteSqi_boot (p : Nat) : (s.noteSqi p).boot = s.boot := by rfl
@[simp] theorem State.sendProbe_boot (p : Nat) : (s.sendProbe p).boot = s.boot := by simp [State.sendProbe]
@[simp] theorem State.takeProbe_boot (p flags seq : Nat) : (s.takeProbe p flags seq).boot = s.boot := by simp [State.takeProbe]
@[simp] theorem State.latentCheck_boot (i : Nat) (r : Recovery) : (s.latentCheck i r).2.boot = s.boot := by simp [State.latentCheck]
@[simp] theorem State.newSecond_boot : s.newSecond.boot = s.boot := by simp [State.newSecond]

@[simp] theorem State.healthReport_boot : s.healthReport.boot = s.boot := by
  unfold State.healthReport
  extract_lets l s1 r m data
  have hl : l.2.boot = s.boot := by
    refine List.foldlRecOn (motive := fun a : Nat × State => a.2.boot = s.boot) _ _ rfl fun a ha e _ => ?_
    split
    · exact (a.2.latentCheck_boot ..).trans ha
    · exact ha
  simp [s1, hl]

@[simp] theorem State.redResume_boot : s.redResume.boot = s.boot := by simp [State.redResume]

/-! Frame of ports and links. -/

@[simp] theorem State.dropPartner_boot (p : Nat) : (s.dropPartner p).boot = s.boot := by rfl
@[simp] theorem State.touchPartner_boot (p : Nat) : (s.touchPartner p).boot = s.boot := by rfl
@[simp] theorem State.linkTo_boot (p : Nat) (st : LinkState) (cause flags : Nat) : (s.linkTo p st cause flags).boot = s.boot := by
  simp [State.linkTo]
@[simp] theorem State.linkDown_boot (p : Nat) (st : LinkState) (cause hold : Nat) : (s.linkDown p st cause hold).boot = s.boot := by
  simp [State.linkDown]
@[simp] theorem State.linkUpNow_boot (p sqi cause : Nat) : (s.linkUpNow p sqi cause).boot = s.boot := by simp [State.linkUpNow]
@[simp] theorem State.trainNow_boot (p cause : Nat) : (s.trainNow p cause).boot = s.boot := by simp [State.trainNow]
@[simp] theorem State.startTraining_boot (p cause : Nat) : (s.startTraining p cause).boot = s.boot := by simp [State.startTraining]
@[simp] theorem State.failedFull_boot (p : Nat) : (s.failedFull p).boot = s.boot := by simp [State.failedFull]
@[simp] theorem State.rejectFast_boot (p : Nat) : (s.rejectFast p).boot = s.boot := by simp [State.rejectFast]
@[simp] theorem State.attemptFails_boot (p : Nat) : (s.attemptFails p).boot = s.boot := by simp [State.attemptFails]
@[simp] theorem State.trainingDone_boot (p : Nat) (ok : Bool) (sqi : Nat) : (s.trainingDone p ok sqi).boot = s.boot := by
  simp [State.trainingDone]
@[simp] theorem State.commitMode_boot (p : Nat) : (s.commitMode p).boot = s.boot := by simp [State.commitMode]
@[simp] theorem State.sampleSqi_boot (p sqi : Nat) : (s.sampleSqi p sqi).boot = s.boot := by simp [State.sampleSqi]

/-! Frame of the commit unit. -/

@[simp] theorem State.commitQueue_boot (q : Nat) : (s.commitQueue q).boot = s.boot := by simp [State.commitQueue]
@[simp] theorem State.commitBlock_boot (block : Nat) : (s.commitBlock block).boot = s.boot := by simp [State.commitBlock]
@[simp] theorem State.applyCommit_boot (mask : BitVec 16) : (s.applyCommit mask).boot = s.boot := by simp [State.applyCommit]
@[simp] theorem State.commitGroupOf_boot (block : Nat) : (s.commitGroupOf block).boot = s.boot := by simp [State.commitGroupOf]
@[simp] theorem State.maybeCommit_boot (commit block : Nat) : (s.maybeCommit commit block).boot = s.boot := by
  simp [State.maybeCommit]
@[simp] theorem State.fireTimed_boot (late : Bool) : (s.fireTimed late).boot = s.boot := by simp [State.fireTimed]

/-! Frame of power over the line. -/

@[simp] theorem State.modPodl_boot (p : Nat) (f : Podl → Podl) : (s.modPodl p f).boot = s.boot := by rfl
@[simp] theorem State.podlTo_boot (p : Nat) (st : PodlState) (cause : Nat) : (s.podlTo p st cause).boot = s.boot := by
  simp [State.podlTo]
@[simp] theorem State.podlFault_boot (p cause : Nat) : (s.podlFault p cause).boot = s.boot := by simp [State.podlFault]
@[simp] theorem State.podlOn_boot (p : Nat) : (s.podlOn p).boot = s.boot := by simp [State.podlOn]

@[simp] theorem State.boardOffer_boot (p k : Nat) : (s.boardOffer p k).boot = s.boot := by
  induction k generalizing s p with
  | zero => rfl
  | succ k ih => simp [State.boardOffer, ih]

@[simp] theorem State.inrushEnd_boot (p current : Nat) : (s.inrushEnd p current).boot = s.boot := by simp [State.inrushEnd]
@[simp] theorem State.podlCurrent_boot (p : Nat) : (s.podlCurrent p).2.boot = s.boot := by simp [State.podlCurrent]

/-! Frame of wake requests. -/

@[simp] theorem State.portSleep_boot (p cause segCause : Nat) : (s.portSleep p cause segCause).boot = s.boot := by
  simp [State.portSleep]
@[simp] theorem State.podlBack_boot (p : Nat) : (s.podlBack p).boot = s.boot := by simp [State.podlBack]
@[simp] theorem State.portWake_boot (p cause : Nat) : (s.portWake p cause).boot = s.boot := by simp [State.portWake]
@[simp] theorem State.wakeSegment_boot (n cause src : Nat) : (s.wakeSegment n cause src).boot = s.boot := by simp [State.wakeSegment]
@[simp] theorem State.wakeSegments_boot (mask cause src : Nat) : (s.wakeSegments mask cause src).boot = s.boot := by
  simp [State.wakeSegments]
@[simp] theorem State.sendNm_boot (c : Nat) : (s.sendNm c).boot = s.boot := by simp [State.sendNm]
@[simp] theorem State.sleepSegment_boot (n cause : Nat) : (s.sleepSegment n cause).boot = s.boot := by simp [State.sleepSegment]
@[simp] theorem State.segAsleep_boot (n : Nat) : (s.segAsleep n).boot = s.boot := by simp [State.segAsleep]

/-! Frame of port commands. -/

@[simp] theorem State.podlCommand_boot (p : Nat) (on : Bool) : (s.podlCommand p on).boot = s.boot := by simp [State.podlCommand]
@[simp] theorem State.countUnseen_boot (p : Nat) : (s.countUnseen p).boot = s.boot := by simp [State.countUnseen]

/-! Frame of frames for a host. -/

@[simp] theorem State.nextGen_boot : s.nextGen.boot = s.boot := by rfl
@[simp] theorem State.swapCustoms_boot (w : Swap) : (s.swapCustoms w).boot = s.boot := by simp [State.swapCustoms]
@[simp] theorem State.swapRoutes_boot (w : Swap) : (s.swapRoutes w).boot = s.boot := by rfl

@[simp] theorem State.answerSwap_boot (w : Swap) (op : Nat) : (s.answerSwap w op).boot = s.boot := by
  unfold State.answerSwap
  split <;> simp

@[simp] theorem State.retireCustoms_boot (w : Swap) : (s.retireCustoms w).boot = s.boot := by simp [State.retireCustoms]
@[simp] theorem State.retireRoutes_boot (w : Swap) : (s.retireRoutes w).boot = s.boot := by simp [State.retireRoutes]
@[simp] theorem State.retireStreams_boot (w : Swap) : (s.retireStreams w).boot = s.boot := by simp [State.retireStreams]
@[simp] theorem State.retireAll_boot : s.retireAll.boot = s.boot := by simp [State.retireAll]
@[simp] theorem State.fireSwaps_boot : s.fireSwaps.boot = s.boot := by simp [State.fireSwaps]

/-! Frame of tunnels. -/

@[simp] theorem State.modTunnel_boot (t : Nat) (f : Tunnel → Tunnel) : (s.modTunnel t f).boot = s.boot := by rfl

@[simp] theorem State.sendTunnel_boot (t : Nat) : (s.sendTunnel t).boot = s.boot := by
  unfold State.sendTunnel
  dsimp only
  (repeat' split) <;> simp

@[simp] theorem State.joinTunnel_boot (t : Nat) (m : Bytes) (launch : Option Nat) (flush : Bool) :
    (s.joinTunnel t m launch flush).boot = s.boot := by simp [State.joinTunnel]

@[simp] theorem State.tunnelFrameIn_boot (bytes : Bytes) (stamp : Nat) : (s.tunnelFrameIn bytes stamp).boot = s.boot := by
  unfold State.tunnelFrameIn
  dsimp only
  (repeat' split) <;> simp

/-! Frame of the relay engines. -/

@[simp] theorem State.setHome_boot (c e : Nat) : (s.setHome c e).boot = s.boot := by rfl
@[simp] theorem State.modEngine_boot (e : Nat) (f : EngineRec → EngineRec) : (s.modEngine e f).boot = s.boot := by rfl
@[simp] theorem State.modRelayFifo_boot (c f : Nat) (g : Fifo → Fifo) : (s.modRelayFifo c f g).boot = s.boot := by
  simp [State.modRelayFifo]

@[simp] theorem State.takeFrame_boot (c : Nat) : (s.takeFrame c).2.boot = s.boot := by
  unfold State.takeFrame
  (repeat' split) <;> simp

@[simp] theorem State.routeOut_boot (i : Nat) (r : Bytes) (m : RMsg) : (s.routeOut i r m).2.boot = s.boot := by
  unfold State.routeOut
  split
  · simp
  · split <;> simp

@[simp] theorem State.routeOuts_boot (m : RMsg) (l : List (Nat × Bytes)) : (s.routeOuts m l).2.boot = s.boot := by
  induction l generalizing s with
  | nil => rfl
  | cons r l ih => simp [State.routeOuts, ih]

@[simp] theorem State.forwardWake_boot (o : ROut) : (s.forwardWake o).boot = s.boot := by
  unfold State.forwardWake
  split <;> simp

@[simp] theorem State.toCan_boot (o : ROut) (f : CanFrame) (ring : Option RingRef) : (s.toCan o f ring).2.boot = s.boot := by
  simp [State.toCan]
@[simp] theorem State.toLin_boot (o : ROut) (f : CanFrame) : (s.toLin o f).2.boot = s.boot := by simp [State.toLin]
@[simp] theorem State.toUart_boot (o : ROut) (f : CanFrame) : (s.toUart o f).2.boot = s.boot := by simp [State.toUart]
@[simp] theorem State.toTunnel_boot (o : ROut) (m : RMsg) (f : CanFrame) : (s.toTunnel o m f).2.boot = s.boot := by
  simp [State.toTunnel]

@[simp] theorem State.deliverOut_boot (e number : Nat) (m : RMsg) (o : ROut) : (s.deliverOut e number m o).2.boot = s.boot := by
  unfold State.deliverOut
  extract_lets asleep s1
  have h1 : s1.boot = s.boot := by simp [s1]
  split
  · simp
  · split
    all_goals next h => simp [boot_of_eq h (s1.authProtect_boot ..), h1]

@[simp] theorem State.modJob_boot (e number : Nat) (f : RJob → RJob) : (s.modJob e number f).boot = s.boot := by rfl

@[simp] theorem State.noteFate_boot (e number : Nat) (fate : Fate) : (s.noteFate e number fate).boot = s.boot := by
  unfold State.noteFate
  split <;> simp

@[simp] theorem State.keepLast_boot (o : ROut) : (s.keepLast o).boot = s.boot := by simp [State.keepLast]
@[simp] theorem State.releaseOuts_boot (e number : Nat) (m : RMsg) (l : List ROut) : (s.releaseOuts e number m l).boot = s.boot := by
  simp [State.releaseOuts]

@[simp] theorem State.releaseEntry_boot (m : RMsg) : (s.releaseEntry m).boot = s.boot := by
  unfold State.releaseEntry
  split <;> simp

@[simp] theorem State.answerRing_boot (m : RMsg) (delivered : Bool) (pendingTs : Nat) (refused : Option Half) :
    (s.answerRing m delivered pendingTs refused).boot = s.boot := by
  unfold State.answerRing
  (repeat' split) <;> simp

@[simp] theorem State.endJob_boot (e number : Nat) : (s.endJob e number).boot = s.boot := by
  unfold State.endJob
  split <;> simp

@[simp] theorem State.settleJob_boot (e number : Nat) : (s.settleJob e number).boot = s.boot := by
  unfold State.settleJob
  split <;> simp

@[simp] theorem State.runJob_boot (e : Nat) (m : RMsg) (frame : Option CanFrame) : (s.runJob e m frame).boot = s.boot := by
  unfold State.runJob
  dsimp only
  (repeat' split) <;> simp

@[simp] theorem State.startJob_boot (e : Nat) : (s.startJob e).boot = s.boot := by
  unfold State.startJob
  extract_lets x
  split
  · rfl
  · split
    · rfl
    · split
      · next h => exact boot_of_eq h (s.takeFrame_boot _)
      · next h =>
        have ht := boot_of_eq h (s.takeFrame_boot _)
        extract_lets s1 s2 check s3 s4 v
        have h3 : s3.boot = s.boot := by simp [s3, check, s2, s1, ht]
        split
        · split <;> simp [s4, h3]
        · simp [v, h3]

@[simp] theorem State.faultEvent_boot : s.faultEvent.boot = s.boot := by simp [State.faultEvent]
@[simp] theorem State.latchFault_boot (cause e : Nat) : (s.latchFault cause e).boot = s.boot := by simp [State.latchFault]
@[simp] theorem State.checkCapacity_boot (e : Nat) : (s.checkCapacity e).boot = s.boot := by simp [State.checkCapacity]
@[simp] theorem State.engineTo_boot (e : Nat) (st : EngineState) (cause moved : Nat) : (s.engineTo e st cause moved).boot = s.boot := by
  simp [State.engineTo]
@[simp] theorem State.closeWindow_boot (e : Nat) : (s.closeWindow e).2.boot = s.boot := by simp [State.closeWindow]
@[simp] theorem State.abandonJobs_boot (e : Nat) : (s.abandonJobs e).boot = s.boot := by rfl
@[simp] theorem State.beginTest_boot (e : Nat) (fault : Bool) : (s.beginTest e fault).boot = s.boot := by simp [State.beginTest]

@[simp] theorem State.moveSources_boot (l : List Nat) : (s.moveSources l).2.boot = s.boot := by
  induction l generalizing s with
  | nil => rfl
  | cons c cs ih =>
    unfold State.moveSources
    split
    · rfl
    · simp [ih]

@[simp] theorem State.retireEngine_boot (e : Nat) : (s.retireEngine e).boot = s.boot := by simp [State.retireEngine]

@[simp] theorem State.answerTest_boot (e : Nat) (retired : Bool) : (s.answerTest e retired).boot = s.boot := by
  unfold State.answerTest
  split <;> simp

@[simp] theorem State.testEnd_boot (e : Nat) (passed : Bool) : (s.testEnd e passed).boot = s.boot := by simp [State.testEnd]
@[simp] theorem State.escortedFault_boot (e : Nat) (j : RJob) (cause : Nat) : (s.escortedFault e j cause).boot = s.boot := by
  simp [State.escortedFault]
@[simp] theorem State.replayWrites_boot (e : Nat) (j : RJob) : (s.replayWrites e j).boot = s.boot := by simp [State.replayWrites]
@[simp] theorem State.standardCheck_boot (e : Nat) (j : RJob) (strikes : List Strike) : (s.standardCheck e j strikes).boot = s.boot := by
  simp [State.standardCheck]
@[simp] theorem State.escortedCheck_boot (e : Nat) (j : RJob) (strikes : List Strike) : (s.escortedCheck e j strikes).boot = s.boot := by
  simp [State.escortedCheck]
@[simp] theorem State.hostWritten_boot (v : VOut) (ok : Bool) : (s.hostWritten v ok).boot = s.boot := by simp [State.hostWritten]

/-! Frame of customs commands. -/

@[simp] theorem State.modStaged_boot (f : Matrix → Matrix) : (s.modStaged f).boot = s.boot := by rfl
@[simp] theorem State.sweepConvs_boot : s.sweepConvs.boot = s.boot := by rfl

/-! Frame of relay commands. -/

@[simp] theorem State.debugPut_boot (e : Nat) (j : RJob) (p : RunPlace) (v : Word) : (s.debugPut e j p v).boot = s.boot := by
  unfold State.debugPut
  split <;> simp

@[simp] theorem State.debugEngine_boot (e : Nat) (a : DebugAction) : (s.debugEngine e a).boot = s.boot := by
  unfold State.debugEngine
  dsimp only
  (repeat' split) <;> simp

@[simp] theorem State.modCore_boot (c : Nat) (f : Core → Core) : (s.modCore c f).boot = s.boot := by rfl

@[simp] theorem State.debugCore_boot (c : Nat) (a : DebugAction) : (s.debugCore c a).boot = s.boot := by
  unfold State.debugCore
  split <;> simp

/-! Frame of power and grants. -/

@[simp] theorem State.domainTo_boot (d : Nat) (on : Bool) : (s.domainTo d on).boot = s.boot := by simp [State.domainTo]
@[simp] theorem State.edgesWake_boot : s.edgesWake.boot = s.boot := by simp [State.edgesWake]
@[simp] theorem State.give_boot (a : Ask) : (s.give a).boot = s.boot := by simp [State.give]

@[simp] theorem State.serve_boot (k : Nat) : (s.serve k).boot = s.boot := by
  induction k generalizing s with
  | zero => rfl
  | succ k ih =>
    unfold State.serve
    split
    · rfl
    · simp [ih]

@[simp] theorem State.memTestEnd_boot (fail : Option Nat) : (s.memTestEnd fail).boot = s.boot := by
  unfold State.memTestEnd
  split <;> simp

@[simp] theorem State.overdue_boot (g : Grant) : (s.overdue g).boot = s.boot := by
  unfold State.overdue
  split <;> simp

@[simp] theorem State.turnAway_boot (mine : List Ask) (k : Nat) : (s.turnAway mine k).boot = s.boot := by
  induction k generalizing s with
  | zero => rfl
  | succ k ih =>
    unfold State.turnAway
    split
    · rfl
    · split <;> simp [ih]

@[simp] theorem State.grantTick_boot : s.grantTick.boot = s.boot := by
  unfold State.grantTick
  dsimp only
  (repeat' split) <;> simp

/-! Frame of clock servo and synchronisation. -/

@[simp] theorem State.repositionIo_boot (n : Nat) : (s.repositionIo n).boot = s.boot := by simp [State.repositionIo]
@[simp] theorem State.stepClock_boot (step : Int) : (s.stepClock step).boot = s.boot := by simp [State.stepClock]
@[simp] theorem State.servo_boot (i : Nat) (offset : Int) : (s.servo i offset).boot = s.boot := by simp [State.servo]
@[simp] theorem State.syncReceive_boot (i : Nat) (gm : DWord) (domain : Nat) (rate : Int) :
    (s.syncReceive i gm domain rate).boot = s.boot := by simp [State.syncReceive]
@[simp] theorem State.sendGptp_boot (p len : Nat) (oneStep : Bool) : (s.sendGptp p len oneStep).boot = s.boot := by rfl
@[simp] theorem State.ownGrandmaster_boot (i : Nat) : (s.ownGrandmaster i).boot = s.boot := by simp [State.ownGrandmaster]

/-! Frame of resets. -/

@[simp] theorem State.inh0To_boot (on : Bool) : (s.inh0To on).boot = s.boot := by simp [State.inh0To]

@[simp] theorem State.inh1To_boot (on : Bool) : (s.inh1To on).boot = s.boot := by
  unfold State.inh1To
  dsimp only
  (repeat' split) <;> simp

@[simp] theorem State.assertInh_boot : s.assertInh.boot = s.boot := by simp [State.assertInh]
@[simp] theorem State.setResetCause_boot (bit : Nat) : (s.setResetCause bit).boot = s.boot := by rfl
@[simp] theorem State.coldState_keyrevFused : s.coldState.boot.keyrevFused = s.boot.keyrevFused := by rfl
@[simp] theorem State.resetDie_keyrevFused (cause : Nat) : (s.resetDie cause).boot.keyrevFused = s.boot.keyrevFused := by rfl
@[simp] theorem State.suspend_keyrevFused : s.suspend.boot.keyrevFused = s.boot.keyrevFused := by rfl

/-! Frame of sleep and wake. -/

@[simp] theorem State.phaseTo_boot (ph : Phase) (cause : Nat) : (s.phaseTo ph cause).boot = s.boot := by simp [State.phaseTo]
@[simp] theorem State.storeCoeffs_boot (p : Nat) : (s.storeCoeffs p).boot = s.boot := by simp [State.storeCoeffs]
@[simp] theorem State.podlAsleep_boot (p : Nat) : (s.podlAsleep p).boot = s.boot := by simp [State.podlAsleep]
@[simp] theorem State.prepareActions_boot : s.prepareActions.boot = s.boot := by simp [State.prepareActions]
@[simp] theorem State.sleepAdvance_boot : s.sleepAdvance.boot = s.boot := by simp [State.sleepAdvance]
@[simp] theorem State.beginSleep_boot (deep force : Bool) (quietMs timeoutMs : Nat) (request : Option (Nat × Half)) :
    (s.beginSleep deep force quietMs timeoutMs request).boot = s.boot := by simp [State.beginSleep]

@[simp] theorem State.sleepOutcome_boot (status src : Nat) (result : Bytes) : (s.sleepOutcome status src result).boot = s.boot := by
  unfold State.sleepOutcome
  (repeat' split) <;> simp

@[simp] theorem State.returnSegment_boot (n src : Nat) : (s.returnSegment n src).boot = s.boot := by simp [State.returnSegment]
@[simp] theorem State.askAgain_boot : s.askAgain.boot = s.boot := by simp [State.askAgain]
@[simp] theorem State.sleepReturn_boot (outcome cause src wakes : Nat) : (s.sleepReturn outcome cause src wakes).boot = s.boot := by
  simp [State.sleepReturn]
@[simp] theorem State.sleepAbort_boot (cause src wakes : Nat) : (s.sleepAbort cause src wakes).boot = s.boot := by
  simp [State.sleepAbort]

@[simp] theorem State.sleepTimeout_boot : s.sleepTimeout.boot = s.boot := by
  have huart (u : State) : (forAll (List.range 6) (fun c s => s.modUart c (fun x => { x with queue := [], sending := false })) u).boot
      = u.boot := forAll_keeps _ _ State.boot fun _ _ => rfl
  unfold State.sleepTimeout
  split
  · simp [huart]
  · simp

@[simp] theorem State.sleptClocks_boot : s.sleptClocks.2.boot = s.boot := by simp [State.sleptClocks]

@[simp] theorem State.deviceWake_boot (source index wakes : Nat) (frame : Option (Nat × Bytes)) :
    (s.deviceWake source index wakes frame).boot = s.boot := by
  unfold State.deviceWake
  dsimp only
  (repeat' split) <;> simp

@[simp] theorem State.registerWake_boot (source index : Nat) (seg : Option Nat) (wakes : Nat) (frame : Option (Nat × Bytes)) :
    (s.registerWake source index seg wakes frame).boot = s.boot := by
  unfold State.registerWake
  (repeat' split) <;> simp

@[simp] theorem State.floatPins_boot : s.floatPins.boot = s.boot :=
  forAll_keeps _ _ State.boot fun _ _ => rfl
@[simp] theorem State.applyPins_boot : s.applyPins.boot = s.boot :=
  forAll_keeps _ _ State.boot fun _ _ => rfl
@[simp] theorem State.storeState_boot (kept : Bytes) : (s.storeState kept).2.boot = s.boot := by rfl
@[simp] theorem State.commitSleep_keyrevFused (kept : Bytes) : (s.commitSleep kept).boot.keyrevFused = s.boot.keyrevFused := by
  simp [State.commitSleep]
@[simp] theorem State.inhHoldEnd_boot : s.inhHoldEnd.boot = s.boot := by simp [State.inhHoldEnd]
@[simp] theorem State.restoreClock_boot : s.restoreClock.boot = s.boot :=
  (State.modTime_boot _ _).trans s.sleptClocks_boot
@[simp] theorem State.repositionAll_boot : s.repositionAll.boot = s.boot := by simp [State.repositionAll]
@[simp] theorem State.linksResume_boot : s.linksResume.boot = s.boot := by rfl
@[simp] theorem State.resumeFirmware_keyrevFused : s.resumeFirmware.boot.keyrevFused = s.boot.keyrevFused := by
  simp [State.resumeFirmware]

/-! Frame of sleep commands. -/

@[simp] theorem State.wireWake_boot (source index n : Nat) (frame : Option (Nat × Bytes)) :
    (s.wireWake source index n frame).boot = s.boot := by simp [State.wireWake]
@[simp] theorem State.modDecoder_boot (c : Nat) (f : Decoder → Decoder) : (s.modDecoder c f).boot = s.boot := by rfl

@[simp] theorem State.sleepBegun_boot : s.sleepBegun.boot = s.boot := by
  unfold State.sleepBegun
  split <;> simp

/-! Frame of the boot ROM. -/

@[simp] theorem State.modStore_boot (f : Store → Store) : (s.modStore f).boot = s.boot := by rfl
@[simp] theorem State.bootFail_keyrevFused (code : Nat) : (s.bootFail code).boot.keyrevFused = s.boot.keyrevFused := by
  simp [State.bootFail]
@[simp] theorem State.bootGo_keyrevFused (t : Transport) : (s.bootGo t).boot.keyrevFused = s.boot.keyrevFused := by
  simp [State.bootGo]
@[simp] theorem State.bootXferWrite_keyrevFused (t : Transport) (addr v : Nat) :
    (s.bootXferWrite t addr v).boot.keyrevFused = s.boot.keyrevFused := by simp [State.bootXferWrite]
theorem State.landingWrite_keepsRevoked (t : Transport) (off : Nat) (data : Bytes) : KeepsRevoked s (s.landingWrite t off data) :=
  .ite (.of_boot (s.bootRefuse_boot ..)) <| .ite (keepsRevoked_fault s _) (.of_boot rfl)
@[simp] theorem State.signatureKnown_boot : s.signatureKnown.2.boot = s.boot := by rfl

@[simp] theorem State.chunkDone_keyrevFused : s.chunkDone.boot.keyrevFused = s.boot.keyrevFused := by
  unfold State.chunkDone
  dsimp only
  (repeat' split) <;> simp

@[simp] theorem State.verifyDone_keyrevFused : s.verifyDone.boot.keyrevFused = s.boot.keyrevFused := by simp [State.verifyDone]
@[simp] theorem State.firmwareStart_keyrevFused : s.firmwareStart.boot.keyrevFused = s.boot.keyrevFused := by
  simp [State.firmwareStart]

@[simp] theorem State.dieStart_keyrevFused (straps : BitVec 2) (fuses : Bool) :
    (s.dieStart straps fuses).boot.keyrevFused = s.boot.keyrevFused := by
  unfold State.dieStart
  dsimp only
  (repeat' split) <;> simp

@[simp] theorem State.sealCheck_keyrevFused (disturbed : List (Nat × Byte)) :
    (s.sealCheck disturbed).boot.keyrevFused = s.boot.keyrevFused := by simp [State.sealCheck]

/-! Frame of cipher contexts. -/

@[simp] theorem State.setCtx_boot (i : Nat) (x : HostCtx) : (s.setCtx i x).boot = s.boot := by rfl
@[simp] theorem State.dropCtx_boot (i : Nat) : (s.dropCtx i).boot = s.boot := by rfl
@[simp] theorem State.dropCtxs_boot (n : Nat) : (s.dropCtxs n).boot = s.boot := by rfl
@[simp] theorem State.breakCtx_boot (i : Nat) (x : HostCtx) : (s.breakCtx i x).1.boot = s.boot := by rfl

@[simp] theorem State.dmaOut_boot (n addr : Nat) (b : Bytes) : (s.dmaOut n addr b).boot = s.boot := by
  unfold State.dmaOut
  split <;> simp

@[simp] theorem State.burst_boot (n : Nat) : (s.burst n).2.boot = s.boot := by simp [State.burst]

/-! Frame of measurements. -/

@[simp] theorem State.adaptVdd_boot : s.adaptVdd.boot = s.boot := by rfl
@[simp] theorem State.sample_boot (x : Sample) : (s.sample x).boot = s.boot := by simp [State.sample]
@[simp] theorem State.modPartner_boot (p : Nat) (f : Partner → Partner) : (s.modPartner p f).boot = s.boot := by rfl
@[simp] theorem State.partnerEvent_boot (p cause : Nat) : (s.partnerEvent p cause).boot = s.boot := by simp [State.partnerEvent]
@[simp] theorem State.partnerBytes_boot (p : Nat) : (s.partnerBytes p).2.boot = s.boot := by rfl

@[simp] theorem State.mkaDo_boot (p : Nat) (x0 : MkaAction) : (s.mkaDo p x0).boot = s.boot := by
  unfold State.mkaDo
  (repeat' split) <;> simp

@[simp] theorem State.currents_boot (p k : Nat) : (s.currents p k).2.boot = s.boot := by
  induction k generalizing s p with
  | zero => rfl
  | succ k ih => simp [State.currents, ih]

@[simp] theorem State.measured_boot (kind : Nat) : (s.measured kind).2.boot = s.boot := by
  unfold State.measured
  split <;> simp

/-! Frame of the drover. -/

@[simp] theorem State.deferAction_boot (i action measured : Nat) : (s.deferAction i action measured).boot = s.boot := by
  simp [State.deferAction]
@[simp] theorem State.acting_boot (i : Nat) (st : MandateState) : (s.acting i st).boot = s.boot := by rfl
@[simp] theorem State.acted_boot (i : Nat) (st : MandateState) (d : Decision) : (s.acted i st d).boot = s.boot := by
  simp [State.acted]
@[simp] theorem State.actedPorts_boot (i : Nat) (st : MandateState) (d : Decision) (ports : Nat) :
    (s.actedPorts i st d ports).boot = s.boot := by simp [State.actedPorts]
@[simp] theorem State.endedByHost_boot (i action : Nat) : (s.endedByHost i action).boot = s.boot := by simp [State.endedByHost]
@[simp] theorem State.meterTo_boot (i rate mode : Nat) : (s.meterTo i rate mode).boot = s.boot := by simp [State.meterTo]
@[simp] theorem State.meterBack_boot (i measured : Nat) : (s.meterBack i measured).boot = s.boot := by simp [State.meterBack]

@[simp] theorem State.loopMeter_boot (i : Nat) (act : Bool) : (s.loopMeter i act).boot = s.boot := by
  unfold State.loopMeter
  dsimp only
  (repeat' split) <;> simp

@[simp] theorem State.loopQuarantine_boot (i : Nat) (act : Bool) : (s.loopQuarantine i act).boot = s.boot := by
  simp [State.loopQuarantine]
@[simp] theorem State.loopRestart_boot (i : Nat) (act : Bool) : (s.loopRestart i act).boot = s.boot := by simp [State.loopRestart]
@[simp] theorem State.rateTo_boot (p code : Nat) : (s.rateTo p code).boot = s.boot := by simp [State.rateTo]
@[simp] theorem State.loopThermal_boot (i : Nat) (act : Bool) : (s.loopThermal i act).boot = s.boot := by simp [State.loopThermal]
@[simp] theorem State.unshed_boot (mask : Nat) : (s.unshed mask).boot = s.boot := by simp [State.unshed]
@[simp] theorem State.loopShed_boot (i : Nat) (act : Bool) : (s.loopShed i act).boot = s.boot := by simp [State.loopShed]
@[simp] theorem State.loopBusOff_boot (i : Nat) (act : Bool) : (s.loopBusOff i act).boot = s.boot := by simp [State.loopBusOff]
@[simp] theorem State.loopSleep_boot (i : Nat) (act : Bool) : (s.loopSleep i act).boot = s.boot := by simp [State.loopSleep]

@[simp] theorem State.loopOne_boot (i : Nat) (act : Bool) : (s.loopOne i act).boot = s.boot := by
  unfold State.loopOne
  split <;> simp

@[simp] theorem State.loopPaused_boot (i : Nat) : (s.loopPaused i).boot = s.boot := by rfl
@[simp] theorem State.droverLoop_boot (load : List Nat) (overran : Bool) : (s.droverLoop load overran).boot = s.boot := by
  simp [State.droverLoop]

@[simp] theorem State.revert_boot (i : Nat) : (s.revert i).boot = s.boot := by
  unfold State.revert
  dsimp only
  (repeat' split) <;> simp

@[simp] theorem State.endMandate_boot (i : Nat) (undo : Bool) : (s.endMandate i undo).boot = s.boot := by simp [State.endMandate]
@[simp] theorem State.endMandates_boot (ty i n : Nat) : (s.endMandates ty i n).boot = s.boot := by simp [State.endMandates]

/-! Frame of drover commands. -/

@[simp] theorem State.grantMandate_boot (n i : Nat) (r : Bytes) : (s.grantMandate n i r).boot = s.boot := by rfl

/-! Frame of descriptor rings. -/

@[simp] theorem State.modRing_boot (n r : Nat) (f : Ring → Ring) : (s.modRing n r f).boot = s.boot := by rfl
@[simp] theorem State.forgetRing_boot (n r : Nat) : (s.forgetRing n r).boot = s.boot := by simp [State.forgetRing]
@[simp] theorem State.ringCtrl_boot (n r v : Nat) : (s.ringCtrl n r v).boot = s.boot := by simp [State.ringCtrl]
@[simp] theorem State.ringBase_boot (n r : Nat) (hi : Bool) (v : Word) : (s.ringBase n r hi v).boot = s.boot := by rfl
theorem State.ringTail_keepsRevoked (n r v : Nat) : KeepsRevoked s (s.ringTail n r v) :=
  .ite (keepsRevoked_fault s _) (.of_boot (s.modRing_boot ..))
@[simp] theorem State.ringStat_boot (n r v : Nat) : (s.ringStat n r v).boot = s.boot := by rfl
@[simp] theorem State.writeDesc_boot (fn : Fin 16) (addr : Nat) (d : Bytes) : (s.writeDesc fn addr d).boot = s.boot := by rfl
@[simp] theorem State.pushTx_boot (n r : Nat) (descs : List Bytes) (number : Nat) (status : Option Nat) :
    (s.pushTx n r descs number status).boot = s.boot := by rfl
@[simp] theorem State.freeStatus_boot : s.freeStatus.2.boot = s.boot := by rfl

@[simp] theorem State.refusalStatus_boot (c : Cause) : (s.refusalStatus c).2.boot = s.boot := by
  unfold State.refusalStatus
  split <;> simp

@[simp] theorem State.sendEth_boot (n r : Nat) (l : List DescRead) : (s.sendEth n r l).boot = s.boot := by
  unfold State.sendEth
  dsimp only
  (repeat' split) <;> simp

@[simp] theorem State.sendCan_boot (n r : Nat) (d : DescRead) : (s.sendCan n r d).boot = s.boot := by simp [State.sendCan]
@[simp] theorem State.chainEth_boot (n r : Nat) (d : DescRead) : (s.chainEth n r d).boot = s.boot := by simp [State.chainEth]
@[simp] theorem State.takeDesc_boot (n r : Nat) (d : DescRead) : (s.takeDesc n r d).boot = s.boot := by simp [State.takeDesc]
@[simp] theorem State.serveRing_boot (n r : Nat) : (s.serveRing n r).boot = s.boot := by simp [State.serveRing]

@[simp] theorem State.serveRings_boot : s.serveRings.boot = s.boot := by
  unfold State.serveRings
  dsimp only
  (repeat' split) <;> simp

@[simp] theorem State.ringFetch_boot (n r : Nat) (descs : List DescRead) : (s.ringFetch n r descs).boot = s.boot := by
  simp [State.ringFetch]
@[simp] theorem State.writeBack_boot (fn : Fin 16) (n r : Nat) (l : List Bytes) : (s.writeBack fn n r l).boot = s.boot := by
  simp [State.writeBack]
@[simp] theorem State.ringCause_boot (n r c : Nat) : (s.ringCause n r c).boot = s.boot := by simp [State.ringCause]

@[simp] theorem State.returnTx_boot (n r : Nat) (can : Bool) : (s.returnTx n r can).boot = s.boot := by
  unfold State.returnTx
  (repeat' split) <;> simp

@[simp] theorem State.skipKind_boot (fn : Fin 16) (n r : Nat) (l : List DescRead) : (s.skipKind fn n r l).2.boot = s.boot := by
  induction l generalizing s with
  | nil => rfl
  | cons d ds ih =>
    unfold State.skipKind
    split
    · rfl
    · simp [ih]

@[simp] theorem State.countRxDrop_boot (n : Nat) (can : Bool) (tc : Nat) (r : Option Nat) : (s.countRxDrop n can tc r).boot = s.boot := by
  simp [State.countRxDrop]
@[simp] theorem State.fillOne_boot (fn : Fin 16) (n r : Nat) (d : DescRead) (data body : Bytes) (ctrl : Nat) :
    (s.fillOne fn n r d data body ctrl).boot = s.boot := by rfl

@[simp] theorem State.fillAll_boot (fn : Fin 16) (n r : Nat) (can ts : Bool) (tc status : Nat) (head : Nat → Bool → Bytes)
    (first : Bool) (l : List (DescRead × Bytes)) : (s.fillAll fn n r can ts tc status head first l).boot = s.boot := by
  induction l generalizing s first with
  | nil => rfl
  | cons d l ih => simp [State.fillAll, ih]

@[simp] theorem State.rxWrite_boot (fn : Fin 16) (n r : Nat) (can ts : Bool) (tc : Nat) (bytes : Bytes) (bufs : List (DescRead × Bytes))
    (head : Nat → Bool → Bytes) :
    (s.rxWrite fn n r can ts tc bytes bufs head).boot = s.boot := by simp [State.rxWrite]

@[simp] theorem State.rxBufs_boot (fn : Fin 16) (n r : Nat) (b : Bytes) (most : Nat) (descs : List DescRead) :
    (s.rxBufs fn n r b most descs).2.boot = s.boot := by simp [State.rxBufs]
@[simp] theorem State.rxDropEth_boot (w : Waybill) (r : Option Nat) : (s.rxDropEth w r).boot = s.boot := by simp [State.rxDropEth]

@[simp] theorem State.rxEth_boot (w : Waybill) (f : Frame) (descs : List DescRead) : (s.rxEth w f descs).boot = s.boot := by
  unfold State.rxEth
  split <;> simp

@[simp] theorem State.rxCan_boot (v : VOut) (descs : List DescRead) : (s.rxCan v descs).boot = s.boot := by
  unfold State.rxCan
  dsimp only
  (repeat' split) <;> simp

@[simp] theorem State.dropRings_boot (n : Nat) : (s.dropRings n).boot = s.boot := by simp [State.dropRings]

/-! Frame of the direct window. -/

@[simp] theorem State.modEvu_boot (n : Nat) (f : Evu → Evu) : (s.modEvu n f).boot = s.boot := by rfl

theorem State.hiuWrite_keepsRevoked (t : Transport) (a : Nat) (v : Word) : KeepsRevoked s (s.hiuWrite t a v) :=
  .ite (.of_boot rfl) <| .ite (.of_boot rfl) <| .ite (.ite (.of_boot rfl) (keepsRevoked_fault s _)) <|
    .ite (.of_boot rfl) (.of_boot (s.decodeErr_boot t a))

@[simp] theorem State.evuCause_boot (n : Nat) (v : Word) : (s.evuCause n v).boot = s.boot := by simp [State.evuCause]
@[simp] theorem State.evuMask_boot (n : Nat) (v : Word) : (s.evuMask n v).boot = s.boot := by simp [State.evuMask]
@[simp] theorem State.evuVmap_boot (n : Nat) (v : Word) : (s.evuVmap n v).boot = s.boot := by simp [State.evuVmap]
@[simp] theorem State.evuBoot_keyrevFused (v : Word) : (s.evuBoot v).boot.keyrevFused = s.boot.keyrevFused := by rfl

@[simp] theorem State.evuWrite_keyrevFused (t : Transport) (a : Nat) (v : Word) :
    (s.evuWrite t a v).boot.keyrevFused = s.boot.keyrevFused := by
  unfold State.evuWrite
  extract_lets o n k
  (repeat' split) <;> simp

@[simp] theorem State.cmuCommit_boot (v : Word) : (s.cmuCommit v).boot = s.boot := by simp [State.cmuCommit]
@[simp] theorem State.cmuAt_boot (v : Word) : (s.cmuAt v).boot = s.boot := by rfl

@[simp] theorem State.cmuArm_boot : s.cmuArm.boot = s.boot := by
  unfold State.cmuArm
  dsimp only
  (repeat' split) <;> simp

@[simp] theorem State.cmuCancel_boot : s.cmuCancel.boot = s.boot := by simp [State.cmuCancel]
@[simp] theorem State.cmuCtrl_boot (v : Word) : (s.cmuCtrl v).boot = s.boot := by simp [State.cmuCtrl]
theorem State.cmuMap_keepsRevoked (v : Word) : KeepsRevoked s (s.cmuMap v) :=
  .ite (keepsRevoked_fault s _) (.of_boot (s.modCmu_boot _))

theorem State.cmuWrite_keepsRevoked (t : Transport) (a : Nat) (v : Word) : KeepsRevoked s (s.cmuWrite t a v) :=
  .ite (.of_boot (s.decodeErr_boot t a)) <| .ite (.of_boot (s.permErr_boot t a)) <| .ite (.of_boot (s.cmuCommit_boot v)) <|
    .ite (.of_boot (s.cmuAt_boot v)) <| .ite (.of_boot (s.cmuCtrl_boot v)) <| .ite (.of_boot (s.modCmu_boot _)) <|
    .ite (State.cmuMap_keepsRevoked s v) (.of_boot rfl)

theorem State.pwsRead_keepsBoot (a : Nat) : KeepsBoot s (s.pwsRead a) :=
  .ite (.some rfl) <| .ite (.some rfl) <| .ite (.some rfl) <| .ite (.some rfl) <| .ite (.some rfl) <| .ite (.some rfl) <|
    .ite (.some rfl) (keepsBoot_none s)

@[simp] theorem State.pwsWrite_boot (t : Transport) (a : Nat) (v : Word) : (s.pwsWrite t a v).boot = s.boot := by
  simp [State.pwsWrite]
@[simp] theorem State.bootWrite_keyrevFused (t : Transport) (a : Nat) (v : Word) :
    (s.bootWrite t a v).boot.keyrevFused = s.boot.keyrevFused := by simp [State.bootWrite]
theorem State.reqHeadWrite_keepsRevoked (n : Nat) (v : Half) : KeepsRevoked s (s.reqHeadWrite n v) :=
  .ite (keepsRevoked_fault s _) (.of_boot (s.modSlot_boot ..))
theorem State.rspTailWrite_keepsRevoked (n : Nat) (v : Half) : KeepsRevoked s (s.rspTailWrite n v) :=
  .ite (keepsRevoked_fault s _) (.of_boot (s.modSlot_boot ..))
theorem State.evtTailWrite_keepsRevoked (n : Nat) (v : Half) : KeepsRevoked s (s.evtTailWrite n v) :=
  .ite (keepsRevoked_fault s _) (.of_boot ((State.writeHeld_boot ..).trans (s.modSlot_boot ..)))

@[simp] theorem State.foreignWrite_boot (t : Transport) : (s.foreignWrite t).boot = s.boot := by
  unfold State.foreignWrite
  split <;> simp

theorem State.ringWrite_keepsRevoked (n r k : Nat) (v : Word) : KeepsRevoked s (s.ringWrite n r k v) :=
  .ite (.of_boot rfl) <| .ite (.of_boot (s.ringBase_boot ..)) <| .ite (.of_boot (s.ringBase_boot ..)) <|
    .ite (.of_boot (s.ringCtrl_boot ..)) <| .ite (State.ringTail_keepsRevoked s ..) <| .ite (.of_boot (s.ringStat_boot ..)) (.of_boot rfl)

theorem State.mbxWrite_keepsRevoked (t : Transport) (a : Nat) (v : Word) : KeepsRevoked s (s.mbxWrite t a v) :=
  .ite (.of_boot (s.decodeErr_boot ..)) <| .ite (.of_boot (s.foreignWrite_boot ..)) <|
    .ite (State.reqHeadWrite_keepsRevoked s ..) <| .ite (State.rspTailWrite_keepsRevoked s ..) <|
    .ite (State.evtTailWrite_keepsRevoked s ..) <|
    .ite (.of_boot (s.modSlot_boot ..)) <| .ite (State.ringWrite_keepsRevoked s ..) (.of_boot rfl)

theorem State.tuRead_keepsBoot (t : Transport) (o : Nat) : KeepsBoot s (s.tuRead t o) := by
  unfold State.tuRead
  extract_lets u pure l
  have hpure (v : Nat) : KeepsBoot s (pure v) := .some rfl
  exact .ite (hpure _) <| .ite (hpure _) <| .ite (.some (s.modTime_boot _)) <| .ite (hpure _) <| .ite (hpure _) <| .ite (hpure _) <|
    .ite (hpure _) <| .ite (hpure _) <| .ite (hpure _) <| .ite (hpure _) <| .ite (hpure _) <| .ite (hpure _) <|
    .ite (keepsBoot_pure s _) <| .ite (hpure _) <| .ite (hpure _) (keepsBoot_none s)

theorem State.incrInt_keepsRevoked (v : Word) : KeepsRevoked s (s.incrInt v) :=
  .ite (keepsRevoked_fault s _) (.of_boot (s.modTime_boot _))
@[simp] theorem State.stepHiWrite_boot (t : Transport) (a : Nat) (v : Word) : (s.stepHiWrite t a v).boot = s.boot := by
  simp [State.stepHiWrite]
@[simp] theorem State.capPop_boot (n : Nat) (v : Word) : (s.capPop n v).boot = s.boot := by simp [State.capPop]

theorem State.tuWrite_keepsRevoked (t : Transport) (a : Nat) (v : Word) : KeepsRevoked s (s.tuWrite t a v) := by
  have hmod (f : TimeUnit → TimeUnit) : KeepsRevoked s (.next (s.modTime f)) := .of_boot (s.modTime_boot f)
  have hperm : KeepsRevoked s (.next (s.permErr t a)) := .of_boot (s.permErr_boot t a)
  have hself : KeepsRevoked s (.next s) := .of_boot rfl
  unfold State.tuWrite
  extract_lets o me n
  clear_value o
  exact .ite (.of_boot (s.decodeErr_boot t a)) <| .ite (.of_boot (s.decodeErr_boot t a)) <|
    .ite (.ite hperm <| .ite (hmod _) <| .ite (State.incrInt_keepsRevoked s v) <| .ite (hmod _) <| .of_boot (s.stepHiWrite_boot t a v)) <|
    .ite (hmod _) <| .ite (hmod _) <| .ite (.ite hperm (hmod _)) <| .ite (.ite hperm (hmod _)) <|
    .ite (.ite (hmod _) <| .ite (.of_boot (s.capPop_boot ..)) hself) hself

theorem State.cdiWrite_keepsRevoked (t : Transport) (a : Nat) (v : Word) : KeepsRevoked s (s.cdiWrite t a v) := by
  unfold State.cdiWrite
  extract_lets o
  clear_value o
  exact .ite (.of_boot (s.decodeErr_boot t a)) <| .ite (.of_boot rfl) <| .ite (.of_boot (cdiLockWrite_boot ..)) <|
    .ite (cdiHeld_keepsRevoked s (by simp)) <| .ite (cdiHeld_keepsRevoked s (by simp)) <| cdiHeld_keepsRevoked s (s.modCdi_boot _)

theorem State.regRead_keepsBoot (t : Transport) (a : Nat) : KeepsBoot s (s.regRead t a) := by
  unfold State.regRead
  extract_lets +onlyGivenNames pure
  have hpure (o : Option Nat) : KeepsBoot s (pure o) := keepsBoot_pure s o
  have hcdi (o : Nat) : KeepsBoot s (some ((cdiRead t o s).1.toNat, (cdiRead t o s).2)) := .some (cdiRead_boot t o s)
  exact .ite (hpure _) <| .ite (hpure _) <| .ite (hpure _) <| .ite (State.pwsRead_keepsBoot s a) <| .ite (hpure _) <|
    .ite (keepsBoot_none s) <| .ite (hpure _) <| .ite (State.tuRead_keepsBoot s t _) <|
    .ite (.ite (keepsBoot_none s) <| .ite (.some rfl) (hcdi _)) (keepsBoot_none s)

theorem State.regWrite_keepsRevoked (t : Transport) (a : Nat) (v : Word) : KeepsRevoked s (s.regWrite t a v) :=
  have hdecode : KeepsRevoked s (.next (s.decodeErr t a)) := .of_boot (s.decodeErr_boot t a)
  .ite (State.hiuWrite_keepsRevoked s t a v) <| .ite (by simp) <| .ite (State.cmuWrite_keepsRevoked s t a v) <| .ite (by simp) <|
    .ite (by simp) <| .ite hdecode <| .ite (State.mbxWrite_keepsRevoked s t a v) <| .ite (State.tuWrite_keepsRevoked s t a v) <|
    .ite (State.cdiWrite_keepsRevoked s t a v) hdecode

@[simp] theorem State.storeBytes_boot (me : Option Nat) (off : Nat) (data : Bytes) :
    (s.storeBytes me off data).2.2.boot = s.boot := by
  induction data generalizing s off with
  | nil => rfl
  | cons b bs ih =>
    unfold State.storeBytes
    split <;> simp [ih]

theorem State.bufWrite_keepsRevoked (t : Transport) (off : Nat) (data : Bytes) : KeepsRevoked s (s.bufWrite t off data) := by
  unfold State.bufWrite
  extract_lets most rest part r
  have hrest (u : State) : (rest u).boot = u.boot := by simp [rest]
  have hr : r.2.2.boot = s.boot := s.storeBytes_boot ..
  refine .ite (.ite (keepsRevoked_fault s _) (.of_boot ((hrest _).trans ?_))) <| .ite (.of_boot (hrest s)) <|
    (State.landingWrite_keepsRevoked s t _ _).thenDo fun u => .of_boot (hrest u)
  split
  · exact (State.foreignWrite_boot ..).trans hr
  · exact hr

/-- The bit-band operations are unfolded as functions, not at an address: the kernel would otherwise evaluate the read their match
is on. -/
theorem aliasWrite_writeKeepsRevoked : WriteKeepsRevoked State.aliasWrite := by
  delta State.aliasWrite
  refine ⟨fun s t a v => ?_⟩
  generalize (a - 0x200000) / 4 = k
  extract_lets k r b
  split
  · exact .of_boot (s.decodeErr_boot ..)
  · refine .ite (.of_boot rfl) ?_
    extract_lets base
    exact (State.regWrite_keepsRevoked s t r _).thenDo fun u => by simp

theorem aliasRead_readKeepsBoot : ReadKeepsBoot State.aliasRead := by
  delta State.aliasRead
  refine ⟨fun s t a => ?_⟩
  generalize (a - 0x200000) / 4 = k
  dsimp only
  split
  · exact .some (s.decodeErr_boot ..)
  · next h => exact .some ((State.regRead_keepsBoot s t _).same _ _ h)

@[simp] theorem State.msixRelease_boot (f : Nat) : (s.msixRelease f).boot = s.boot := by
  unfold State.msixRelease
  split <;> simp

@[simp] theorem State.pcieWrite_boot (f off : Nat) (data : Bytes) : (s.pcieWrite f off data).boot = s.boot := by
  simp [State.pcieWrite]

theorem State.windowWrite_keepsRevoked (t : Transport) (a : Nat) (data : Bytes) : KeepsRevoked s (s.windowWrite t a data) :=
  .ite (.of_boot rfl) <| .ite (.ite (State.regWrite_keepsRevoked s t _ _) <|
      .ite ((State.regWrite_keepsRevoked s t _ _).thenDo fun u => State.regWrite_keepsRevoked u t _ _) (.of_boot (s.sizeErr_boot ..))) <|
    .ite (.of_boot (s.decodeErr_boot ..)) <| .ite (State.bufWrite_keepsRevoked s t _ _) <| .ite (.of_boot (s.decodeErr_boot ..)) <|
    .ite (aliasWrite_writeKeepsRevoked.same s t _ _) (keepsRevoked_fault s _)

@[simp] theorem State.wordWrite_keepsRevoked (t : Transport) (a : Nat) (v : Word) : KeepsRevoked s (s.wordWrite t a v) :=
  State.windowWrite_keepsRevoked s t a _

theorem State.wordRead_keepsBoot (t : Transport) (a : Nat) : KeepsBoot s (s.wordRead t a) := by
  unfold State.wordRead
  refine .ite (.ite (.some (s.sizeErr_boot ..)) ?_) <| .ite (.some (s.decodeErr_boot ..)) <| .ite (.some rfl) <|
    .ite (.some (s.decodeErr_boot ..)) <| .ite (aliasRead_readKeepsBoot.same s t _) (keepsBoot_none s)
  split
  · next h => exact .some ((State.regRead_keepsBoot s t _).same _ _ h)
  · exact .some (s.decodeErr_boot ..)

theorem State.windowRead_keepsBoot (t : Transport) (a n : Nat) : KeepsBoot s (s.windowRead t a n) := by
  unfold State.windowRead
  refine .ite (.some rfl) <| .ite (.ite (.some rfl) (.some (s.decodeErr_boot ..))) <|
    .ite ((State.wordRead_keepsBoot s t _).map rfl _) <| .ite (.ite ?_ (.some (s.sizeErr_boot ..))) <|
    .ite (.some (s.decodeErr_boot ..)) (keepsBoot_none s)
  split
  · exact keepsBoot_none s
  · next lo _ h => exact (State.wordRead_keepsBoot _ t _).map ((State.wordRead_keepsBoot s t _).same _ _ h) (leBytes 4 lo ++ leBytes 4 ·)

/-! Frame of rows of the window. -/

@[simp] theorem State.holdoffEnd_boot (n v : Nat) : (s.holdoffEnd n v).boot = s.boot := by simp [State.holdoffEnd]
@[simp] theorem State.applyQueued_boot : s.applyQueued.boot = s.boot := by simp [State.applyQueued]
@[simp] theorem State.spiBegin_boot (p : Nat) (next : Half) : (s.spiBegin p next).boot = s.boot := by rfl

theorem spiWords_keepsRevoked (t : Transport) (a : Nat) (ws : List Word) : KeepsRevoked s (spiWords t a ws s) := by
  induction ws generalizing s a with
  | nil => exact .of_boot rfl
  | cons w ws ih => exact (State.windowWrite_keepsRevoked s t a _).thenDo fun u => ih u (a + 4)

theorem State.spiReadWords_keepsBoot (t : Transport) (a n : Nat) : KeepsBoot s (s.spiReadWords t a n) := by
  induction n generalizing s a with
  | zero => exact .some rfl
  | succ n ih =>
    unfold State.spiReadWords
    split
    · exact keepsBoot_none s
    · next h => exact (ih _ _).map ((State.wordRead_keepsBoot s t a).same _ _ h) _

/-! Frame of mailboxes. -/

@[simp] theorem State.takeMessage_boot (n : Nat) (header payload : Bytes) : (s.takeMessage n header payload).boot = s.boot := by
  simp [State.takeMessage]
@[simp] theorem State.requestTake_boot (n : Nat) : (s.requestTake n).boot = s.boot := by simp [State.requestTake]
@[simp] theorem State.popFront_boot (n : Nat) : (s.popFront n).boot = s.boot := by rfl
@[simp] theorem State.countResponse_boot (n : Nat) (replayed : Bool) : (s.countResponse n replayed).boot = s.boot := by rfl
@[simp] theorem State.mailResponse_boot (n : Nat) (f : InFlight) (a : Answer) : (s.mailResponse n f a).boot = s.boot := by
  simp [State.mailResponse]
@[simp] theorem State.ethResponse_boot (n : Nat) (f : InFlight) (a : Answer) : (s.ethResponse n f a).boot = s.boot := by
  simp [State.ethResponse]
@[simp] theorem State.respondHere_boot (n : Nat) (f : InFlight) (a : Answer) : (s.respondHere n f a).boot = s.boot := by
  simp [State.respondHere]
@[simp] theorem State.respondOld_boot (n : Nat) (f : InFlight) (a : Answer) (b : Binding) (seq : Nat) :
    (s.respondOld n f a b seq).boot = s.boot := by simp [State.respondOld]

@[simp] theorem State.respond_keyrevFused (n : Nat) (f : InFlight) (a : Answer) :
    (s.respond n f a).boot.keyrevFused = s.boot.keyrevFused := by
  unfold State.respond
  (repeat' split) <;> simp

@[simp] theorem State.unswapCustoms_boot (w : Swap) : (s.unswapCustoms w).boot = s.boot := by simp [State.unswapCustoms]
@[simp] theorem State.unswapRoutes_boot (w : Swap) : (s.unswapRoutes w).boot = s.boot := by rfl
@[simp] theorem State.unswapStreams_boot : s.unswapStreams.boot = s.boot := by rfl
@[simp] theorem State.withdraw_boot (n : Nat) (tag : Half) : (s.withdraw n tag).boot = s.boot := by simp [State.withdraw]
@[simp] theorem State.acceptLate_boot (n : Nat) (f : InFlight) : (s.acceptLate n f).boot = s.boot := by simp [State.acceptLate]
@[simp] theorem State.envelopeDrop_boot (n : Nat) (e : EnvFault) : (s.envelopeDrop n e).boot = s.boot := by rfl

@[simp] theorem State.envelope_boot (n p : Nat) (dst src : BitVec 48) (vid : BitVec 12) (body : Bytes) :
    (s.envelope n p dst src vid body).boot = s.boot := by
  unfold State.envelope
  (repeat' split) <;> simp

/-! Frame of system commands. -/

@[simp] theorem State.modPin_boot (k : Nat) (f : Gpio → Gpio) : (s.modPin k f).boot = s.boot := by rfl
@[simp] theorem State.drivePin_boot (k : Nat) (level : Bool) : (s.drivePin k level).boot = s.boot := by simp [State.drivePin]
@[simp] theorem State.settlePin_boot (k at_ : Nat) : (s.settlePin k at_).boot = s.boot := by simp [State.settlePin]

/-! Frame of slot commands. -/

@[simp] theorem State.slotTo_boot (n : Nat) (st : SlotState) (cause : Nat) : (s.slotTo n st cause).boot = s.boot := by
  simp [State.slotTo]
@[simp] theorem State.moveRange_boot (ty first count from_ to_ : Nat) : (s.moveRange ty first count from_ to_).boot = s.boot := by
  simp [State.moveRange]
@[simp] theorem State.returnAll_boot (n : Nat) : (s.returnAll n).boot = s.boot := by simp [State.returnAll]
@[simp] theorem State.bindSlot_boot (m : Nat) (b : Binding) : (s.bindSlot m b).boot = s.boot := by simp [State.bindSlot]
@[simp] theorem State.unbindSlot_boot (m : Nat) : (s.unbindSlot m).boot = s.boot := by simp [State.unbindSlot]
@[simp] theorem State.fenceSlot_boot (m : Nat) : (s.fenceSlot m).boot = s.boot := by simp [State.fenceSlot]

/-! Frame of diagnostic commands. -/

theorem State.fuses_boot {f : State → State × Reply} (h : ∀ u : State, (f u).1.boot.keyrevFused = u.boot.keyrevFused) :
    (s.fuses f).1.boot.keyrevFused = s.boot.keyrevFused := by
  unfold State.fuses
  split
  all_goals next hi => simp [h, boot_of_eq hi (s.immediate_boot 30)]

@[simp] theorem State.tryToken_boot (token : Bytes) : (s.tryToken token).1.boot = s.boot := by
  unfold State.tryToken
  split
  · rfl
  · split
    all_goals next h => simp [boot_of_eq h (s.useKey_boot ..)]

/-! Frame of rows of reception. -/

@[simp] theorem State.modRx_boot (p : Nat) (f : Rx → Rx) : (s.modRx p f).boot = s.boot := by rfl
@[simp] theorem State.startFrame_boot (p : Nat) (preempt : Bool) : (s.startFrame p preempt).boot = s.boot := by rfl

@[simp] theorem State.endRefused_boot (p : Nat) (noise : Option Cause) (sec : Option Nat) (c : Cause) (k : Nat) (e : EndFacts)
    (v : MacView) : (s.endRefused p noise sec c k e v).boot = s.boot := by
  unfold State.endRefused
  (repeat' split) <;> simp

@[simp] theorem State.handHeader_boot (p : Nat) (bytes : Bytes) : (s.handHeader p bytes).boot = s.boot := by simp [State.handHeader]

@[simp] theorem State.handEnded_boot (p : Nat) : (s.handEnded p).boot = s.boot := by
  unfold State.handEnded
  dsimp only
  (repeat' split) <;> simp

@[simp] theorem State.handOver_boot (p : Nat) (bytes : Bytes) : (s.handOver p bytes).boot = s.boot := by simp [State.handOver]
@[simp] theorem State.deepPass_boot (f : Frame) : (s.deepPass f).boot = s.boot := by rfl

@[simp] theorem State.oversize_boot (p : Nat) (bytes : Bytes) : (s.oversize p bytes).boot = s.boot := by
  unfold State.oversize
  dsimp only
  (repeat' split) <;> simp

@[simp] theorem State.endReception_boot (p : Nat) (bytes : Bytes) (cut fcsOk icvOk : Bool) :
    (s.endReception p bytes cut fcsOk icvOk).boot = s.boot := by
  unfold State.endReception
  dsimp only
  (repeat' split) <;> simp

@[simp] theorem State.ageFdb_boot : s.ageFdb.boot = s.boot := by rfl

/-! Frame of redundancy commands. -/

@[simp] theorem State.retireRec_boot (i : Nat) : (s.retireRec i).boot = s.boot := by rfl
@[simp] theorem State.enableRed_boot (kind i : Nat) (on : Bool) : (s.enableRed kind i on).boot = s.boot := by simp [State.enableRed]
@[simp] theorem State.setProtect_boot (r : Bytes) : (s.setProtect r).boot = s.boot := by simp [State.setProtect]
@[simp] theorem State.forceMember_boot (mode : Nat) : (s.forceMember mode).boot = s.boot := by simp [State.forceMember]
@[simp] theorem State.rebaseRed_boot (before : State) : (before.rebaseRed s).boot = s.boot := by simp [State.rebaseRed]

/-! Frame of rows of the resets. -/

@[simp] theorem State.clearWakeSource_boot : s.clearWakeSource.boot = s.boot := by rfl
@[simp] theorem State.dieLost_keyrevFused : s.dieLost.boot.keyrevFused = s.boot.keyrevFused := by rfl
@[simp] theorem State.resetLow_keyrevFused : s.resetLow.boot.keyrevFused = s.boot.keyrevFused := by simp [State.resetLow]
@[simp] theorem State.powerLost_keyrevFused : s.powerLost.boot.keyrevFused = s.boot.keyrevFused := by simp [State.powerLost]
@[simp] theorem State.railLink_boot (p : Nat) : (s.railLink p).boot = s.boot := by simp [State.railLink]
@[simp] theorem State.railEffects_boot (r : Nat) : (s.railEffects r).boot = s.boot := by simp [State.railEffects]
@[simp] theorem State.railLost_keyrevFused (r : Nat) : (s.railLost r).boot.keyrevFused = s.boot.keyrevFused := by
  simp [State.railLost]
@[simp] theorem State.railBack_boot (r : Nat) : (s.railBack r).boot = s.boot := by simp [State.railBack]
@[simp] theorem State.thermalOff_keyrevFused : s.thermalOff.boot.keyrevFused = s.boot.keyrevFused := by simp [State.thermalOff]

/-! Frame of scheduler commands. -/

@[simp] theorem State.clearSched_boot (k i : Nat) : (s.clearSched k i).boot = s.boot := by
  unfold State.clearSched
  split <;> simp

/-! Frame of the idle step. -/

@[simp] theorem State.giveFrame_boot : s.giveFrame.boot = s.boot := by
  unfold State.giveFrame
  split <;> simp

@[simp] theorem State.dueReset_keyrevFused : s.dueReset.boot.keyrevFused = s.boot.keyrevFused := by simp [State.dueReset]
@[simp] theorem State.idle_keyrevFused : s.idle.boot.keyrevFused = s.boot.keyrevFused := by simp [State.idle]

end Sys2Proof.Machine

/-! The Penyen commands: what their execution leaves alone. -/

namespace Sys2Proof.Machine

variable (s : State) (n : Nat) (tag : Half) (p : Bytes)

theorem ctxStep_boot (p : Bytes) {f : HostCtx → State × Reply} (h : ∀ x, (f x).1.boot = s.boot) : (ctxStep s p f).1.boot = s.boot := by
  simp only [ctxStep]
  split
  · simp
  · exact h _

/-! Runs of the CAN commands. -/

@[simp] theorem cmdCanGetCaps_boot : (cmdCanGetCaps.run s n tag p).1.boot = s.boot := by simp [cmdCanGetCaps]
@[simp] theorem cmdCanSetConfig_boot : (cmdCanSetConfig.run s n tag p).1.boot = s.boot := by simp [cmdCanSetConfig]
@[simp] theorem cmdCanGetConfig_boot : (cmdCanGetConfig.run s n tag p).1.boot = s.boot := by simp [cmdCanGetConfig]
@[simp] theorem cmdCanSetMode_boot : (cmdCanSetMode.run s n tag p).1.boot = s.boot := by simp [cmdCanSetMode]
@[simp] theorem cmdCanGetStatus_boot : (cmdCanGetStatus.run s n tag p).1.boot = s.boot := by simp [cmdCanGetStatus]
@[simp] theorem cmdCanSetQueue_boot : (cmdCanSetQueue.run s n tag p).1.boot = s.boot := by simp [cmdCanSetQueue]
@[simp] theorem cmdCanSetFilter_boot : (cmdCanSetFilter.run s n tag p).1.boot = s.boot := by simp [cmdCanSetFilter]
@[simp] theorem cmdCanTransmit_boot : (cmdCanTransmit.run s n tag p).1.boot = s.boot := by simp [cmdCanTransmit]
@[simp] theorem cmdCanRxRead_boot : (cmdCanRxRead.run s n tag p).1.boot = s.boot := by simp [cmdCanRxRead]
@[simp] theorem cmdCanRxRelease_boot : (cmdCanRxRelease.run s n tag p).1.boot = s.boot := by simp [cmdCanRxRelease]
@[simp] theorem cmdCanRecover_boot : (cmdCanRecover.run s n tag p).1.boot = s.boot := by simp [cmdCanRecover]
@[simp] theorem cmdCanFlushQueue_boot : (cmdCanFlushQueue.run s n tag p).1.boot = s.boot := by simp [cmdCanFlushQueue]
@[simp] theorem cmdCanDetectRate_boot : (cmdCanDetectRate.run s n tag p).1.boot = s.boot := by simp [cmdCanDetectRate]
@[simp] theorem cmdCanGetCounters_boot : (cmdCanGetCounters.run s n tag p).1.boot = s.boot := by simp [cmdCanGetCounters]
@[simp] theorem cmdCanClearCounters_boot : (cmdCanClearCounters.run s n tag p).1.boot = s.boot := by simp [cmdCanClearCounters]

/-! Runs of the LIN and serial commands. -/

@[simp] theorem cmdLinGetCaps_boot : (cmdLinGetCaps.run s n tag p).1.boot = s.boot := by simp [cmdLinGetCaps]
@[simp] theorem cmdLinSetConfig_boot : (cmdLinSetConfig.run s n tag p).1.boot = s.boot := by simp [cmdLinSetConfig]
@[simp] theorem cmdLinSetMode_boot : (cmdLinSetMode.run s n tag p).1.boot = s.boot := by simp [cmdLinSetMode]
@[simp] theorem cmdLinSetFrame_boot : (cmdLinSetFrame.run s n tag p).1.boot = s.boot := by simp [cmdLinSetFrame]
@[simp] theorem cmdLinSetSchedule_boot : (cmdLinSetSchedule.run s n tag p).1.boot = s.boot := by simp [cmdLinSetSchedule]
@[simp] theorem cmdLinSelectSchedule_boot : (cmdLinSelectSchedule.run s n tag p).1.boot = s.boot := by simp [cmdLinSelectSchedule]
@[simp] theorem cmdLinSetPublish_boot : (cmdLinSetPublish.run s n tag p).1.boot = s.boot := by simp [cmdLinSetPublish]
@[simp] theorem cmdLinSendWake_boot : (cmdLinSendWake.run s n tag p).1.boot = s.boot := by simp [cmdLinSendWake]
@[simp] theorem cmdLinGetStatus_boot : (cmdLinGetStatus.run s n tag p).1.boot = s.boot := by simp [cmdLinGetStatus]
@[simp] theorem cmdSerSetConfig_boot : (cmdSerSetConfig.run s n tag p).1.boot = s.boot := by simp [cmdSerSetConfig]
@[simp] theorem cmdSerSetMode_boot : (cmdSerSetMode.run s n tag p).1.boot = s.boot := by simp [cmdSerSetMode]
@[simp] theorem cmdSerTransmit_boot : (cmdSerTransmit.run s n tag p).1.boot = s.boot := by simp [cmdSerTransmit]
@[simp] theorem cmdSerGetStatus_boot : (cmdSerGetStatus.run s n tag p).1.boot = s.boot := by simp [cmdSerGetStatus]
@[simp] theorem cmdSerRxRead_boot : (cmdSerRxRead.run s n tag p).1.boot = s.boot := by simp [cmdSerRxRead]
@[simp] theorem cmdSerRxRelease_boot : (cmdSerRxRelease.run s n tag p).1.boot = s.boot := by simp [cmdSerRxRelease]
@[simp] theorem cmdSerGetCounters_boot : (cmdSerGetCounters.run s n tag p).1.boot = s.boot := by simp [cmdSerGetCounters]
@[simp] theorem cmdSerClearCounters_boot : (cmdSerClearCounters.run s n tag p).1.boot = s.boot := by simp [cmdSerClearCounters]

/-! Runs of the key commands. -/

@[simp] theorem cmdKeyGetCaps_boot : (cmdKeyGetCaps.run s n tag p).1.boot = s.boot := by simp [cmdKeyGetCaps]

@[simp] theorem cmdKeyImport_boot : (cmdKeyImport.run s n tag p).1.boot = s.boot := by
  dsimp only [cmdKeyImport]
  split
  · next h => exact boot_of_eq h (s.useKey_boot ..)
  · next h => split <;> simp [boot_of_eq h (s.useKey_boot ..)]

@[simp] theorem cmdKeyDerive_boot : (cmdKeyDerive.run s n tag p).1.boot = s.boot := by simp [cmdKeyDerive]

@[simp] theorem cmdKeyPrefetch_boot : (cmdKeyPrefetch.run s n tag p).1.boot = s.boot := by
  dsimp only [cmdKeyPrefetch]
  split
  all_goals next h => simp [boot_of_eq h (s.computeKey_boot ..)]

@[simp] theorem cmdKeyRefresh_boot : (cmdKeyRefresh.run s n tag p).1.boot = s.boot := by
  dsimp only [cmdKeyRefresh]
  split
  all_goals next h => simp [boot_of_eq h (State.computeKey_boot ..)]

@[simp] theorem cmdKeyInvalidate_boot : (cmdKeyInvalidate.run s n tag p).1.boot = s.boot := by simp [cmdKeyInvalidate]
@[simp] theorem cmdKeyErase_boot : (cmdKeyErase.run s n tag p).1.boot = s.boot := by simp [cmdKeyErase]
@[simp] theorem cmdKeyNarrowMask_boot : (cmdKeyNarrowMask.run s n tag p).1.boot = s.boot := by simp [cmdKeyNarrowMask]
@[simp] theorem cmdKeyGetAttr_boot : (cmdKeyGetAttr.run s n tag p).1.boot = s.boot := by simp [cmdKeyGetAttr]
@[simp] theorem cmdKeySetService_boot : (cmdKeySetService.run s n tag p).1.boot = s.boot := by simp [cmdKeySetService]
@[simp] theorem cmdKeyGetCounters_boot : (cmdKeyGetCounters.run s n tag p).1.boot = s.boot := by simp [cmdKeyGetCounters]
@[simp] theorem cmdKeyClearCounters_boot : (cmdKeyClearCounters.run s n tag p).1.boot = s.boot := by simp [cmdKeyClearCounters]

/-! Runs of the port commands. -/

@[simp] theorem cmdPortGetCaps_boot : (cmdPortGetCaps.run s n tag p).1.boot = s.boot := by simp [cmdPortGetCaps]
@[simp] theorem cmdPortSetMode_boot : (cmdPortSetMode.run s n tag p).1.boot = s.boot := by simp [cmdPortSetMode]
@[simp] theorem cmdPortGetMode_boot : (cmdPortGetMode.run s n tag p).1.boot = s.boot := by simp [cmdPortGetMode]
@[simp] theorem cmdPortGetStatus_boot : (cmdPortGetStatus.run s n tag p).1.boot = s.boot := by simp [cmdPortGetStatus]
@[simp] theorem cmdPortForgetCoeffs_boot : (cmdPortForgetCoeffs.run s n tag p).1.boot = s.boot := by simp [cmdPortForgetCoeffs]
@[simp] theorem cmdPortSetWake_boot : (cmdPortSetWake.run s n tag p).1.boot = s.boot := by simp [cmdPortSetWake]
@[simp] theorem cmdPortSendWake_boot : (cmdPortSendWake.run s n tag p).1.boot = s.boot := by simp [cmdPortSendWake]
@[simp] theorem cmdPortSetPodl_boot : (cmdPortSetPodl.run s n tag p).1.boot = s.boot := by simp [cmdPortSetPodl]
@[simp] theorem cmdPortPodlControl_boot : (cmdPortPodlControl.run s n tag p).1.boot = s.boot := by simp [cmdPortPodlControl]
@[simp] theorem cmdPortGetPodl_boot : (cmdPortGetPodl.run s n tag p).1.boot = s.boot := by simp [cmdPortGetPodl]
@[simp] theorem cmdPortGetPhyCounters_boot : (cmdPortGetPhyCounters.run s n tag p).1.boot = s.boot := by simp [cmdPortGetPhyCounters]
@[simp] theorem cmdPortClearPhyCounters_boot : (cmdPortClearPhyCounters.run s n tag p).1.boot = s.boot := by
  simp [cmdPortClearPhyCounters]

/-! Runs of the customs commands. -/

@[simp] theorem cmdCustGetCaps_boot : (cmdCustGetCaps.run s n tag p).1.boot = s.boot := by simp [cmdCustGetCaps]
@[simp] theorem cmdCustSetZone_boot : (cmdCustSetZone.run s n tag p).1.boot = s.boot := by simp [cmdCustSetZone]
@[simp] theorem cmdCustSetZoneMap_boot : (cmdCustSetZoneMap.run s n tag p).1.boot = s.boot := by simp [cmdCustSetZoneMap]
@[simp] theorem cmdCustSetPair_boot : (cmdCustSetPair.run s n tag p).1.boot = s.boot := by simp [cmdCustSetPair]
@[simp] theorem cmdCustSetRule_boot : (cmdCustSetRule.run s n tag p).1.boot = s.boot := by simp [cmdCustSetRule]
@[simp] theorem cmdCustClearRules_boot : (cmdCustClearRules.run s n tag p).1.boot = s.boot := by simp [cmdCustClearRules]
@[simp] theorem cmdCustGetRule_boot : (cmdCustGetRule.run s n tag p).1.boot = s.boot := by simp [cmdCustGetRule]
@[simp] theorem cmdCustSetCanRule_boot : (cmdCustSetCanRule.run s n tag p).1.boot = s.boot := by simp [cmdCustSetCanRule]
@[simp] theorem cmdCustGetCanRule_boot : (cmdCustGetCanRule.run s n tag p).1.boot = s.boot := by simp [cmdCustGetCanRule]
@[simp] theorem cmdCustSetCanDefault_boot : (cmdCustSetCanDefault.run s n tag p).1.boot = s.boot := by simp [cmdCustSetCanDefault]
@[simp] theorem cmdCustSwap_boot : (cmdCustSwap.run s n tag p).1.boot = s.boot := by simp [cmdCustSwap]
@[simp] theorem cmdCustGetGen_boot : (cmdCustGetGen.run s n tag p).1.boot = s.boot := by simp [cmdCustGetGen]
@[simp] theorem cmdCustSetConvTimeouts_boot : (cmdCustSetConvTimeouts.run s n tag p).1.boot = s.boot := by
  simp [cmdCustSetConvTimeouts]
@[simp] theorem cmdCustFlushConv_boot : (cmdCustFlushConv.run s n tag p).1.boot = s.boot := by simp [cmdCustFlushConv]
@[simp] theorem cmdCustReadConv_boot : (cmdCustReadConv.run s n tag p).1.boot = s.boot := by simp [cmdCustReadConv]
@[simp] theorem cmdCustQuarantine_boot : (cmdCustQuarantine.run s n tag p).1.boot = s.boot := by simp [cmdCustQuarantine]
@[simp] theorem cmdCustGetCounters_boot : (cmdCustGetCounters.run s n tag p).1.boot = s.boot := by simp [cmdCustGetCounters]
@[simp] theorem cmdCustClearCounters_boot : (cmdCustClearCounters.run s n tag p).1.boot = s.boot := by simp [cmdCustClearCounters]

/-! Runs of the relay commands. -/

@[simp] theorem cmdRouteGetCaps_boot : (cmdRouteGetCaps.run s n tag p).1.boot = s.boot := by simp [cmdRouteGetCaps]
@[simp] theorem cmdRouteSetRule_boot : (cmdRouteSetRule.run s n tag p).1.boot = s.boot := by simp [cmdRouteSetRule]
@[simp] theorem cmdRouteClear_boot : (cmdRouteClear.run s n tag p).1.boot = s.boot := by simp [cmdRouteClear]
@[simp] theorem cmdRouteGetRule_boot : (cmdRouteGetRule.run s n tag p).1.boot = s.boot := by simp [cmdRouteGetRule]
@[simp] theorem cmdRouteSwap_boot : (cmdRouteSwap.run s n tag p).1.boot = s.boot := by simp [cmdRouteSwap]
@[simp] theorem cmdRouteGetGen_boot : (cmdRouteGetGen.run s n tag p).1.boot = s.boot := by simp [cmdRouteGetGen]
@[simp] theorem cmdRouteSetTunnel_boot : (cmdRouteSetTunnel.run s n tag p).1.boot = s.boot := by simp [cmdRouteSetTunnel]

@[simp] theorem cmdRouteGetTunnel_boot : (cmdRouteGetTunnel.run s n tag p).1.boot = s.boot := by
  dsimp only [cmdRouteGetTunnel]
  split <;> simp

@[simp] theorem cmdRouteSetEngine_boot : (cmdRouteSetEngine.run s n tag p).1.boot = s.boot := by simp [cmdRouteSetEngine]
@[simp] theorem cmdRouteGetEngines_boot : (cmdRouteGetEngines.run s n tag p).1.boot = s.boot := by simp [cmdRouteGetEngines]
@[simp] theorem cmdRouteGetCounters_boot : (cmdRouteGetCounters.run s n tag p).1.boot = s.boot := by simp [cmdRouteGetCounters]
@[simp] theorem cmdRouteClearCounters_boot : (cmdRouteClearCounters.run s n tag p).1.boot = s.boot := by simp [cmdRouteClearCounters]
@[simp] theorem cmdEscGetCaps_boot : (cmdEscGetCaps.run s n tag p).1.boot = s.boot := by simp [cmdEscGetCaps]
@[simp] theorem cmdEscSetConfig_boot : (cmdEscSetConfig.run s n tag p).1.boot = s.boot := by simp [cmdEscSetConfig]
@[simp] theorem cmdEscGetStatus_boot : (cmdEscGetStatus.run s n tag p).1.boot = s.boot := by simp [cmdEscGetStatus]
@[simp] theorem cmdEscSetSafe_boot : (cmdEscSetSafe.run s n tag p).1.boot = s.boot := by simp [cmdEscSetSafe]
@[simp] theorem cmdEscGetSafe_boot : (cmdEscGetSafe.run s n tag p).1.boot = s.boot := by simp [cmdEscGetSafe]
@[simp] theorem cmdEscAckFault_boot : (cmdEscAckFault.run s n tag p).1.boot = s.boot := by simp [cmdEscAckFault]
@[simp] theorem cmdEscTestEngine_boot : (cmdEscTestEngine.run s n tag p).1.boot = s.boot := by simp [cmdEscTestEngine]
@[simp] theorem cmdEscInject_boot : (cmdEscInject.run s n tag p).1.boot = s.boot := by simp [cmdEscInject]
@[simp] theorem cmdEscGetCounters_boot : (cmdEscGetCounters.run s n tag p).1.boot = s.boot := by simp [cmdEscGetCounters]
@[simp] theorem cmdEscClearCounters_boot : (cmdEscClearCounters.run s n tag p).1.boot = s.boot := by simp [cmdEscClearCounters]

/-! Runs of the power and grants commands. -/

@[simp] theorem cmdPwrGetCaps_boot : (cmdPwrGetCaps.run s n tag p).1.boot = s.boot := by simp [cmdPwrGetCaps]
@[simp] theorem cmdPwrGetStatus_boot : (cmdPwrGetStatus.run s n tag p).1.boot = s.boot := by simp [cmdPwrGetStatus]
@[simp] theorem cmdPwrSetCeiling_boot : (cmdPwrSetCeiling.run s n tag p).1.boot = s.boot := by simp [cmdPwrSetCeiling]
@[simp] theorem cmdPwrSetBoardBudget_boot : (cmdPwrSetBoardBudget.run s n tag p).1.boot = s.boot := by simp [cmdPwrSetBoardBudget]
@[simp] theorem cmdPwrSetDomain_boot : (cmdPwrSetDomain.run s n tag p).1.boot = s.boot := by simp [cmdPwrSetDomain]
@[simp] theorem cmdPwrGetGrants_boot : (cmdPwrGetGrants.run s n tag p).1.boot = s.boot := by simp [cmdPwrGetGrants]
@[simp] theorem cmdPwrGetCounters_boot : (cmdPwrGetCounters.run s n tag p).1.boot = s.boot := by simp [cmdPwrGetCounters]
@[simp] theorem cmdPwrClearCounters_boot : (cmdPwrClearCounters.run s n tag p).1.boot = s.boot := by simp [cmdPwrClearCounters]

/-! Runs of the clock servo and synchronisation commands. -/

@[simp] theorem cmdTimeGetCaps_boot : (cmdTimeGetCaps.run s n tag p).1.boot = s.boot := by simp [cmdTimeGetCaps]
@[simp] theorem cmdTimeGetNow_boot : (cmdTimeGetNow.run s n tag p).1.boot = s.boot := by simp [cmdTimeGetNow]
@[simp] theorem cmdTimeSetSource_boot : (cmdTimeSetSource.run s n tag p).1.boot = s.boot := by simp [cmdTimeSetSource]
@[simp] theorem cmdTimeNewEpoch_boot : (cmdTimeNewEpoch.run s n tag p).1.boot = s.boot := by simp [cmdTimeNewEpoch]
@[simp] theorem cmdTimeStep_boot : (cmdTimeStep.run s n tag p).1.boot = s.boot := by simp [cmdTimeStep]

@[simp] theorem cmdTimeSetRate_boot : (cmdTimeSetRate.run s n tag p).1.boot = s.boot := s.modTime_boot _

@[simp] theorem cmdTimeSetDomain_boot : (cmdTimeSetDomain.run s n tag p).1.boot = s.boot := by simp [cmdTimeSetDomain]
@[simp] theorem cmdTimeEnableDomain_boot : (cmdTimeEnableDomain.run s n tag p).1.boot = s.boot := by simp [cmdTimeEnableDomain]
@[simp] theorem cmdTimeGetDomain_boot : (cmdTimeGetDomain.run s n tag p).1.boot = s.boot := by simp [cmdTimeGetDomain]
@[simp] theorem cmdTimeSetPort_boot : (cmdTimeSetPort.run s n tag p).1.boot = s.boot := by simp [cmdTimeSetPort]
@[simp] theorem cmdTimeSetAlarm_boot : (cmdTimeSetAlarm.run s n tag p).1.boot = s.boot := by simp [cmdTimeSetAlarm]
@[simp] theorem cmdTimeSetIo_boot : (cmdTimeSetIo.run s n tag p).1.boot = s.boot := by simp [cmdTimeSetIo]
@[simp] theorem cmdTimeReadCaptures_boot : (cmdTimeReadCaptures.run s n tag p).1.boot = s.boot := by simp [cmdTimeReadCaptures]
@[simp] theorem cmdTimeGetCounters_boot : (cmdTimeGetCounters.run s n tag p).1.boot = s.boot := by simp [cmdTimeGetCounters]

/-! Runs of the sleep commands. -/

@[simp] theorem cmdSleepGetCaps_boot : (cmdSleepGetCaps.run s n tag p).1.boot = s.boot := by simp [cmdSleepGetCaps]
@[simp] theorem cmdSleepRequest_boot : (cmdSleepRequest.run s n tag p).1.boot = s.boot := by simp [cmdSleepRequest]
@[simp] theorem cmdSleepCancel_boot : (cmdSleepCancel.run s n tag p).1.boot = s.boot := by simp [cmdSleepCancel]
@[simp] theorem cmdSleepGetStatus_boot : (cmdSleepGetStatus.run s n tag p).1.boot = s.boot := by simp [cmdSleepGetStatus]
@[simp] theorem cmdSleepSegment_boot : (cmdSleepSegment.run s n tag p).1.boot = s.boot := by simp [cmdSleepSegment]
@[simp] theorem cmdSleepSetPin_boot : (cmdSleepSetPin.run s n tag p).1.boot = s.boot := by simp [cmdSleepSetPin]
@[simp] theorem cmdSleepSetCanWake_boot : (cmdSleepSetCanWake.run s n tag p).1.boot = s.boot := by simp [cmdSleepSetCanWake]
@[simp] theorem cmdSleepSetNm_boot : (cmdSleepSetNm.run s n tag p).1.boot = s.boot := by simp [cmdSleepSetNm]
@[simp] theorem cmdSleepSetHostWake_boot : (cmdSleepSetHostWake.run s n tag p).1.boot = s.boot := by simp [cmdSleepSetHostWake]
@[simp] theorem cmdSleepSetInh_boot : (cmdSleepSetInh.run s n tag p).1.boot = s.boot := by simp [cmdSleepSetInh]
@[simp] theorem cmdSleepGetWakeRecord_boot : (cmdSleepGetWakeRecord.run s n tag p).1.boot = s.boot := by simp [cmdSleepGetWakeRecord]
@[simp] theorem cmdSleepGetCounters_boot : (cmdSleepGetCounters.run s n tag p).1.boot = s.boot := by simp [cmdSleepGetCounters]
@[simp] theorem cmdSleepClearCounters_boot : (cmdSleepClearCounters.run s n tag p).1.boot = s.boot := by simp [cmdSleepClearCounters]

/-! Runs of the cipher contexts commands. -/

@[simp] theorem cmdCryptGetCaps_boot : (cmdCryptGetCaps.run s n tag p).1.boot = s.boot := by simp [cmdCryptGetCaps]
@[simp] theorem cmdCryptSetPort_boot : (cmdCryptSetPort.run s n tag p).1.boot = s.boot := by simp [cmdCryptSetPort]

@[simp] theorem cmdCryptSetMka_boot : (cmdCryptSetMka.run s n tag p).1.boot = s.boot := by
  dsimp only [cmdCryptSetMka]
  have hr : (if (byteAt p 1 == 1) = true then s.useKey none (le p 4 2) 4 [6, 7] else (none, s)).2.boot = s.boot := by simp
  split
  all_goals next h => simp [boot_of_eq h hr]

@[simp] theorem cmdCryptInstallSa_boot : (cmdCryptInstallSa.run s n tag p).1.boot = s.boot := by
  dsimp only [cmdCryptInstallSa]
  split
  all_goals next h => simp [boot_of_eq h (s.useKey_boot ..)]

@[simp] theorem cmdCryptSetTxAn_boot : (cmdCryptSetTxAn.run s n tag p).1.boot = s.boot := by
  dsimp only [cmdCryptSetTxAn]
  split <;> simp

@[simp] theorem cmdCryptDeleteSa_boot : (cmdCryptDeleteSa.run s n tag p).1.boot = s.boot := by
  dsimp only [cmdCryptDeleteSa]
  split <;> simp

@[simp] theorem cmdCryptGetSa_boot : (cmdCryptGetSa.run s n tag p).1.boot = s.boot := by simp [cmdCryptGetSa]

@[simp] theorem cmdCryptSetProfile_boot : (cmdCryptSetProfile.run s n tag p).1.boot = s.boot := by
  dsimp only [cmdCryptSetProfile]
  have hr (k : List Nat) (c : Nat) :
      (if cmacKind (byteAt p 4) = true then s.useKey none (le p 16 2) c k else (none, s)).2.boot = s.boot := by simp
  split
  all_goals next h => simp [boot_of_eq h (hr ..)]

@[simp] theorem cmdCryptGetProfile_boot : (cmdCryptGetProfile.run s n tag p).1.boot = s.boot := by simp [cmdCryptGetProfile]

@[simp] theorem cmdCryptOpen_boot : (cmdCryptOpen.run s n tag p).1.boot = s.boot := by
  dsimp only [cmdCryptOpen]
  split
  · simp
  · split
    · rfl
    · split
      all_goals next h => simp [boot_of_eq h (s.useKey_boot ..)]

@[simp] theorem cmdCryptUpdate_boot : (cmdCryptUpdate.run s n tag p).1.boot = s.boot :=
  ctxStep_boot s p fun x => by simp

@[simp] theorem cmdCryptFinal_boot : (cmdCryptFinal.run s n tag p).1.boot = s.boot :=
  ctxStep_boot s p fun x => by
    extract_lets i want len t
    clear_value want
    split
    · rfl
    · split
      · simp
      · split <;> simp [t]

@[simp] theorem cmdCryptSave_boot : (cmdCryptSave.run s n tag p).1.boot = s.boot :=
  ctxStep_boot s p fun x => by simp

@[simp] theorem cmdCryptRestore_boot : (cmdCryptRestore.run s n tag p).1.boot = s.boot := by
  dsimp only [cmdCryptRestore]
  split
  · rfl
  · split
    · simp
    · split
      · rfl
      · split
        all_goals next h => simp [boot_of_eq h (s.useKey_boot ..)]

@[simp] theorem cmdCryptOneshot_boot : (cmdCryptOneshot.run s n tag p).1.boot = s.boot := by
  dsimp only [cmdCryptOneshot]
  split
  · simp
  · split
    · next h => exact boot_of_eq h (s.useKey_boot ..)
    · next t h =>
      have ht : t.boot = s.boot := boot_of_eq h (s.useKey_boot ..)
      split
      · exact ht
      · split
        · simp [ht]
        · split <;> simp [ht]

@[simp] theorem cmdCryptBreakLock_boot : (cmdCryptBreakLock.run s n tag p).1.boot = s.boot := by simp [cmdCryptBreakLock]
@[simp] theorem cmdCryptGetCounters_boot : (cmdCryptGetCounters.run s n tag p).1.boot = s.boot := by simp [cmdCryptGetCounters]
@[simp] theorem cmdCryptClearCounters_boot : (cmdCryptClearCounters.run s n tag p).1.boot = s.boot := by simp [cmdCryptClearCounters]

/-! Runs of the measurements commands. -/

@[simp] theorem cmdMeasGetCaps_boot : (cmdMeasGetCaps.run s n tag p).1.boot = s.boot := by simp [cmdMeasGetCaps]
@[simp] theorem cmdMeasRead_boot : (cmdMeasRead.run s n tag p).1.boot = s.boot := by simp [cmdMeasRead]
@[simp] theorem cmdMeasRunTdr_boot : (cmdMeasRunTdr.run s n tag p).1.boot = s.boot := by simp [cmdMeasRunTdr]
@[simp] theorem cmdMeasRunTerm_boot : (cmdMeasRunTerm.run s n tag p).1.boot = s.boot := by simp [cmdMeasRunTerm]
@[simp] theorem cmdMeasGetPartner_boot : (cmdMeasGetPartner.run s n tag p).1.boot = s.boot := by simp [cmdMeasGetPartner]

/-! Runs of the drover commands. -/

@[simp] theorem cmdDrovGetCaps_boot : (cmdDrovGetCaps.run s n tag p).1.boot = s.boot := by simp [cmdDrovGetCaps]
@[simp] theorem cmdDrovGrant_boot : (cmdDrovGrant.run s n tag p).1.boot = s.boot := by simp [cmdDrovGrant]
@[simp] theorem cmdDrovRevoke_boot : (cmdDrovRevoke.run s n tag p).1.boot = s.boot := by simp [cmdDrovRevoke]
@[simp] theorem cmdDrovGetMandate_boot : (cmdDrovGetMandate.run s n tag p).1.boot = s.boot := by simp [cmdDrovGetMandate]
@[simp] theorem cmdDrovReadLedger_boot : (cmdDrovReadLedger.run s n tag p).1.boot = s.boot := by simp [cmdDrovReadLedger]
@[simp] theorem cmdDrovPause_boot : (cmdDrovPause.run s n tag p).1.boot = s.boot := by simp [cmdDrovPause]
@[simp] theorem cmdDrovGetCounters_boot : (cmdDrovGetCounters.run s n tag p).1.boot = s.boot := by simp [cmdDrovGetCounters]
@[simp] theorem cmdDrovClearCounters_boot : (cmdDrovClearCounters.run s n tag p).1.boot = s.boot := by simp [cmdDrovClearCounters]

/-! Runs of the system commands. -/

@[simp] theorem cmdSysGetCaps_boot : (cmdSysGetCaps.run s n tag p).1.boot = s.boot := by simp [cmdSysGetCaps]
@[simp] theorem cmdSysGetInfo_boot : (cmdSysGetInfo.run s n tag p).1.boot = s.boot := by simp [cmdSysGetInfo]
@[simp] theorem cmdSysPing_boot : (cmdSysPing.run s n tag p).1.boot = s.boot := by simp [cmdSysPing]
@[simp] theorem cmdSysReset_boot : (cmdSysReset.run s n tag p).1.boot = s.boot := by simp [cmdSysReset]
@[simp] theorem cmdSysGpioConfig_boot : (cmdSysGpioConfig.run s n tag p).1.boot = s.boot := by simp [cmdSysGpioConfig]
@[simp] theorem cmdSysGpioWrite_boot : (cmdSysGpioWrite.run s n tag p).1.boot = s.boot := by simp [cmdSysGpioWrite]
@[simp] theorem cmdSysGpioRead_boot : (cmdSysGpioRead.run s n tag p).1.boot = s.boot := by simp [cmdSysGpioRead]
@[simp] theorem cmdSysI2cXfer_boot : (cmdSysI2cXfer.run s n tag p).1.boot = s.boot := by simp [cmdSysI2cXfer]
@[simp] theorem cmdSysMdioAccess_boot : (cmdSysMdioAccess.run s n tag p).1.boot = s.boot := by simp [cmdSysMdioAccess]
@[simp] theorem cmdFdbGetCaps_boot : (cmdFdbGetCaps.run s n tag p).1.boot = s.boot := by simp [cmdFdbGetCaps]

/-! Runs of the slot commands. -/

@[simp] theorem cmdSlotGetCaps_boot : (cmdSlotGetCaps.run s n tag p).1.boot = s.boot := by simp [cmdSlotGetCaps]
@[simp] theorem cmdSlotOpen_boot : (cmdSlotOpen.run s n tag p).1.boot = s.boot := by simp [cmdSlotOpen]
@[simp] theorem cmdSlotClose_boot : (cmdSlotClose.run s n tag p).1.boot = s.boot := by simp [cmdSlotClose]

@[simp] theorem cmdSlotBind_boot : (cmdSlotBind.run s n tag p).1.boot = s.boot := by
  dsimp only [cmdSlotBind]
  have hr : (if byteAt p 1 = 2 then s.useKey (some n) (le p 12 2) 4 [6, 7] else (none, s)).2.boot = s.boot := by simp
  split
  all_goals next h => simp [boot_of_eq h hr]

@[simp] theorem cmdSlotUnbind_boot : (cmdSlotUnbind.run s n tag p).1.boot = s.boot := by simp [cmdSlotUnbind]
@[simp] theorem cmdSlotGrant_boot : (cmdSlotGrant.run s n tag p).1.boot = s.boot := by simp [cmdSlotGrant]
@[simp] theorem cmdSlotRevoke_boot : (cmdSlotRevoke.run s n tag p).1.boot = s.boot := by simp [cmdSlotRevoke]
@[simp] theorem cmdSlotGetState_boot : (cmdSlotGetState.run s n tag p).1.boot = s.boot := by simp [cmdSlotGetState]
@[simp] theorem cmdSlotSetReadPolicy_boot : (cmdSlotSetReadPolicy.run s n tag p).1.boot = s.boot := by simp [cmdSlotSetReadPolicy]
@[simp] theorem cmdSlotFence_boot : (cmdSlotFence.run s n tag p).1.boot = s.boot := by simp [cmdSlotFence]
@[simp] theorem cmdSlotUnfence_boot : (cmdSlotUnfence.run s n tag p).1.boot = s.boot := by simp [cmdSlotUnfence]
@[simp] theorem cmdSlotGetOwner_boot : (cmdSlotGetOwner.run s n tag p).1.boot = s.boot := by simp [cmdSlotGetOwner]
@[simp] theorem cmdSlotGetStats_boot : (cmdSlotGetStats.run s n tag p).1.boot = s.boot := by simp [cmdSlotGetStats]
@[simp] theorem cmdSlotSetWritePermit_boot : (cmdSlotSetWritePermit.run s n tag p).1.boot = s.boot := by simp [cmdSlotSetWritePermit]

@[simp] theorem cmdSlotRekey_boot : (cmdSlotRekey.run s n tag p).1.boot = s.boot := by
  dsimp only [cmdSlotRekey]
  split
  · next h => simp [boot_of_eq h (s.useKey_boot ..)]
  · next h => split <;> simp [boot_of_eq h (s.useKey_boot ..)]

/-! Runs of the diagnostic commands. -/

@[simp] theorem cmdDiagGetCaps_boot : (cmdDiagGetCaps.run s n tag p).1.boot = s.boot := by simp [cmdDiagGetCaps]
@[simp] theorem cmdDiagGetBootRecord_boot : (cmdDiagGetBootRecord.run s n tag p).1.boot = s.boot := by simp [cmdDiagGetBootRecord]

@[simp] theorem cmdDiagAdvanceSecver_keyrevFused : (cmdDiagAdvanceSecver.run s n tag p).1.boot.keyrevFused = s.boot.keyrevFused :=
  s.fuses_boot fun _ => rfl

@[simp] theorem cmdDiagLcsTransition_keyrevFused : (cmdDiagLcsTransition.run s n tag p).1.boot.keyrevFused = s.boot.keyrevFused :=
  s.fuses_boot fun u => by split <;> rfl

@[simp] theorem cmdDiagUnlockChallenge_boot : (cmdDiagUnlockChallenge.run s n tag p).1.boot = s.boot := by
  dsimp only [cmdDiagUnlockChallenge]
  split
  all_goals next h => simp [boot_of_eq h (s.useKey_boot ..)]

@[simp] theorem cmdDiagUnlockResponse_boot : (cmdDiagUnlockResponse.run s n tag p).1.boot = s.boot := by simp [cmdDiagUnlockResponse]
@[simp] theorem cmdDiagRelock_boot : (cmdDiagRelock.run s n tag p).1.boot = s.boot := by simp [cmdDiagRelock]

/-! Runs of the gate commands. -/

@[simp] theorem cmdGateGetCaps_boot : (cmdGateGetCaps.run s n tag p).1.boot = s.boot := by simp [cmdGateGetCaps]
@[simp] theorem cmdGateSetAdminHeader_boot : (cmdGateSetAdminHeader.run s n tag p).1.boot = s.boot := by simp [cmdGateSetAdminHeader]
@[simp] theorem cmdGateSetAdminEntries_boot : (cmdGateSetAdminEntries.run s n tag p).1.boot = s.boot := by
  simp [cmdGateSetAdminEntries]
@[simp] theorem cmdGateGetList_boot : (cmdGateGetList.run s n tag p).1.boot = s.boot := by simp [cmdGateGetList]
@[simp] theorem cmdGateCommitAdmin_boot : (cmdGateCommitAdmin.run s n tag p).1.boot = s.boot := by simp [cmdGateCommitAdmin]
@[simp] theorem cmdGateCancelChange_boot : (cmdGateCancelChange.run s n tag p).1.boot = s.boot := by simp [cmdGateCancelChange]
@[simp] theorem cmdGateGetStatus_boot : (cmdGateGetStatus.run s n tag p).1.boot = s.boot := by simp [cmdGateGetStatus]
@[simp] theorem cmdGateSetQueueTiming_boot : (cmdGateSetQueueTiming.run s n tag p).1.boot = s.boot := by simp [cmdGateSetQueueTiming]
@[simp] theorem cmdGateGetQueueTiming_boot : (cmdGateGetQueueTiming.run s n tag p).1.boot = s.boot := by simp [cmdGateGetQueueTiming]
@[simp] theorem cmdGateSetPreempt_boot : (cmdGateSetPreempt.run s n tag p).1.boot = s.boot := by simp [cmdGateSetPreempt]
@[simp] theorem cmdGateGetCounters_boot : (cmdGateGetCounters.run s n tag p).1.boot = s.boot := by simp [cmdGateGetCounters]
@[simp] theorem cmdGateClearCounters_boot : (cmdGateClearCounters.run s n tag p).1.boot = s.boot := by simp [cmdGateClearCounters]

/-! Runs of the port and FDB commands. -/

@[simp] theorem cmdPortSetFwdConfig_boot : (cmdPortSetFwdConfig.run s n tag p).1.boot = s.boot := by simp [cmdPortSetFwdConfig]
@[simp] theorem cmdPortGetFwdConfig_boot : (cmdPortGetFwdConfig.run s n tag p).1.boot = s.boot := by simp [cmdPortGetFwdConfig]
@[simp] theorem cmdPortGetCounters_boot : (cmdPortGetCounters.run s n tag p).1.boot = s.boot := by simp [cmdPortGetCounters]
@[simp] theorem cmdPortClearCounters_boot : (cmdPortClearCounters.run s n tag p).1.boot = s.boot := by simp [cmdPortClearCounters]
@[simp] theorem cmdPortGetPipelineStats_boot : (cmdPortGetPipelineStats.run s n tag p).1.boot = s.boot := by
  simp [cmdPortGetPipelineStats]

@[simp] theorem cmdFdbAdd_boot : (cmdFdbAdd.run s n tag p).1.boot = s.boot := by
  dsimp only [cmdFdbAdd]
  split <;> simp

@[simp] theorem cmdFdbDelete_boot : (cmdFdbDelete.run s n tag p).1.boot = s.boot := by
  dsimp only [cmdFdbDelete]
  split <;> simp

@[simp] theorem cmdFdbLookup_boot : (cmdFdbLookup.run s n tag p).1.boot = s.boot := by simp [cmdFdbLookup]
@[simp] theorem cmdFdbFlush_boot : (cmdFdbFlush.run s n tag p).1.boot = s.boot := by simp [cmdFdbFlush]
@[simp] theorem cmdFdbSetAging_boot : (cmdFdbSetAging.run s n tag p).1.boot = s.boot := by simp [cmdFdbSetAging]
@[simp] theorem cmdFdbRead_boot : (cmdFdbRead.run s n tag p).1.boot = s.boot := by simp [cmdFdbRead]
@[simp] theorem cmdFdbSetVlan_boot : (cmdFdbSetVlan.run s n tag p).1.boot = s.boot := by simp [cmdFdbSetVlan]
@[simp] theorem cmdFdbDeleteVlan_boot : (cmdFdbDeleteVlan.run s n tag p).1.boot = s.boot := by simp [cmdFdbDeleteVlan]
@[simp] theorem cmdFdbGetVlan_boot : (cmdFdbGetVlan.run s n tag p).1.boot = s.boot := by simp [cmdFdbGetVlan]

/-! Runs of the redundancy commands. -/

@[simp] theorem cmdRedGetCaps_boot : (cmdRedGetCaps.run s n tag p).1.boot = s.boot := by simp [cmdRedGetCaps]
@[simp] theorem cmdRedSetGenerator_boot : (cmdRedSetGenerator.run s n tag p).1.boot = s.boot := by simp [cmdRedSetGenerator]
@[simp] theorem cmdRedSetRecovery_boot : (cmdRedSetRecovery.run s n tag p).1.boot = s.boot := by simp [cmdRedSetRecovery]
@[simp] theorem cmdRedEnable_boot : (cmdRedEnable.run s n tag p).1.boot = s.boot := by simp [cmdRedEnable]
@[simp] theorem cmdRedGetInstance_boot : (cmdRedGetInstance.run s n tag p).1.boot = s.boot := by simp [cmdRedGetInstance]
@[simp] theorem cmdRedSetProtect_boot : (cmdRedSetProtect.run s n tag p).1.boot = s.boot := by simp [cmdRedSetProtect]
@[simp] theorem cmdRedForce_boot : (cmdRedForce.run s n tag p).1.boot = s.boot := by simp [cmdRedForce]
@[simp] theorem cmdRedGetProtect_boot : (cmdRedGetProtect.run s n tag p).1.boot = s.boot := by simp [cmdRedGetProtect]
@[simp] theorem cmdRedSubscribe_boot : (cmdRedSubscribe.run s n tag p).1.boot = s.boot := by simp [cmdRedSubscribe]
@[simp] theorem cmdRedGetCounters_boot : (cmdRedGetCounters.run s n tag p).1.boot = s.boot := by simp [cmdRedGetCounters]
@[simp] theorem cmdRedClearCounters_boot : (cmdRedClearCounters.run s n tag p).1.boot = s.boot := by simp [cmdRedClearCounters]

/-! Runs of the scheduler commands. -/

@[simp] theorem cmdSchedGetCaps_boot : (cmdSchedGetCaps.run s n tag p).1.boot = s.boot := by simp [cmdSchedGetCaps]
@[simp] theorem cmdSchedSetQueue_boot : (cmdSchedSetQueue.run s n tag p).1.boot = s.boot := by simp [cmdSchedSetQueue]
@[simp] theorem cmdSchedGetQueue_boot : (cmdSchedGetQueue.run s n tag p).1.boot = s.boot := by simp [cmdSchedGetQueue]
@[simp] theorem cmdSchedSetShaper_boot : (cmdSchedSetShaper.run s n tag p).1.boot = s.boot := by simp [cmdSchedSetShaper]
@[simp] theorem cmdSchedGetShaper_boot : (cmdSchedGetShaper.run s n tag p).1.boot = s.boot := by simp [cmdSchedGetShaper]
@[simp] theorem cmdSchedSetMeter_boot : (cmdSchedSetMeter.run s n tag p).1.boot = s.boot := by simp [cmdSchedSetMeter]
@[simp] theorem cmdSchedGetMeter_boot : (cmdSchedGetMeter.run s n tag p).1.boot = s.boot := by simp [cmdSchedGetMeter]
@[simp] theorem cmdSchedSetStreamId_boot : (cmdSchedSetStreamId.run s n tag p).1.boot = s.boot := by simp [cmdSchedSetStreamId]
@[simp] theorem cmdSchedGetStreamId_boot : (cmdSchedGetStreamId.run s n tag p).1.boot = s.boot := by simp [cmdSchedGetStreamId]
@[simp] theorem cmdSchedSwapStreamId_boot : (cmdSchedSwapStreamId.run s n tag p).1.boot = s.boot := by simp [cmdSchedSwapStreamId]
@[simp] theorem cmdSchedSetFilter_boot : (cmdSchedSetFilter.run s n tag p).1.boot = s.boot := by simp [cmdSchedSetFilter]
@[simp] theorem cmdSchedGetFilter_boot : (cmdSchedGetFilter.run s n tag p).1.boot = s.boot := by simp [cmdSchedGetFilter]
@[simp] theorem cmdSchedSetStreamGate_boot : (cmdSchedSetStreamGate.run s n tag p).1.boot = s.boot := by simp [cmdSchedSetStreamGate]
@[simp] theorem cmdSchedGetStreamGate_boot : (cmdSchedGetStreamGate.run s n tag p).1.boot = s.boot := by simp [cmdSchedGetStreamGate]
@[simp] theorem cmdSchedClearBlocked_boot : (cmdSchedClearBlocked.run s n tag p).1.boot = s.boot := by simp [cmdSchedClearBlocked]

@[simp] theorem cmdSchedSetAdmission_boot : (cmdSchedSetAdmission.run s n tag p).1.boot = s.boot := by
  dsimp only [cmdSchedSetAdmission]
  rw [State.maybeCommit_boot]
  split <;> simp

@[simp] theorem cmdSchedGetAdmission_boot : (cmdSchedGetAdmission.run s n tag p).1.boot = s.boot := by simp [cmdSchedGetAdmission]
@[simp] theorem cmdSchedSetSampling_boot : (cmdSchedSetSampling.run s n tag p).1.boot = s.boot := by simp [cmdSchedSetSampling]
@[simp] theorem cmdSchedReadHist_boot : (cmdSchedReadHist.run s n tag p).1.boot = s.boot := by simp [cmdSchedReadHist]
@[simp] theorem cmdSchedGetCounters_boot : (cmdSchedGetCounters.run s n tag p).1.boot = s.boot := by simp [cmdSchedGetCounters]
@[simp] theorem cmdSchedClearCounters_boot : (cmdSchedClearCounters.run s n tag p).1.boot = s.boot := by simp [cmdSchedClearCounters]

end Sys2Proof.Machine

/-! A vendor key revoked in the fuses stays revoked (R101). -/

namespace Sys2Proof.Machine

section
variable (s : State)

/-- The front command leaves the boot registers as they are, or as its own execution leaves them. -/
theorem State.execute_boot (c : Cmd) (n : Nat) (excused : Bool) (tag : Half) (p : Bytes) :
    (s.execute c n excused tag p).boot = s.boot ∨ (s.execute c n excused tag p).boot = (c.run s n tag p).1.boot := by
  unfold State.execute
  split
  · exact .inl (s.answerFront_boot ..)
  · split
    · next h => exact .inr (by simp [h])
    · next h => exact .inr (by simp [h])
    · next h =>
      split
      · exact .inl (s.answerFront_boot ..)
      · exact .inr (by simp [h])

/-- A Penyen row leaves the boot registers as they are, or as a run of its command leaves those of a state that has the same. -/
theorem penyen_boot (c : Cmd) (n : Nat) (tag : Half) (p : Bytes) :
    (penyen c n tag p s).boot = s.boot ∨
      ∃ u : State, u.boot = s.boot ∧ (penyen c n tag p s).boot = (c.run u n tag p).1.boot := by
  have hrun (u : State) (hu : u.boot = s.boot) (e : Bool) : (u.execute c n e tag p).boot = s.boot ∨
      ∃ v : State, v.boot = s.boot ∧ (u.execute c n e tag p).boot = (c.run v n tag p).1.boot :=
    (u.execute_boot c n e tag p).imp (Eq.trans · hu) fun h => ⟨u, hu, h⟩
  have htake (now : Option Answer) : (s.take n (BitVec.ofNat 16 c.op) tag p now).boot = s.boot := s.take_boot ..
  unfold penyen
  extract_lets op unbound t
  split
  · exact .inl rfl
  · split
    · split
      · exact .inl rfl
      · split
        · exact hrun (t.serveSlot n) (htake none) _
        · exact .inl (htake none)
    · split
      · split
        · exact hrun (s.serveSlot n) rfl _
        · exact .inl rfl
      · split
        · exact .inl rfl
        · exact .inl (htake none)

theorem penyen_boot_of_run {c : Cmd} {n : Nat} {tag : Half} {p : Bytes} (h : ∀ u : State, (c.run u n tag p).1.boot = u.boot) :
    (penyen c n tag p s).boot = s.boot := by
  obtain hp | ⟨u, hu, hp⟩ := penyen_boot s c n tag p
  · exact hp
  · rw [hp, h, hu]

theorem penyen_keepsRevoked {c : Cmd} {n : Nat} {tag : Half} {p : Bytes}
    (h : ∀ u : State, (c.run u n tag p).1.boot.keyrevFused = u.boot.keyrevFused) : KeepsRevoked s (.next (penyen c n tag p s)) := by
  rw [keepsRevoked_next]
  obtain hp | ⟨u, hu, hp⟩ := penyen_boot s c n tag p
  · rw [hp]
  · rw [hp, h, hu]

/-- DIAG_REVOKE_VENDOR_KEY ors a bit into the fused revocations. -/
theorem cmdDiagRevokeVendorKey_keyrevFused {k : Nat} (h : s.boot.keyrevFused.getLsbD k = true) (n : Nat) (tag : Half) (p : Bytes) :
    ((cmdDiagRevokeVendorKey.run s n tag p).1.boot.keyrevFused).getLsbD k = true := by
  dsimp only [cmdDiagRevokeVendorKey, State.fuses]
  split
  all_goals next hi => simp [boot_of_eq hi (s.immediate_boot 30), h]

theorem execRegisterWrite_keepsRevoked (t : Transport) (a : Nat) (data : Bytes) : KeepsRevoked s (execRegisterWrite t a data s) :=
  .ite (.of_boot (s.pcieWrite_boot ..)) (s.windowWrite_keepsRevoked t a data)

theorem execAliasWrite_keepsRevoked (t : Transport) (a : Nat) (data : Bytes) : KeepsRevoked s (execAliasWrite t a data s) :=
  s.windowWrite_keepsRevoked ..

theorem execSpiWrite_keepsRevoked (p : Fin 2) (a : Nat) (words : List Word) (spare : Bool) :
    KeepsRevoked s (execSpiWrite p a words spare s) :=
  .ite (.of_boot rfl) <| .ite (keepsRevoked_fault s _) <| (spiWords_keepsRevoked (s.spiBegin p 0) ..).of_same rfl

theorem execSpiRead_keepsRevoked (p : Fin 2) (a count : Nat) : KeepsRevoked s (execSpiRead p a count s) := by
  unfold execSpiRead
  refine .ite (.of_boot rfl) ?_
  split
  · exact keepsRevoked_fault s _
  · next h => exact .of_boot ((State.emit_boot ..).trans ((State.spiReadWords_keepsBoot (s.spiBegin p 0) _ _ _).same _ _ h))

theorem execResponseWrite_keepsRevoked (n : Slot) : KeepsRevoked s (execResponseWrite n s) := by
  unfold execResponseWrite
  (repeat' split) <;> simp

theorem execLandingBufferWrite_keepsRevoked (t : Transport) (off : Nat) (data : Bytes) :
    KeepsRevoked s (execLandingBufferWrite t off data s) :=
  s.windowWrite_keepsRevoked ..

theorem execDebuggerWrite_keepsRevoked (e : DebugTarget) (action : DebugAction) : KeepsRevoked s (execDebuggerWrite e action s) := by
  cases e <;> simp [execDebuggerWrite]

theorem execRingTailWrite_keepsRevoked (t : Transport) (n : Slot) (r : Fin 8) (v : Word) (descs : List DescRead) :
    KeepsRevoked s (execRingTailWrite t n r v descs s) :=
  (s.wordWrite_keepsRevoked t _ v).thenDo fun u => by simp

theorem execRxRingDeliver_keepsRevoked (n : Slot) (wb : Option Nat) (descs : List DescRead) :
    KeepsRevoked s (execRxRingDeliver n wb descs s) := by
  unfold execRxRingDeliver
  (repeat' split) <;> simp

theorem execDeepRulePass_keepsRevoked (p : Port) (bytes : Bytes) : KeepsRevoked s (execDeepRulePass p bytes s) := by
  unfold execDeepRulePass
  split <;> simp

theorem execConfirmation_keepsRevoked (p : Port) : KeepsRevoked s (execConfirmation p s) := by
  unfold execConfirmation
  split <;> simp

theorem execTxComplete_keepsRevoked (p : Port) : KeepsRevoked s (execTxComplete p s) := by
  unfold execTxComplete
  split <;> simp

theorem execTuNowLoRead_keepsRevoked (t : Transport) : KeepsRevoked s (execTuNowLoRead t s) := by
  unfold execTuNowLoRead
  split
  · split
    · next h => exact .of_boot ((State.emit_boot ..).trans ((s.windowRead_keepsBoot t _ _).same _ _ h))
    · exact .of_boot rfl
  · exact .of_boot rfl

theorem execCaptureFilterEnd_keepsRevoked (n : Fin 6) (high : Bool) : KeepsRevoked s (execCaptureFilterEnd n high s) := by
  unfold execCaptureFilterEnd
  split <;> simp

theorem execCanDetectDwellEnd_keepsRevoked (c : CanCh) : KeepsRevoked s (execCanDetectDwellEnd c s) := by
  unfold execCanDetectDwellEnd
  (repeat' split) <;> simp

theorem execRelayJobStart_keepsRevoked (e : Engine) (snapshot : Bool) : KeepsRevoked s (execRelayJobStart e snapshot s) := by
  unfold execRelayJobStart
  dsimp only
  split <;> simp

theorem execCheckRunEnd_keepsRevoked (e : Engine) (source : Half) (strikes : List Strike) :
    KeepsRevoked s (execCheckRunEnd e source strikes s) := by
  unfold execCheckRunEnd
  dsimp only
  (repeat' split) <;> simp

theorem execEscortedTimeout_keepsRevoked (e : Engine) (source : Half) : KeepsRevoked s (execEscortedTimeout e source s) := by
  unfold execEscortedTimeout
  (repeat' split) <;> simp

theorem execGpioDebounceEnd_keepsRevoked (pin : Fin 8) : KeepsRevoked s (execGpioDebounceEnd pin s) := by
  unfold execGpioDebounceEnd
  (repeat' split) <;> simp

theorem execWakePinEvent_keepsRevoked (pin : Fin 4) (level : Bool) : KeepsRevoked s (execWakePinEvent pin level s) := by
  unfold execWakePinEvent
  dsimp only
  (repeat' split) <;> simp

theorem execTimeSetRate_keepsRevoked (n : Slot) (tag : Half) (p : Bytes) : KeepsRevoked s (execTimeSetRate n tag p s) :=
  .ite (keepsRevoked_fault s _) (.of_boot (penyen_boot_of_run s fun _ => by simp))

theorem execCanRxRelease_keepsRevoked (n : Slot) (tag : Half) (p : Bytes) : KeepsRevoked s (execCanRxRelease n tag p s) :=
  .ite (keepsRevoked_fault s _) (.of_boot (penyen_boot_of_run s fun _ => by simp))

theorem execSerRxRelease_keepsRevoked (n : Slot) (tag : Half) (p : Bytes) : KeepsRevoked s (execSerRxRelease n tag p s) :=
  .ite (keepsRevoked_fault s _) (.of_boot (penyen_boot_of_run s fun _ => by simp))

theorem execSleepSegment_keepsRevoked (n : Slot) (tag : Half) (p : Bytes) : KeepsRevoked s (execSleepSegment n tag p s) :=
  .of_boot ((State.segSettle_boot _).trans (penyen_boot_of_run s fun _ => by simp))

theorem execSleepRequest_keepsRevoked (n : Slot) (tag : Half) (p : Bytes) : KeepsRevoked s (execSleepRequest n tag p s) := by
  have ht : (penyen cmdSleepRequest n.val tag p s).boot = s.boot := penyen_boot_of_run s fun _ => by simp
  simp [execSleepRequest, ht]

end

/-- Only DIAG_REVOKE_VENDOR_KEY changes which vendor keys the fuses revoke. -/
theorem exec_keepsRevoked (s : State) (i : Instr) (hi : ∀ n tag p, i ≠ .diagRevokeVendorKey n tag p) : KeepsRevoked s (exec i s) := by
  cases i with
  | diagRevokeVendorKey n tag p => exact absurd rfl (hi n tag p)
  | sysGetCaps | sysGetInfo | sysPing | sysReset | sysGpioConfig | sysGpioWrite | sysGpioRead | sysI2cXfer | sysMdioAccess | slotGetCaps
  | slotOpen | slotClose | slotBind | slotUnbind | slotGrant | slotRevoke | slotGetState | slotSetReadPolicy | slotFence | slotUnfence |
  slotGetOwner | slotGetStats | slotSetWritePermit | slotRekey | diagGetCaps | diagGetBootRecord | diagAdvanceSecver | diagLcsTransition
  | diagUnlockChallenge | diagUnlockResponse | diagRelock | portGetCaps | portSetMode | portGetMode | portGetStatus | portForgetCoeffs |
  portSetWake | portSendWake | portSetPodl | portPodlControl | portGetPodl | portGetPhyCounters | portClearPhyCounters |
  portSetFwdConfig | portGetFwdConfig | portGetCounters | portClearCounters | portGetPipelineStats | fdbGetCaps | fdbAdd | fdbDelete |
  fdbLookup | fdbFlush | fdbSetAging | fdbRead | fdbSetVlan | fdbDeleteVlan | fdbGetVlan | custGetCaps | custSetZone | custSetZoneMap |
  custSetPair | custSetRule | custClearRules | custGetRule | custSetCanRule | custGetCanRule | custSetCanDefault | custSwap | custGetGen
  | custSetConvTimeouts | custFlushConv | custReadConv | custQuarantine | custGetCounters | custClearCounters | schedGetCaps |
  schedSetQueue | schedGetQueue | schedSetShaper | schedGetShaper | schedSetMeter | schedGetMeter | schedSetStreamId | schedGetStreamId
  | schedSwapStreamId | schedSetFilter | schedGetFilter | schedSetStreamGate | schedGetStreamGate | schedClearBlocked |
  schedSetAdmission | schedGetAdmission | schedSetSampling | schedReadHist | schedGetCounters | schedClearCounters | gateGetCaps |
  gateSetAdminHeader | gateSetAdminEntries | gateGetList | gateCommitAdmin | gateCancelChange | gateGetStatus | gateSetQueueTiming |
  gateGetQueueTiming | gateSetPreempt | gateGetCounters | gateClearCounters | timeGetCaps | timeGetNow | timeSetSource | timeNewEpoch |
  timeStep | timeSetDomain | timeEnableDomain | timeGetDomain | timeSetPort | timeSetAlarm | timeSetIo | timeReadCaptures |
  timeGetCounters | redGetCaps | redSetGenerator | redSetRecovery | redEnable | redGetInstance | redSetProtect | redForce |
  redGetProtect | redSubscribe | redGetCounters | redClearCounters | canGetCaps | canSetConfig | canGetConfig | canSetMode |
  canGetStatus | canSetQueue | canSetFilter | canTransmit | canRxRead | canRecover | canFlushQueue | canDetectRate | canGetCounters |
  canClearCounters | linGetCaps | linSetConfig | linSetMode | linSetFrame | linSetSchedule | linSelectSchedule | linSetPublish |
  linSendWake | linGetStatus | serSetConfig | serSetMode | serTransmit | serGetStatus | serRxRead | serGetCounters | serClearCounters |
  routeGetCaps | routeSetRule | routeClear | routeGetRule | routeSwap | routeGetGen | routeSetTunnel | routeGetTunnel | routeSetEngine |
  routeGetEngines | routeGetCounters | routeClearCounters | escGetCaps | escSetConfig | escGetStatus | escSetSafe | escGetSafe |
  escAckFault | escTestEngine | escInject | escGetCounters | escClearCounters | cryptGetCaps | cryptSetPort | cryptSetMka |
  cryptInstallSa | cryptSetTxAn | cryptDeleteSa | cryptGetSa | cryptSetProfile | cryptGetProfile | cryptOpen | cryptUpdate | cryptFinal
  | cryptSave | cryptRestore | cryptOneshot | cryptBreakLock | cryptGetCounters | cryptClearCounters | keyGetCaps | keyImport |
  keyDerive | keyPrefetch | keyRefresh | keyInvalidate | keyErase | keyNarrowMask | keyGetAttr | keySetService | keyGetCounters |
  keyClearCounters | pwrGetCaps | pwrGetStatus | pwrSetCeiling | pwrSetBoardBudget | pwrSetDomain | pwrGetGrants | pwrGetCounters |
  pwrClearCounters | sleepGetCaps | sleepCancel | sleepGetStatus | sleepSetPin | sleepSetCanWake | sleepSetNm | sleepSetHostWake |
  sleepSetInh | sleepGetWakeRecord | sleepGetCounters | sleepClearCounters | measGetCaps | measRead | measRunTdr | measRunTerm |
  measGetPartner | drovGetCaps | drovGrant | drovRevoke | drovGetMandate | drovReadLedger | drovPause | drovGetCounters |
  drovClearCounters => exact penyen_keepsRevoked s fun u => by simp
  | registerWrite => exact execRegisterWrite_keepsRevoked s ..
  | aliasWrite => exact execAliasWrite_keepsRevoked s ..
  | spiWrite => exact execSpiWrite_keepsRevoked s ..
  | spiRead => exact execSpiRead_keepsRevoked s ..
  | responseWrite => exact execResponseWrite_keepsRevoked s ..
  | landingBufferWrite => exact execLandingBufferWrite_keepsRevoked s ..
  | debuggerWrite => exact execDebuggerWrite_keepsRevoked s ..
  | ringTailWrite => exact execRingTailWrite_keepsRevoked s ..
  | rxRingDeliver => exact execRxRingDeliver_keepsRevoked s ..
  | deepRulePass => exact execDeepRulePass_keepsRevoked s ..
  | confirmation => exact execConfirmation_keepsRevoked s ..
  | txComplete => exact execTxComplete_keepsRevoked s ..
  | tuNowLoRead => exact execTuNowLoRead_keepsRevoked s ..
  | captureFilterEnd => exact execCaptureFilterEnd_keepsRevoked s ..
  | canDetectDwellEnd => exact execCanDetectDwellEnd_keepsRevoked s ..
  | relayJobStart => exact execRelayJobStart_keepsRevoked s ..
  | checkRunEnd => exact execCheckRunEnd_keepsRevoked s ..
  | escortedTimeout => exact execEscortedTimeout_keepsRevoked s ..
  | gpioDebounceEnd => exact execGpioDebounceEnd_keepsRevoked s ..
  | wakePinEvent => exact execWakePinEvent_keepsRevoked s ..
  | timeSetRate => exact execTimeSetRate_keepsRevoked s ..
  | canRxRelease => exact execCanRxRelease_keepsRevoked s ..
  | serRxRelease => exact execSerRxRelease_keepsRevoked s ..
  | sleepRequest => exact execSleepRequest_keepsRevoked s ..
  | sleepSegment => exact execSleepSegment_keepsRevoked s ..
  | evuCauseWrite | evuMaskWrite | holdoffExpiry | evuBootEvtWrite | cmuCommit | commitApply | cmuCommitAtWrite | commitArm |
  commitCancel | timedCommitFire | spiBadCommand | mbxReqHeadWrite | mbxRspTailWrite | mbxEvtTailWrite | bootXferGo | ringCtrlEnable |
  ringCtrlDisable | tuIncrIntWrite | tuStepHiWrite | capPopWrite | cdiAcquire | cdiRelease | cdiKeyselWrite | cdiGo | cdiAbort =>
    dsimp only [exec]
    simp [execEvuCauseWrite, execEvuMaskWrite, execHoldoffExpiry, execEvuBootEvtWrite, execCmuCommit, execCommitApply,
      execCmuCommitAtWrite, execCommitArm, execCommitCancel, execTimedCommitFire, execSpiBadCommand, execMbxReqHeadWrite,
      execMbxRspTailWrite, execMbxEvtTailWrite, execBootXferGo, execRingCtrlEnable, execRingCtrlDisable, execTuIncrIntWrite,
      execTuStepHiWrite, execCapPopWrite, execCdiAcquire, execCdiRelease, execCdiKeyselWrite, execCdiGo, execCdiAbort]
  | requestTake | doneEvent | envelopeReceive =>
    dsimp only [exec]
    simp [execRequestTake, execDoneEvent, execEnvelopeReceive]
  | chunkDone | bootOwnerTimeout | verifyDone | firmwareStart | dieStart | sealCheckDone =>
    dsimp only [exec]
    simp [execChunkDone, execBootOwnerTimeout, execVerifyDone, execFirmwareStart, execDieStart, execSealCheckDone]
  | resetNAssert | resetNRelease | powerOnReset | watchdogExpiry | railFault | railGood | thermalShutdown | thermalRecovery |
  xtal32kSwitch | inh0AssertAfterPor | pcieLinkUp | grandmasterChange =>
    dsimp only [exec]
    simp [execResetNAssert, execResetNRelease, execPowerOnReset, execWatchdogExpiry, execRailFault, execRailGood, execThermalShutdown,
      execThermalRecovery, execXtal32kSwitch, execInh0AssertAfterPor, execPcieLinkUp, execGrandmasterChange]
  | jtagUnlockToken =>
    dsimp only [exec]
    simp [execJtagUnlockToken]
  | ringFetchRetry | txDescriptorReturn | canTxDescriptorReturn =>
    dsimp only [exec]
    simp [execRingFetchRetry, execTxDescriptorReturn, execCanTxDescriptorReturn]
  | frameStart | headerHandover | oversizeRefuse | rxError | frameEnd | fdbAgeSweep =>
    dsimp only [exec]
    simp [execFrameStart, execHeaderHandover, execOversizeRefuse, execRxError, execFrameEnd, execFdbAgeSweep]
  | cellTimeMatch =>
    dsimp only [exec]
    simp [execCellTimeMatch]
  | egressChoice | shaperRefill | gateEntryBoundary | holdAssert | gateConfigChange | preemptVerifyResponse | preemptVerifyTimeout |
  linkHoldExpiry =>
    dsimp only [exec]
    simp [execEgressChoice, execShaperRefill, execGateEntryBoundary, execHoldAssert, execGateConfigChange, execPreemptVerifyResponse,
      execPreemptVerifyTimeout, execLinkHoldExpiry]
  | linkDown | linkUp | trainingStart | trainingDone | trainGrantRetry | coeffStore | sqiSample | plcaBeaconTimeout =>
    dsimp only [exec]
    simp [execLinkDown, execLinkUp, execTrainingStart, execTrainingDone, execTrainGrantRetry, execCoeffStore, execSqiSample,
      execPlcaBeaconTimeout]
  | conversationSweep | generationRetired | timedSwapFire =>
    dsimp only [exec]
    simp [execConversationSweep, execGenerationRetired, execTimedSwapFire]
  | streamGateEntry | queueSample =>
    dsimp only [exec]
    simp [execStreamGateEntry, execQueueSample]
  | frerResetTimer | healthReport | probeSend | probeReceive | probeMissTimeout | sqiHoldExpiry | wtrExpiry =>
    dsimp only [exec]
    simp [execFrerResetTimer, execHealthReport, execProbeSend, execProbeReceive, execProbeMissTimeout, execSqiHoldExpiry,
      execWtrExpiry]
  | alarmFire | timeIoEdge | timeIoPulseEdge | syncReceive | syncTimeout | syncTransmit | pdelayExchange =>
    dsimp only [exec]
    simp [execAlarmFire, execTimeIoEdge, execTimeIoPulseEdge, execSyncReceive, execSyncTimeout, execSyncTransmit, execPdelayExchange]
  | canFrameValid | canProtocolException | canBusError | canAttemptEnd | canSlotLoad | canLaunchReached | canLifetimeExpiry |
  canModeApply | canRecoveryDone | dominantTimeout | vcc5Change =>
    dsimp only [exec]
    simp [execCanFrameValid, execCanProtocolException, execCanBusError, execCanAttemptEnd, execCanSlotLoad, execCanLaunchReached,
      execCanLifetimeExpiry, execCanModeApply, execCanRecoveryDone, execDominantTimeout, execVcc5Change]
  | linScheduleEntry | linHeaderReceived | linFrameReceived | linResponseTimeout | linIdleSleep | linWakeResume | uartMessageEnd |
  uartAccessWaitEnd | uartTxEnd | uartEchoCollision | uartLifetimeExpiry =>
    dsimp only [exec]
    simp [execLinScheduleEntry, execLinHeaderReceived, execLinFrameReceived, execLinResponseTimeout, execLinIdleSleep,
      execLinWakeResume, execUartMessageEnd, execUartAccessWaitEnd, execUartTxEnd, execUartEchoCollision, execUartLifetimeExpiry]
  | linWakeDetect | tc10SleepRequest | tc10WakeDetect | hostWake | canWakePattern | canWakeFrame | wakeDecoderIdle | nmRepeat |
  segmentQuiet | sleepTimeout | prepareDone | inh0HoldEnd | inh1DelayExpiry | wakeDecodingError =>
    dsimp only [exec]
    simp [execLinWakeDetect, execTc10SleepRequest, execTc10WakeDetect, execHostWake, execCanWakePattern, execCanWakeFrame,
      execWakeDecoderIdle, execNmRepeat, execSegmentQuiet, execSleepTimeout, execPrepareDone, execInh0HoldEnd, execInh1DelayExpiry,
      execWakeDecodingError]
  | selfTestEnd | tunnelWaitExpiry | tunnelFrameReceive =>
    dsimp only [exec]
    simp [execSelfTestEnd, execTunnelWaitExpiry, execTunnelFrameReceive]
  | rngHealthFail | rngReseed | cdiBlockDone =>
    dsimp only [exec]
    simp [execRngHealthFail, execRngReseed, execCdiBlockDone]
  | mkaFrameReceive | measurementSample | lldpReceive | lldpTtlExpiry =>
    dsimp only [exec]
    simp [execMkaFrameReceive, execMeasurementSample, execLldpReceive, execLldpTtlExpiry]
  | remaskPass =>
    dsimp only [exec]
    simp [execRemaskPass]
  | grantTick | guardCheck | domainOffTimer | domainUp | memTestDone =>
    dsimp only [exec]
    simp [execGrantTick, execGuardCheck, execDomainOffTimer, execDomainUp, execMemTestDone]
  | boardBudgetBoundary | inrushEnd | podlFault | podlFaultTimer =>
    dsimp only [exec]
    simp [execBoardBudgetBoundary, execInrushEnd, execPodlFault, execPodlFaultTimer]
  | gpioEdge =>
    dsimp only [exec]
    simp [execGpioEdge]
  | droverLoop =>
    dsimp only [exec]
    simp [execDroverLoop]

/-- Revoking a vendor key leaves the ones already revoked. -/
theorem exec_diagRevokeVendorKey_revoked (s t : State) (n : Slot) (tag : Half) (p : Bytes) (k : Nat)
    (h : exec (.diagRevokeVendorKey n tag p) s = .next t) (hk : s.boot.keyrevFused.getLsbD k = true) :
    t.boot.keyrevFused.getLsbD k = true := by
  have ht : penyen cmdDiagRevokeVendorKey n.val tag p s = t := Host.Outcome.next.inj h
  obtain hp | ⟨u, hu, hp⟩ := penyen_boot s cmdDiagRevokeVendorKey n.val tag p
  · rw [← ht, hp, hk]
  · rw [← ht, hp]
    exact cmdDiagRevokeVendorKey_keyrevFused u (by rw [hu, hk]) n.val tag p

theorem exec_revoked (s t : State) (i : Instr) (k : Nat) (h : exec i s = .next t) (hk : s.boot.keyrevFused.getLsbD k = true) :
    t.boot.keyrevFused.getLsbD k = true := by
  by_cases hi : ∃ n tag p, i = .diagRevokeVendorKey n tag p
  · obtain ⟨n, tag, p, rfl⟩ := hi
    exact exec_diagRevokeVendorKey_revoked s t n tag p k h hk
  · rw [(exec_keepsRevoked s i fun n tag p e => hi ⟨n, tag, p, e⟩).same t h, hk]

/-- Settles O7: a step is the idle step, which leaves the fuses alone, or the front instruction of the queue; only DIAG_REVOKE_VENDOR_KEY
changes the fused revocations, and it ors a bit in. -/
theorem revokedVendorKeyStaysRevoked : Obligations.RevokedVendorKeyStaysRevoked := by
  intro s t k h hk
  unfold step at h
  split at h
  · cases h
    rw [State.idle_keyrevFused, hk]
  · exact exec_revoked _ t _ k h hk

end Sys2Proof.Machine

/-! One ring of a slot: what an update of it leaves, and what leaves it alone. -/

namespace Sys2Proof.Machine

/-- Two changes of an element that agree on its present value are the same change. -/
theorem vmod_congr {α : Type} {n : Nat} [Inhabited α] {v : Vector α n} {i : Nat} {f g : α → α} (h : f (vget v i) = g (vget v i)) :
    vmod v i f = vmod v i g := by
  unfold vmod
  split
  next hi => rw [vget, dif_pos hi] at h; rw [h]
  next => rfl

theorem modRing_congr {s : State} {n r : Nat} {f g : Ring → Ring} (h : f (s.ringAt n r) = g (s.ringAt n r)) :
    s.modRing n r f = s.modRing n r g := by
  have hrings : vmod (vget s.slots n).rings r f = vmod (vget s.slots n).rings r g := vmod_congr h
  have hslots : vmod s.slots n (fun x => { x with rings := vmod x.rings r f }) =
      vmod s.slots n (fun x => { x with rings := vmod x.rings r g }) := vmod_congr (by rw [hrings])
  exact congrArg (fun x => { s with slots := x }) hslots

variable (s : State)

@[simp] theorem ringAt_modRing (n : Slot) (r : Fin 8) (f : Ring → Ring) :
    (s.modRing n.val r.val f).ringAt n.val r.val = f (s.ringAt n.val r.val) := by
  simp [State.modRing, State.ringAt]

@[simp] theorem State.settleFrame_slots (fid : Nat) : (s.settleFrame fid).slots = s.slots := by
  unfold State.settleFrame
  split
  · rfl
  · dsimp only
    (repeat' split) <;> rfl

@[simp] theorem State.forgetRing_slots (n r : Nat) : (s.forgetRing n r).slots = s.slots :=
  forAll_keeps _ _ State.slots fun f u => (u.modFrame f.id _).settleFrame_slots f.id

/-- Raising a cause sends messages at most (R39): a slot's rings stay. -/
theorem setCause_rings (n : Slot) (c : Nat) : ((s.setCause n.val c).slot n.val).rings = (s.slot n.val).rings := by
  have hsent (u : State) : ((u.messagesSince n.val (s.slot n.val).evu).slot n.val).rings = (u.slot n.val).rings := by
    have hframe : MessageFrame n.val u (u.messagesSince n.val (s.slot n.val).evu) :=
      messageFrame_forAll n.val _ (fun v w => by
        split
        · exact messageFrame_message w v n.isLt
        · exact .refl _ w) u
    rw [hframe.own]
  rw [State.setCause, hsent, slot_modSlot_same s _ n.isLt]

@[simp] theorem ringAt_ringCause (n : Slot) (r : Fin 8) (c : Nat) :
    (s.ringCause n.val r.val c).ringAt n.val r.val = s.ringAt n.val r.val := by
  unfold State.ringCause
  split
  · exact congrArg (vget · r.val) (setCause_rings s n c)
  · rfl

@[simp] theorem ringAt_writeDesc (fn : Fin 16) (addr : Nat) (d : Bytes) (n r : Nat) :
    (s.writeDesc fn addr d).ringAt n r = s.ringAt n r := rfl

end Sys2Proof.Machine

/-! CTRL of a ring (R118, R120): what each kind of write makes of the ring. -/

namespace Sys2Proof.Machine

variable (g : Ring) (rx : Bool) (v : Nat)

@[simp] theorem Ring.breakChain_enable : g.breakChain.enable = g.enable := by unfold Ring.breakChain; split <;> rfl
@[simp] theorem Ring.breakChain_tail : g.breakChain.tail = g.tail := by unfold Ring.breakChain; split <;> rfl
@[simp] theorem Ring.breakChain_head : g.breakChain.head = g.head := by unfold Ring.breakChain; split <;> rfl

@[simp] theorem Ring.drop_head : g.drop.head = g.head := rfl
@[simp] theorem Ring.drop_frames : g.drop.frames = g.frames := rfl

variable {g rx v}

/-- ENABLE stays 1: only IRQ_EN is stored, and another value for another field sets CFG_ERR. -/
theorem Ring.writeCtrl_stays (hen : g.enable = true) (hv : bitOf v 31 = true) :
    g.writeCtrl rx v =
      { g with irqEn := bitOf v 12, cfgErr := g.cfgErr || (v &&& Ring.ctrlMask rx) != (g.ctrl &&& Ring.ctrlMask rx) } := by
  simp [Ring.writeCtrl, hen, hv]

/-- ENABLE from 1 to 0: TAIL and HEAD stay. -/
theorem Ring.writeCtrl_stops (hen : g.enable = true) (hv : bitOf v 31 = false) :
    (g.writeCtrl rx v).enable = false ∧ (g.writeCtrl rx v).tail = g.tail ∧ (g.writeCtrl rx v).head = g.head := by
  simp [Ring.writeCtrl, hen, hv]

/-- ENABLE from 0 to 1 with a size outside 6 to 12. -/
theorem Ring.writeCtrl_badSize (hen : g.enable = false) (hv : bitOf v 31 = true) (hsize : ¬(6 ≤ v % 16 ∧ v % 16 ≤ 12)) :
    (g.writeCtrl rx v).enable = false ∧ (g.writeCtrl rx v).cfgErr = true := by
  simp [Ring.writeCtrl, Ring.setFields, hen, hv, hsize]

/-- ENABLE from 0 to 1 with a size from 6 to 12. -/
theorem Ring.writeCtrl_starts (hen : g.enable = false) (hv : bitOf v 31 = true) (hsize : 6 ≤ v % 16 ∧ v % 16 ≤ 12) :
    (g.writeCtrl rx v).enable = true ∧ (g.writeCtrl rx v).tail = 0 ∧ (g.writeCtrl rx v).head = 0 := by
  simp [Ring.writeCtrl, hen, hv, hsize]

/-- After a write of CTRL the ring is what the write makes of it: frames forgotten when it starts are not the ring's. -/
@[simp] theorem ringAt_ringCtrl (s : State) (n : Slot) (r : Fin 8) (v : Nat) :
    (s.ringCtrl n.val r.val v).ringAt n.val r.val = (s.ringAt n.val r.val).writeCtrl (decide (4 ≤ r.val)) v := by
  have hforget (u : State) : (u.forgetRing n.val r.val).ringAt n.val r.val = u.ringAt n.val r.val := by
    simp [State.ringAt, State.slot]
  unfold State.ringCtrl
  dsimp only
  split <;> simp [hforget]

end Sys2Proof.Machine

/-! The value that each row writes to CTRL. -/

namespace Sys2Proof.Machine

variable (v : Word)

theorem bitOf_or_enable_31 : bitOf (v ||| 0x80000000).toNat 31 = true := by
  change (v ||| 0x80000000).getLsbD 31 = true
  simp

theorem bitOf_or_enable_12 : bitOf (v ||| 0x80000000).toNat 12 = v.getLsbD 12 := by
  change (v ||| 0x80000000).getLsbD 12 = v.getLsbD 12
  simp

theorem bitOf_and_disable_31 : bitOf (v &&& 0x7FFFFFFF).toNat 31 = false := by
  change (v &&& 0x7FFFFFFF).getLsbD 31 = false
  simp

theorem or_enable_and_ctrlMask (rx : Bool) :
    (v ||| 0x80000000).toNat &&& Ring.ctrlMask rx = v.toNat &&& Ring.ctrlMask rx := by
  cases rx <;> simp [Ring.ctrlMask, Nat.and_or_distrib_right]

theorem or_enable_mod_16 : (v ||| 0x80000000).toNat % 16 = v.toNat % 16 := by
  rw [BitVec.toNat_or, Nat.or_mod_two_pow (n := 4)]
  simp

end Sys2Proof.Machine

/-! A ring register written by the transport of its slot (R61, R113, R117). -/

namespace Sys2Proof.Machine

variable {s : State} {t : Transport} {n : Slot} {r : Fin 8}

/-- The page of a slot decodes every ring register, and the slot's own transport may write it. -/
theorem mbxWrite_ringReg (k : Nat) (v : Word) (hslot : s.slotOf t = some n.val) (hk : k < 0x18) :
    s.mbxWrite t (ringReg n.val r.val k) v = s.ringWrite n.val r.val k v := by
  have hn : (ringReg n.val r.val k - 0x10000) / 0x1000 = n.val := by unfold ringReg; omega
  obtain ⟨o, hoff⟩ : ∃ o, ringReg n.val r.val k % 0x1000 = o := ⟨_, rfl⟩
  have ho : o = 0x100 + 0x20 * r.val + k := by rw [← hoff]; unfold ringReg; omega
  have hring : (o - 0x100) / 32 = r.val ∧ o % 32 = k := by omega
  have hpage : 0x100 ≤ o ∧ o < 0x200 := by omega
  have hnamed : o ≠ 0 ∧ o ≠ 4 ∧ o ≠ 8 ∧ o ≠ 0xC ∧ o ≠ 0x10 ∧ o ≠ 0x14 ∧ o ≠ 0x18 ∧ o ≠ 0x1C := by omega
  simp [State.mbxWrite, State.mbxRead, hn, hoff, hring, hslot, hpage, hnamed, hk]

/-! The ring registers of a slot bound to PCIe (R113, R117). -/

theorem ringWrite_baseLo {n : Nat} (r : Nat) (v : Word) (hfn : (s.fnOf n).isSome = true) :
    s.ringWrite n r 0 v = .next (s.ringBase n r false v) := by
  simp [State.ringWrite, Option.isSome_iff_ne_none.mp hfn]

theorem ringWrite_baseHi {n : Nat} (r : Nat) (v : Word) (hfn : (s.fnOf n).isSome = true) :
    s.ringWrite n r 4 v = .next (s.ringBase n r true v) := by
  simp [State.ringWrite, Option.isSome_iff_ne_none.mp hfn]

theorem ringWrite_ctrl {n : Nat} (r : Nat) (v : Word) (hfn : (s.fnOf n).isSome = true) :
    s.ringWrite n r 8 v = .next (s.ringCtrl n r v.toNat) := by
  simp [State.ringWrite, Option.isSome_iff_ne_none.mp hfn]

theorem ringWrite_tail {n : Nat} (r : Nat) (v : Word) (hfn : (s.fnOf n).isSome = true) :
    s.ringWrite n r 12 v = s.ringTail n r v.toNat := by
  simp [State.ringWrite, Option.isSome_iff_ne_none.mp hfn]

variable (hreach : s.reaches t = true) (hslot : s.slotOf t = some n.val) (k : Nat) (v : Word)
include hreach hslot

theorem wordWrite_ringReg (hk : k < 0x18) (h4 : k % 4 = 0) :
    s.wordWrite t (ringReg n.val r.val k) v = s.ringWrite n.val r.val k v := by
  have hlow : 0x10000 ≤ ringReg n.val r.val k := by unfold ringReg; omega
  have hhigh : ringReg n.val r.val k < 0x20000 := by unfold ringReg; omega
  have halign : ringReg n.val r.val k % 4 = 0 := by unfold ringReg; omega
  rw [wordWrite_reg s t _ v hreach (by omega) halign, ← mbxWrite_ringReg k v hslot hk]
  unfold State.regWrite
  repeat rw [if_neg (by omega)]
  rw [if_pos hhigh]

theorem exec_registerWrite_ringReg (hk : k < 0x18) (h4 : k % 4 = 0) :
    exec (.registerWrite t (ringReg n.val r.val k) (wordBytes v)) s = s.ringWrite n.val r.val k v := by
  have hin : ringReg n.val r.val k < 0x40000 := by unfold ringReg; omega
  have halign : ringReg n.val r.val k % 4 = 0 := by unfold ringReg; omega
  rw [exec_registerWrite_word s t _ v hreach hin halign, ← wordWrite_reg s t _ v hreach hin halign,
    wordWrite_ringReg hreach hslot k v hk h4]

variable (hfn : (s.fnOf n.val).isSome = true)
include hfn

theorem exec_ringCtrlEnable_own :
    exec (.ringCtrlEnable t n r v) s = .next (s.ringCtrl n.val r.val (v ||| 0x80000000).toNat) :=
  (wordWrite_ringReg hreach hslot 8 _ (by decide) (by decide)).trans (ringWrite_ctrl _ _ hfn)

theorem exec_ringCtrlDisable_own :
    exec (.ringCtrlDisable t n r v) s = .next (s.ringCtrl n.val r.val (v &&& 0x7FFFFFFF).toNat) :=
  (wordWrite_ringReg hreach hslot 8 _ (by decide) (by decide)).trans (ringWrite_ctrl _ _ hfn)

/-- A write of BASE_LO or BASE_HI while ENABLE is 1 does no more than set CFG_ERR (R118). -/
theorem exec_registerWrite_base_of_enabled (hen : (s.ringAt n.val r.val).enable = true) (hk : k = 0 ∨ k = 4) :
    exec (.registerWrite t (ringReg n.val r.val k) (wordBytes v)) s =
      .next (s.modRing n.val r.val (fun g => { g with cfgErr := true })) := by
  have hbase (hi : Bool) : s.ringBase n.val r.val hi v = s.modRing n.val r.val (fun g => { g with cfgErr := true }) :=
    modRing_congr (if_pos hen)
  rw [exec_registerWrite_ringReg hreach hslot k v (by omega) (by omega)]
  rcases hk with rfl | rfl
  · rw [ringWrite_baseLo _ v hfn, hbase]
  · rw [ringWrite_baseHi _ v hfn, hbase]

/-- The doorbell is the write of TAIL, then the fetch of what it covers (R119). -/
theorem exec_ringTailWrite_own (descs : List DescRead) :
    exec (.ringTailWrite t n r v descs) s =
      thenDo (s.ringTail n.val r.val v.toNat) fun q => .next (q.ringFetch n.val r.val descs) := by
  have hwrite : s.wordWrite t (ringReg n.val r.val 12) v = s.ringTail n.val r.val v.toNat :=
    (wordWrite_ringReg hreach hslot 12 v (by decide) (by decide)).trans (ringWrite_tail _ v hfn)
  calc exec (.ringTailWrite t n r v descs) s
      = execRingTailWrite t n r v descs s := rfl
    _ = _ := by simp [execRingTailWrite, hwrite, hreach, hslot]

end Sys2Proof.Machine

/-! An enabled ring keeps its shape. -/

namespace Sys2Proof.Machine

/-- Settles O27: each write reaches the ring through the slot's mailbox page, and there ENABLE and the size decide. -/
theorem enabledRingKeepsItsShape : Obligations.EnabledRingKeepsItsShape := by
  intro s t n r v hreach hslot hfn g
  have hctrl := exec_ringCtrlEnable_own (r := r) hreach hslot v hfn
  refine ⟨fun hen => ⟨?_, ?_, _, hctrl, ?_⟩, fun hen hsize => ⟨_, hctrl, ?_⟩, fun hen hlow hhigh => ⟨_, hctrl, ?_⟩⟩
  · exact exec_registerWrite_base_of_enabled hreach hslot 0 v hfn hen (.inl rfl)
  · exact exec_registerWrite_base_of_enabled hreach hslot 4 v hfn hen (.inr rfl)
  · rw [ringAt_ringCtrl, Ring.writeCtrl_stays hen (bitOf_or_enable_31 v), bitOf_or_enable_12, or_enable_and_ctrlMask]
    exact ⟨rfl, fun hne => by simp [hne, g]⟩
  · rw [ringAt_ringCtrl]
    exact Ring.writeCtrl_badSize hen (bitOf_or_enable_31 v) (by rw [or_enable_mod_16]; omega)
  · rw [ringAt_ringCtrl]
    exact Ring.writeCtrl_starts hen (bitOf_or_enable_31 v) (by rw [or_enable_mod_16]; omega)

end Sys2Proof.Machine

/-! The return of transmit descriptors (R119, R124, R125, R127). -/

namespace Sys2Proof.Machine

/-- HEAD moves past every descriptor written back. -/
theorem ringAt_writeBack_head (s : State) (fn : Fin 16) (n : Slot) (r : Fin 8) (l : List Bytes) :
    ((s.writeBack fn n.val r.val l).ringAt n.val r.val).head = (s.ringAt n.val r.val).head + BitVec.ofNat 16 l.length := by
  induction l generalizing s with
  | nil => simp [State.writeBack, forAll]
  | cons d l ih =>
    refine (ih _).trans ?_
    rw [ringAt_modRing, ringAt_writeDesc, List.length_cons, Nat.add_comm, BitVec.ofNat_add, ← BitVec.add_assoc]
    rfl

/-- The oldest frame of a ring returns once its status is known: it leaves the ring, and HEAD passes its descriptors. -/
theorem ringAt_returnTx {s : State} {fn : Fin 16} {n : Slot} {r : Fin 8} {f : RingTx} {fs : List RingTx} {st : Half}
    (hfn : s.fnOf n.val = some fn) (hframes : (s.ringAt n.val r.val).frames = f :: fs) (hst : f.status = some st) :
    ((s.returnTx n.val r.val f.can).ringAt n.val r.val).frames = fs ∧
      ((s.returnTx n.val r.val f.can).ringAt n.val r.val).head =
        (s.ringAt n.val r.val).head + BitVec.ofNat 16 f.descs.length := by
  have hready : s.txReady f = some (some st, none) := by simp [State.txReady, hst]
  simp only [State.returnTx, hfn, hframes, hready, bne_self_eq_false, Bool.false_eq_true, if_false, ringAt_ringCause, ringAt_modRing]
  split <;> simp [ringAt_writeBack_head]

end Sys2Proof.Machine

/-! TAIL, and deliveries to receive rings. -/

namespace Sys2Proof.Machine

variable {s : State} {n : Slot}

/-- TAIL of an enabled ring moved past the ring's size (R122). -/
theorem ringTail_beyond {r : Fin 8} {v : Word} (hen : (s.ringAt n.val r.val).enable = true)
    (hover : (s.ringAt n.val r.val).size < (v.setWidth 16 - (s.ringAt n.val r.val).head).toNat) :
    s.ringTail n.val r.val v.toNat = .fault .ringMisuse :=
  if_pos (by simp only [hen, Bool.true_and, decide_eq_true_eq]; exact hover)

/-- TAIL of a disabled ring, or within the ring's size (R117, R122): the device reads on from there. -/
theorem ringTail_within {r : Fin 8} {v : Word} (hfit : (s.ringAt n.val r.val).enable = false ∨
    (v.setWidth 16 - (s.ringAt n.val r.val).head).toNat ≤ (s.ringAt n.val r.val).size) :
    s.ringTail n.val r.val v.toNat = .next (s.modRing n.val r.val fun g =>
      { g with tail := v.setWidth 16, stopped := g.enable && v.setWidth 16 != g.fetched }) :=
  if_neg (by
    rw [Bool.and_eq_true, decide_eq_true_eq]
    rintro ⟨hen, hover⟩
    rcases hfit with hoff | hle
    · simp [hoff] at hen
    · exact absurd hover (Nat.not_lt.mpr hle))

theorem exec_rxRingDeliver_ethernet {i : Nat} {w : Waybill} {f : Frame} (descs : List DescRead)
    (hat : s.atHost n.val i = some (w, f)) : exec (.rxRingDeliver n (some i) descs) s = .next (s.rxEth w f descs) := by
  change execRxRingDeliver n (some i) descs s = _
  simp only [execRxRingDeliver, hat]

theorem exec_rxRingDeliver_can {x : VOut} (descs : List DescRead) (hx : s.voutOf n.val = some x) :
    exec (.rxRingDeliver n none descs) s = .next (s.rxCan x descs) := by
  change execRxRingDeliver n none descs s = _
  simp only [execRxRingDeliver, hx]

end Sys2Proof.Machine

/-! The ring rows. -/

namespace Sys2Proof.Machine

/-- Settles O28: CTRL and TAIL are written through the slot's mailbox page, and the bound of R122 decides whether TAIL is stored; the
other rows go on under their own condition. -/
theorem ringRowsAct : Obligations.RingRowsAct := by
  intro s t n r v descs g tail
  refine ⟨fun hreach hslot hfn => ⟨fun hen => ?_, fun hen hover => ?_, fun hfit => ?_⟩, fun hstop => ?_,
    fun fn f fs st hfn hframes hst hcan => ?_, fun fn f fs st hfn hframes hst hcan => ?_, fun i w f hat => ?_, fun x hx => ?_⟩
  · refine ⟨_, exec_ringCtrlDisable_own hreach hslot v hfn, ?_⟩
    rw [ringAt_ringCtrl]
    exact Ring.writeCtrl_stops hen (bitOf_and_disable_31 v)
  · rw [exec_ringTailWrite_own hreach hslot v hfn, ringTail_beyond hen hover]
    rfl
  · rw [exec_ringTailWrite_own hreach hslot v hfn, ringTail_within hfit]
    rfl
  · exact congrArg Host.Outcome.next (if_pos hstop)
  · exact ⟨_, rfl, hcan ▸ ringAt_returnTx hfn hframes hst⟩
  · exact ⟨_, rfl, hcan ▸ ringAt_returnTx hfn hframes hst⟩
  · exact exec_rxRingDeliver_ethernet descs hat
  · exact exec_rxRingDeliver_can descs hx

end Sys2Proof.Machine

/-! Frames at a receive MAC (R129, R131, R150, R154, R155, R158, R175). -/

namespace Sys2Proof.Machine

/-- A frame start latches a new reception at its port (R131). -/
theorem rx_startFrame (s : State) (p : Port) (preempt : Bool) :
    (s.startFrame p.val preempt).rx p.val =
      { (default : Rx) with
        active := true, maxFrame := le (s.fwd p.val) 14 2, stamp := s.quantise p.val s.clockPs / 1000
        stampFrac := psFrac (s.quantise p.val s.clockPs), preempt := preempt } :=
  vget_vmod_same s.net.rx p.val _ p.isLt

/-- Settles O29: under its own condition each row answers its step of the frame's life; a frame start changes nothing but the reception
of its port. -/
theorem frameRowsAct : Obligations.FrameRowsAct := by
  intro s p bytes preempt fcs icv fault k
  refine ⟨fun hstart => ?_, fun hhand => ?_, fun f hf => ?_, fun hactive hover => ?_, fun hactive => ⟨?_, ?_⟩, fun f hf => ?_,
    fun htest => ?_⟩
  · refine ⟨s.startFrame p.val preempt, congrArg Host.Outcome.next (if_pos hstart), ?_, ?_, ?_, rfl⟩ <;> rw [rx_startFrame]
  · exact congrArg Host.Outcome.next (if_pos hhand)
  · change execDeepRulePass p bytes s = _
    rw [execDeepRulePass, hf]
  · exact congrArg Host.Outcome.next (if_pos ⟨hactive, hover⟩)
  · exact congrArg Host.Outcome.next (if_pos hactive)
  · exact congrArg Host.Outcome.next (if_pos hactive)
  · change execConfirmation p s = _
    rw [execConfirmation, hf]
  · exact congrArg Host.Outcome.next (if_neg htest)

end Sys2Proof.Machine

/-! The housekeeping sweeps (R142, R180, R189, R378). -/

namespace Sys2Proof.Machine

section
variable (s : State)

/-- The ageing sweep keeps the entries that are static or that a frame has refreshed within AGE_TIME (R142). -/
theorem mem_fdb_ageFdb (e : Nat × FdbEntry) :
    e ∈ s.ageFdb.net.fdb ↔
      e ∈ s.net.fdb ∧ ¬ (e.2.dynamic = true ∧ e.2.refreshed + s.net.ageTime * 800000000 ≤ s.tick) := by
  cases hdyn : e.2.dynamic <;> simp [State.ageFdb, State.modFdb, hdyn]

/-- The conversation sweep keeps the conversations that were refreshed within their timeout (R180). -/
theorem mem_convs_sweepConvs (e : Conv) :
    e ∈ s.sweepConvs.net.customs.convs ↔
      e ∈ s.net.customs.convs ∧ ¬ e.refreshed + s.net.customs.timeout e * 800000000 ≤ s.tick := by
  simp [State.sweepConvs, State.modCustoms]

end

/-- Settles O33: both sweeps filter their table, and the swaps' rows are their operations. -/
theorem sweepRowsAct : Obligations.SweepRowsAct := by
  intro s
  exact ⟨⟨s.ageFdb, rfl, mem_fdb_ageFdb s, rfl⟩, ⟨s.sweepConvs, rfl, mem_convs_sweepConvs s, rfl⟩, rfl, rfl⟩

end Sys2Proof.Machine

/-! What the life of a command leaves alone: being taken, and being answered, touch the slots, the slot that was served last, and the
Drover's mark that something happened. -/

namespace Sys2Proof.Machine

section
variable (s : State)

theorem State.answerFront_frame (n : Nat) (a : Answer) : s.answerFront n a = { s with slots := (s.answerFront n a).slots } := by
  unfold State.answerFront
  split <;> rfl

@[simp] theorem State.answerFront_time (n : Nat) (a : Answer) : (s.answerFront n a).time = s.time := by rw [s.answerFront_frame]
@[simp] theorem State.answerFront_net (n : Nat) (a : Answer) : (s.answerFront n a).net = s.net := by rw [s.answerFront_frame]
@[simp] theorem State.answerFront_crypt (n : Nat) (a : Answer) : (s.answerFront n a).crypt = s.crypt := by rw [s.answerFront_frame]
@[simp] theorem State.answerFront_power (n : Nat) (a : Answer) : (s.answerFront n a).power = s.power := by rw [s.answerFront_frame]
@[simp] theorem State.answerFront_can (n : Nat) (a : Answer) : (s.answerFront n a).can = s.can := by rw [s.answerFront_frame]
@[simp] theorem State.answerFront_lin (n : Nat) (a : Answer) : (s.answerFront n a).lin = s.lin := by rw [s.answerFront_frame]
@[simp] theorem State.answerFront_uart (n : Nat) (a : Answer) : (s.answerFront n a).uart = s.uart := by rw [s.answerFront_frame]
@[simp] theorem State.answerFront_relay (n : Nat) (a : Answer) : (s.answerFront n a).relay = s.relay := by rw [s.answerFront_frame]
@[simp] theorem State.answerFront_esc (n : Nat) (a : Answer) : (s.answerFront n a).esc = s.esc := by rw [s.answerFront_frame]
@[simp] theorem State.answerFront_keys (n : Nat) (a : Answer) : (s.answerFront n a).keys = s.keys := by rw [s.answerFront_frame]
@[simp] theorem State.answerFront_sleep (n : Nat) (a : Answer) : (s.answerFront n a).sleep = s.sleep := by rw [s.answerFront_frame]
@[simp] theorem State.answerFront_drover (n : Nat) (a : Answer) : (s.answerFront n a).drover = s.drover := by
  rw [s.answerFront_frame]

theorem State.take_frame (n : Nat) (op tag : Half) (p : Bytes) (now : Option Answer) :
    s.take n op tag p now =
      { s with
        slots := (s.take n op tag p now).slots
        drover := { s.drover with active := (s.take n op tag p now).drover.active } } := by
  unfold State.take
  dsimp only
  split <;> split <;> rfl

theorem State.asTaken_frame (c : Cmd) (n : Nat) (tag : Half) (p : Bytes) :
    s.asTaken c n tag p =
      { s.servedAs (s.asTaken c n tag p) with
        drover := { s.drover with active := (s.asTaken c n tag p).drover.active } } := by
  unfold State.asTaken
  split
  · rw [s.take_frame]
    rfl
  · rfl

variable (c : Cmd) (n : Nat) (tag : Half) (p : Bytes)

@[simp] theorem State.asTaken_time : (s.asTaken c n tag p).time = s.time := by rw [s.asTaken_frame]; rfl
@[simp] theorem State.asTaken_net : (s.asTaken c n tag p).net = s.net := by rw [s.asTaken_frame]; rfl
@[simp] theorem State.asTaken_power : (s.asTaken c n tag p).power = s.power := by rw [s.asTaken_frame]; rfl
@[simp] theorem State.asTaken_relay : (s.asTaken c n tag p).relay = s.relay := by rw [s.asTaken_frame]; rfl
@[simp] theorem State.asTaken_keys : (s.asTaken c n tag p).keys = s.keys := by rw [s.asTaken_frame]; rfl

end

end Sys2Proof.Machine

/-! The checks that an admitted command has passed (R65), and the state that it leaves. -/

namespace Sys2Proof.Machine

@[simp] theorem need_eq_none {b : Bool} {a : Answer} : need b a = none ↔ b = true := by simp [need]

@[simp] theorem inRange_eq_none {v limit off : Nat} : inRange v limit off = none ↔ v < limit := by simp [inRange]

@[simp] theorem between_eq_none {v lo hi off : Nat} : between v lo hi off = none ↔ lo ≤ v ∧ v ≤ hi := by simp [between]

@[simp] theorem firstFail_cons_eq_none {x : Option Answer} {xs : List (Option Answer)} :
    firstFail (x :: xs) = none ↔ x = none ∧ firstFail xs = none := by
  cases x <;> simp [firstFail]

section
variable {s : State} {c : Cmd} {n : Slot} {tag : Half} {p : Bytes}

/-- An admitted command has passed its own checks. -/
theorem check_of_admitted (h : s.admitted c n.val tag p = true) : c.check (s.asTaken c n.val tag p) n.val p = none := by
  simp only [State.admitted, State.passes, Bool.and_eq_true, Option.isNone_iff_eq_none] at h
  obtain ⟨⟨-, hrefusal⟩, -⟩ := h
  simp only [Cmd.refusal, firstFail_cons_eq_none] at hrefusal
  obtain ⟨-, -, hcheck, -⟩ := hrefusal
  exact hcheck

/-- An admitted command has passed the first of its own checks. -/
theorem firstCheck_of_admitted {x : Option Answer} {xs : List (Option Answer)} (h : s.admitted c n.val tag p = true)
    (hc : c.check (s.asTaken c n.val tag p) n.val p = firstFail (x :: xs)) : x = none :=
  (firstFail_cons_eq_none.1 (hc ▸ check_of_admitted h)).1

/-- The object that an admitted command names first is in range. -/
theorem index_of_admitted {v limit off : Nat} {xs : List (Option Answer)} (h : s.admitted c n.val tag p = true)
    (hc : c.check (s.asTaken c n.val tag p) n.val p = firstFail (inRange v limit off :: xs)) : v < limit :=
  inRange_eq_none.1 (firstCheck_of_admitted h hc)

/-- The channel that an admitted command names is in range, where the first of its checks asks for the range and for the owner. -/
theorem channel_of_admitted {v limit off : Nat} {xs ys : List (Option Answer)} (h : s.admitted c n.val tag p = true)
    (hc : c.check (s.asTaken c n.val tag p) n.val p = firstFail (firstFail (inRange v limit off :: ys) :: xs)) : v < limit :=
  inRange_eq_none.1 (firstFail_cons_eq_none.1 (firstCheck_of_admitted h hc)).1

/-- The entry of an object that an admitted command names is in range, where its second check asks for it. -/
theorem entry_of_admitted {v top off : Nat} {x : Option Answer} {xs : List (Option Answer)} (h : s.admitted c n.val tag p = true)
    (hc : c.check (s.asTaken c n.val tag p) n.val p = firstFail (x :: between v 0 top off :: xs)) : v < top + 1 := by
  obtain ⟨-, hrest⟩ := firstFail_cons_eq_none.1 (hc ▸ check_of_admitted h)
  obtain ⟨-, hmax⟩ := between_eq_none.1 (firstFail_cons_eq_none.1 hrest).1
  omega

/-- An admitted command that finishes at once leaves what its run leaves, and its answer. -/
theorem penyen_done {t : State} {a : Answer} (h : s.admitted c n.val tag p = true)
    (hrun : c.run (s.asTaken c n.val tag p) n.val tag p = (t, .done a)) :
    penyen c n.val tag p s = t.answerFront n.val a := by
  rw [penyen_admitted c n tag p s h, State.served, hrun]

/-- A property of what the run of an admitted command leaves, with any answer, is one of the next state. -/
theorem next_of_run {t : State} {a : Answer} {P : State → Prop} (h : s.admitted c n.val tag p = true)
    (hrun : c.run (s.asTaken c n.val tag p) n.val tag p = (t, .done a)) (hP : P (t.answerFront n.val a)) :
    ∃ q, (Host.Outcome.next (penyen c n.val tag p s) : Res) = .next q ∧ P q :=
  ⟨_, congrArg _ (penyen_done h hrun), hP⟩

end

/-! Tables. -/

@[simp] theorem tget?_tset_same {α : Type} (t : Tbl α) (k : Nat) (x : α) : tget? (tset t k x) k = some x := by
  induction t with
  | nil => simp [tset, tget?]
  | cons e es ih =>
    unfold tset
    split
    · simp [tget?]
    · split
      · simp [tget?]
      · next hge hne =>
        have hskip : (e.1 == k) = false := by simp; omega
        simpa [tget?, hskip] using ih

@[simp] theorem tgetD_tset_same {α : Type} (t : Tbl α) (k : Nat) (x d : α) : tgetD (tset t k x) k d = x := by
  simp [tgetD]

@[simp] theorem vget_vset_same {α : Type} {n : Nat} [Inhabited α] (v : Vector α n) {i : Nat} (x : α) (h : i < n) :
    vget (vset v i x) i = x := vget_vmod_same v i _ h

end Sys2Proof.Machine

/-! What configuration commands store. -/

namespace Sys2Proof.Machine

/-- SCHED_SET_SHAPER names an egress queue of an external port (R239). -/
theorem schedSetShaper_index {s : State} {n : Slot} {tag : Half} {p : Bytes}
    (h : s.admitted cmdSchedSetShaper n.val tag p = true) : byteAt p 0 * 8 + byteAt p 1 < 224 := by
  have hqueue : queueNamed 25 p = none := firstCheck_of_admitted h rfl
  obtain ⟨hport, hrest⟩ := firstFail_cons_eq_none.1 hqueue
  have hi := inRange_eq_none.1 hport
  have htc := inRange_eq_none.1 (firstFail_cons_eq_none.1 hrest).1
  omega

/-- Settles O58: the index that a command names is within its group, the command's run stores there, and its life touches none of it. -/
theorem configurationCommandsStore : Obligations.ConfigurationCommandsStore := by
  intro s n tag p
  dsimp only
  refine ⟨fun h hlater => ?fwd, fun h => ?aging, fun h => ?pair, fun h => ?shaper, fun h => ?header, fun h => ?domain,
    fun h => ?recovery, fun h => ?filter, fun h => ?frame, fun h => ?serial, fun h => ?rule, fun h => ?safe, fun h => ?macsec,
    fun h => ?mask, fun h => ?ceiling, fun h => ?pin, fun h => ?pause⟩
  case fwd =>
    have hi : byteAt p 0 < 28 := index_of_admitted h rfl
    exact next_of_run h rfl (by simp [State.maybeCommit, hlater, hi])
  case aging => exact next_of_run h rfl (by simp)
  case pair => exact next_of_run h rfl (by simp [State.modStaged, State.modCustoms])
  case shaper =>
    have hq := schedSetShaper_index h
    exact next_of_run h rfl (by simp [State.queue, State.modQueue, hq])
  case header =>
    have hi : byteAt p 0 < 25 := index_of_admitted h rfl
    exact next_of_run h rfl (by simp [State.pg, State.modPg, hi])
  case domain =>
    have hi : byteAt p 0 < 4 := index_of_admitted h rfl
    exact next_of_run h rfl (by simp [State.gptp, State.modGptp, hi])
  case recovery => exact next_of_run h rfl (by simp [State.recovery, State.modRed])
  case filter =>
    have hi : byteAt p 0 < 16 := channel_of_admitted h rfl
    have hj : byteAt p 1 < 16 := entry_of_admitted h rfl
    exact next_of_run h rfl (by simp [State.canCh, hi, hj])
  case frame =>
    have hi : byteAt p 0 < 4 := channel_of_admitted h rfl
    have hid : byteAt p 1 < 64 := entry_of_admitted h rfl
    exact next_of_run h rfl (by simp [State.linCh, hi, hid])
  case serial =>
    have hi : byteAt p 0 < 6 := channel_of_admitted h rfl
    exact next_of_run h rfl (by simp [State.uartCh, hi])
  case rule => exact next_of_run h rfl (by simp)
  case safe => exact next_of_run h rfl (by simp)
  case macsec =>
    have hi : byteAt p 0 < 25 := channel_of_admitted h rfl
    exact next_of_run h rfl (by simp [State.modMac, hi])
  case mask => exact next_of_run h rfl (by simp [State.keyOf, State.setKey])
  case ceiling => exact next_of_run h rfl (by simp)
  case pin =>
    have hi : byteAt p 0 < 4 := index_of_admitted h rfl
    exact next_of_run h rfl (by simp [hi])
  case pause => exact next_of_run h rfl (by simp)

end Sys2Proof.Machine

/-! The firewall after a cold start (R168). -/

namespace Sys2Proof.Machine

/-- A table has no value under a key that none of its entries carries. -/
theorem tget?_eq_none {α : Type} {t : Tbl α} {k : Nat} (h : ∀ e ∈ t, e.1 ≠ k) : tget? t k = none := by
  simpa [tget?] using h

/-- The zones that a cold start opens among themselves. -/
def ownZone (z : Nat) : Prop := z = 0 ∨ z = 30 ∨ z = 31

/-- Two of the own zones are OPEN without TRACK in the reset matrix. -/
theorem reset_pair_own {a b : Nat} (ha : ownZone a) (hb : ownZone b) : Customs.reset.pair a b = 3 := by
  rcases ha with rfl | rfl | rfl <;> rcases hb with rfl | rfl | rfl <;> rfl

/-- The reset matrix holds entries for pairs of own zones only. -/
theorem ownZones_of_mem_reset {a b : Nat} (hb : b < 32) {e : Nat × Nat} (he : e ∈ Matrix.reset.pairs) (hk : e.1 = a * 32 + b) :
    ownZone a ∧ ownZone b := by
  unfold ownZone
  simp only [Matrix.reset, List.mem_cons, List.not_mem_nil, or_false] at he
  rcases he with rfl | rfl | rfl | rfl | rfl | rfl | rfl | rfl | rfl <;> omega

/-- Every other pair is BLOCK, which is what a pair without an entry is. -/
theorem reset_pair_other {a b : Nat} (hb : b < 32) (h : ¬ (ownZone a ∧ ownZone b)) : Customs.reset.pair a b = 0 := by
  have hnone : tget? Customs.reset.matrix.pairs (a * 32 + b) = none :=
    tget?_eq_none fun _ he hk => h (ownZones_of_mem_reset hb he hk)
  simp [Customs.pair, tgetD, hnone]

/-- A cold start leaves the firewall as it is at reset, whatever it was before. -/
@[simp] theorem State.coldState_customs (s : State) : s.coldState.net.customs = Customs.reset := by rfl

/-- So does a reset of the die, whatever its cause. -/
@[simp] theorem State.resetDie_customs (s : State) (cause : Nat) : (s.resetDie cause).net.customs = Customs.reset :=
  s.coldState_customs

/-- The watchdog resets the die while firmware runs. -/
theorem exec_watchdogExpiry_running {s : State} (h : s.running = true) : exec .watchdogExpiry s = .next (s.resetDie 2) := by
  change execWatchdogExpiry s = _
  rw [execWatchdogExpiry, if_pos h]

/-- Settles O9: power-on and a reset of the die both leave the reset matrix, whose entries are the pairs of own zones. -/
theorem coldFirewallOpensOnlyOwnZones : Obligations.ColdFirewallOpensOnlyOwnZones := by
  intro a b want
  have hpair : Customs.reset.pair a.val b.val = want := by
    by_cases hown : ownZone a.val ∧ ownZone b.val
    · obtain ⟨ha, hb⟩ := hown
      exact (reset_pair_own ha hb).trans (if_pos ⟨ha, hb⟩).symm
    · exact (reset_pair_other b.isLt hown).trans (if_neg hown).symm
  refine ⟨hpair, fun s hs => ⟨s.resetDie 2, exec_watchdogExpiry_running hs, ?_⟩⟩
  rw [State.resetDie_customs, hpair]

end Sys2Proof.Machine

/-! The PHYs beside events and the protection unit: neither writes to a PHY. -/

namespace Sys2Proof.Machine

section
variable (s : State)

@[simp] theorem State.modRed_phys (f : Red → Red) : (s.modRed f).net.phys = s.net.phys := rfl
@[simp] theorem State.modMember_phys (p : Nat) (f : Member → Member) : (s.modMember p f).net.phys = s.net.phys := rfl
@[simp] theorem State.noteSqi_phys (p : Nat) : (s.noteSqi p).net.phys = s.net.phys := rfl

@[simp] theorem State.storeEvent_net (n : Nat) (entry : Bytes) : (s.storeEvent n entry).net = s.net :=
  State.setCause_net _ n 1

@[simp] theorem State.sendEnvelope_phys (n flags : Nat) (msg : Bytes) : (s.sendEnvelope n flags msg).net.phys = s.net.phys := by
  unfold State.sendEnvelope
  split <;> rfl

/-- An event goes out as an envelope, is lost, or is stored in the ring. -/
@[simp] theorem State.event_phys (n ev : Nat) (data : Bytes) : (s.event n ev data).net.phys = s.net.phys := by
  unfold State.event
  dsimp only
  split
  · exact State.sendEnvelope_phys _ n 3 _
  · split
    · rfl
    · exact congrArg Net.phys (State.storeEvent_net _ n _)

@[simp] theorem State.redEvent_phys (ev : Nat) (data : Bytes) : (s.redEvent ev data).net.phys = s.net.phys :=
  forAll_keeps _ _ (fun u => u.net.phys) fun n u => by split <;> simp

/-- A switch counts and tells the subscribers; any other change of the protection state is in its own record alone. -/
@[simp] theorem State.protTo_phys (st : ProtState) (onB : Bool) (found : Option Nat) :
    (s.protTo st onB found).net.phys = s.net.phys := by
  unfold State.protTo
  dsimp only
  split
  · rfl
  · cases found <;> simp

@[simp] theorem State.protect_phys : s.protect.net.phys = s.net.phys := by
  unfold State.protect
  dsimp only
  (repeat' split) <;> simp

@[simp] theorem State.judgeMembers_phys : s.judgeMembers.net.phys = s.net.phys := by
  refine (State.protect_phys _).trans (forAll_keeps _ _ (fun u => u.net.phys) fun p u => ?_)
  dsimp only
  split <;> simp

end

/-! The rows of links and PHYs. -/

@[simp] theorem phy_modPhy_same (s : State) (p : Port) (f : Phy → Phy) : (s.modPhy p.val f).phy p.val = f (s.phy p.val) :=
  vget_vmod_same s.net.phys p.val f p.isLt

/-- An attempt under way is not DOWN, so no other one starts. -/
theorem canTrain_eq_false_of_training {s : State} {p : Nat} (h : (s.phy p).link = .training) : s.canTrain p = false := by
  simp [State.canTrain, h]

/-- SQI_SAMPLE writes the index of its own PHY; judging the members, on P0 and P1, only reads it (R301, R311). -/
theorem State.sampleSqi_phys (s : State) (p v : Nat) :
    (s.sampleSqi p v).net.phys =
      (s.modPhy p fun x => { x with sqi := if !s.isUp p then 0 else if 2 ≤ p ∧ p ≤ 4 then 7 else v }).net.phys := by
  unfold State.sampleSqi
  dsimp only
  split <;> simp

theorem phy_sampleSqi_sqi (s : State) (p : Port) (v : Nat) :
    ((s.sampleSqi p.val v).phy p.val).sqi = if s.isUp p.val = false then 0 else if 2 ≤ p.val ∧ p.val ≤ 4 then 7 else v := by
  have hphy : (s.sampleSqi p.val v).phy p.val = _ :=
    (congrArg (vget · p.val) (s.sampleSqi_phys p.val v)).trans (phy_modPhy_same s p _)
  rw [hphy]
  cases s.isUp p.val <;> rfl

/-- LINK_UP goes on from the attempt that it starts itself, if any (R210, R309). -/
theorem exec_linkUp_of_canTrain {s : State} {p : Port} (sqi : Fin 8) (hcan : s.canTrain p.val = true)
    (h : ((s.startTraining p.val (s.phy p.val).attemptCause).phy p.val).link = .training) :
    exec (.linkUp p sqi) s = .next ((s.startTraining p.val (s.phy p.val).attemptCause).trainingDone p.val true sqi.val) := by
  change execLinkUp p sqi s = _
  simp only [execLinkUp, hcan, if_true, h]

theorem exec_linkUp_of_training {s : State} {p : Port} (sqi : Fin 8) (h : (s.phy p.val).link = .training) :
    exec (.linkUp p sqi) s = .next (s.trainingDone p.val true sqi.val) := by
  change execLinkUp p sqi s = _
  simp only [execLinkUp, canTrain_eq_false_of_training h, Bool.false_eq_true, if_false, h, if_true]

theorem exec_coeffStore_of_isUp {s : State} {p : Port} (hup : s.isUp p.val = true) (ht1 : isT1 p.val = true) :
    exec (.coeffStore p) s = .next (s.modPhy p.val fun x => { x with stored := some x.rate }) :=
  congrArg Host.Outcome.next (if_pos ⟨hup, ht1⟩)

/-- Settles O31: under its own condition each row answers its step of the link; a sample of the index and a stored set of coefficients are
read back at the port's PHY. -/
theorem linkRowsAct : Obligations.LinkRowsAct := by
  intro s p sqi ok
  refine ⟨fun hup => ?down, fun htrain => exec_linkUp_of_training sqi htrain,
    fun hcan htrain => exec_linkUp_of_canTrain sqi hcan htrain, ?hold, fun hcan => ?start, fun htrain => ?done, fun hask => ?retry,
    fun hup ht1 => ⟨_, exec_coeffStore_of_isUp hup ht1, ?stored, rfl⟩, ⟨s.sampleSqi p.val sqi.val, rfl, ?sqi⟩,
    fun hup hport hfollower => ?beacon⟩
  case down => exact congrArg Host.Outcome.next (if_pos hup)
  case hold => rfl
  case start => exact congrArg Host.Outcome.next (if_pos hcan)
  case done => exact congrArg Host.Outcome.next (if_pos htrain)
  case retry => exact congrArg Host.Outcome.next (if_pos hask)
  case stored => rw [phy_modPhy_same]
  case sqi => exact phy_sampleSqi_sqi s p sqi.val
  case beacon => exact congrArg Host.Outcome.next (if_pos ⟨hup, hport, hfollower⟩)

end Sys2Proof.Machine

/-! Egress: the status of preemption (R253), and the sampling of a queue (R235, R236). -/

namespace Sys2Proof.Machine

section
variable (s : State)

/-- An envelope of the slot joins the frames that wait to enter the fabric (R81, R82), and is all that the Ethernet side sees of it. -/
theorem State.sendEnvelope_net (n flags : Nat) (msg : Bytes) :
    (s.sendEnvelope n flags msg).net = { s.net with outbox := (s.sendEnvelope n flags msg).net.outbox } := by
  unfold State.sendEnvelope
  split <;> rfl

/-- Of the Ethernet side an event changes the outbox alone: it is sent as an envelope, is lost, or is stored in the ring (R76, R78). -/
theorem State.event_net (n ev : Nat) (data : Bytes) :
    (s.event n ev data).net = { s.net with outbox := (s.event n ev data).net.outbox } := by
  unfold State.event
  dsimp only
  split
  · exact State.sendEnvelope_net _ n 3 _
  · split
    · rfl
    · rw [State.storeEvent_net]
      rfl

theorem State.event_pg (n ev : Nat) (data : Bytes) (p : Nat) : (s.event n ev data).pg p = s.pg p :=
  (congrArg (fun x : Net => vget x.gates p) (s.event_net n ev data)).trans rfl

@[simp] theorem pg_modPg_same (p : Port) (f : PortGate → PortGate) : (s.modPg p.val f).pg p.val = f (s.pg p.val) :=
  vget_vmod_same s.net.gates p.val f p.isLt

/-- After a change of preemption status the port has that status (R253), whether it is a new one, and reported, or the one it had. -/
theorem status_preemptTo (p : Port) (st : PreemptStatus) : ((s.preemptTo p.val st).pg p.val).status = st := by
  unfold State.preemptTo
  split
  case isTrue hsame => exact hsame
  case isFalse => rw [State.event_pg, pg_modPg_same]

/-- The queues of the fabric ports lie within the table of queues. -/
theorem queue_modQueue_same (p : Port) (tc : TC) (f : Queue → Queue) :
    (s.modQueue p.val tc.val f).queue p.val tc.val = f (s.queue p.val tc.val) :=
  vget_vmod_same s.net.queues _ f (by omega)

end

/-- TX_COMPLETE ends what the port has on the line. -/
theorem exec_txComplete_of_line {s : State} {p : Port} {l : OnLine} (hline : (s.egr p.val).line = some l) :
    exec (.txComplete p) s = .next (s.txComplete p.val l) := by
  change execTxComplete p s = _
  simp only [execTxComplete, hline]

/-- Settles O30: under its own condition each row answers its step; a port that verifies becomes ACTIVE on the response, and a sampled
queue reads back with one more sample. -/
theorem egressRowsAct : Obligations.EgressRowsAct := by
  intro s p tc g ps
  refine ⟨fun hup hstart => ?choice, fun l hline => exec_txComplete_of_line hline, ?refill, fun hlist => ?boundary, fun hhold => ?hold,
    fun hdue => ?change, fun hverify => ⟨⟨s.preemptTo p.val .active, ?response, status_preemptTo s p .active⟩, ?timeout⟩,
    ?streamGate, fun hsampling hdue => ⟨_, congrArg Host.Outcome.next (if_pos ?sampled), ?sample, rfl⟩⟩
  case choice => exact congrArg Host.Outcome.next (if_pos (by rw [hup, hstart]; rfl))
  case refill => rfl
  case boundary => exact congrArg Host.Outcome.next (if_pos hlist)
  case hold => exact congrArg Host.Outcome.next (if_pos hhold)
  case change => exact congrArg Host.Outcome.next (if_pos hdue)
  case response => exact congrArg Host.Outcome.next (if_pos hverify)
  case timeout => exact congrArg Host.Outcome.next (if_pos hverify)
  case streamGate => rfl
  case sampled => rw [hsampling, hdue]; rfl
  case sample => rw [queue_modQueue_same]

end Sys2Proof.Machine

/-! The step with an empty queue (log 1): what of it does nothing when nothing is due, and the fabric tick that always passes. -/

namespace Sys2Proof.Machine

section
variable {s : State}

theorem giveFrame_of_outbox_nil (h : s.net.outbox = []) : s.giveFrame = s := by
  simp only [State.giveFrame, h]

/-- Without a descriptor waiting for its turn no transmit ring is ready, and the turn passes to none (R125). -/
theorem serveRings_of_queues_nil (h : ∀ (n : Slot) (r : Fin 4), (s.ringAt n.val r.val).queue = []) : s.serveRings = s := by
  have hnone : (List.range 64).filter
      (fun k => !(s.ringAt (k / 4) (k % 4)).queue.isEmpty && ((s.ringAt (k / 4) (k % 4)).can || s.hostFrames)) = [] := by
    refine List.filter_eq_nil_iff.mpr fun k hk => ?_
    have hlt : k < 64 := List.mem_range.mp hk
    have hempty : (s.ringAt (k / 4) (k % 4)).queue = [] := h ⟨k / 4, by omega⟩ ⟨k % 4, by omega⟩
    simp [hempty]
  have hturn : turn s.net.ringTurn [] = none := rfl
  simp only [State.serveRings, hnone, hturn, ite_self]

theorem dueReset_of_not_resetDue (h : (s.slot 0).resetDue = false) : s.dueReset = s := by
  simp [State.dueReset, h]

/-- The clock of 64 bits counts within them (R269). -/
theorem TimeUnit.tick_ns_lt {u : TimeUnit} (h : u.ns < 2 ^ 64) : u.tick.ns < 2 ^ 64 := by
  unfold TimeUnit.tick
  split
  · exact Nat.mod_lt _ (by decide)
  · exact h

/-- A step of 0 leaves a nanosecond count of 64 bits as it is. -/
theorem toTwos_add_zero {v : Nat} (h : v < 2 ^ 64) : toTwos 64 ((v : Int) + 0) = v := by
  rw [Int.add_zero, toTwos, ← Int.natCast_emod, Int.toNat_natCast, Nat.mod_eq_of_lt h]

/-- A fabric tick without a step of the local clock (R221, R267). -/
theorem fabricTick_zero (h : s.time.ns < 2 ^ 64) :
    s.fabricTick 0 = { s with tick := s.tick + 1, time := if s.pd0.die then s.time.tick else s.time } := by
  simp only [State.fabricTick, toTwos_add_zero (TimeUnit.tick_ns_lt h)]

end

/-- Settles O2: no frame, no ring, no reset and no sleep sequence makes the block act, so that its tick alone remains. -/
theorem idleStepPassesOneTick : Obligations.IdleStepPassesOneTick := by
  intro s hpending houtbox hqueues hreset hawake hns
  have hwork : (if s.running then s.giveFrame.serveRings.dueReset else s) = s := by
    rw [giveFrame_of_outbox_nil houtbox, serveRings_of_queues_nil hqueues, dueReset_of_not_resetDue hreset, ite_self]
  have hnoSleep : ¬ (s.running ∧ (s.sleep.phase = .indicate ∨ s.sleep.phase = .quiet)) := by simp [hawake]
  have hidle : s.idle = s.fabricTick 0 := by
    unfold State.idle
    rw [hwork]
    exact congrArg (State.fabricTick · 0) (if_neg hnoSleep)
  calc step s = .next s.idle := by simp only [step, hpending]
    _ = .next (s.fabricTick 0) := congrArg Host.Outcome.next hidle
    _ = _ := congrArg Host.Outcome.next (fabricTick_zero hns)

end Sys2Proof.Machine

/-! The time unit's page of the direct window (R270), and the registers of it that have a row of their own. -/

namespace Sys2Proof.Machine

section
variable (s : State) (t : Transport) (v : Word)

/-- A 32-bit write by a row, at an address of the time unit's page, is a write of that page. -/
theorem wordWrite_tu {a : Nat} (hreach : s.reaches t = true) (hlow : 0x20000 ≤ a) (hhigh : a < 0x30000) (h4 : a % 4 = 0) :
    s.wordWrite t a v = s.tuWrite t a v := by
  rw [wordWrite_reg s t a v hreach (by omega) h4]
  unfold State.regWrite
  repeat rw [if_neg (by omega)]
  rw [if_pos hhigh]

/-- A 32-bit read at an address of the time unit's page reads the register there. -/
theorem windowRead_tu {a : Nat} {r : Nat × State} (hlow : 0x20000 ≤ a) (hhigh : a < 0x30000) (h4 : a % 4 = 0)
    (hread : s.tuRead t (a - 0x20000) = some r) : s.windowRead t a 4 = some (leBytes 4 r.1, r.2) := by
  have haddr : a % 0x400000 = a := by omega
  have hreg : s.regRead t a = some r := by
    unfold State.regRead
    dsimp only
    repeat rw [if_neg (by omega)]
    rw [if_pos hhigh, hread]
  have hword : s.wordRead t a = some r := by
    unfold State.wordRead
    dsimp only
    rw [haddr, if_pos (by omega), if_neg (by omega), hreg]
  unfold State.windowRead
  dsimp only
  rw [haddr, if_neg (by omega), if_neg (by omega), if_pos rfl, hword]
  rfl

/-- The words of a TIME_IO pin lie in its own 64 bytes of the page (R284). -/
theorem tuRead_io {o : Nat} (hlow : 0x200 ≤ o) (hhigh : o < 0x380) :
    s.tuRead t o = (s.ioRead ((o - 0x200) / 0x40) (o % 0x40)).map fun x => (x, s) := by
  unfold State.tuRead
  dsimp only
  repeat rw [if_neg (by omega)]
  rw [if_pos ⟨hlow, hhigh⟩]

/-- TU_INCR_INT is written by a transport that may tune the clock (R270). -/
theorem tuWrite_incrInt (htune : s.mayTune t = true) : s.tuWrite t 0x20018 v = s.incrInt v := by
  simp [State.tuWrite, State.tuRead, htune]

/-- CAP_POP of a TIME_IO pin is open to every transport (R284). -/
theorem tuWrite_capPop (k : Fin 6) : s.tuWrite t (0x20228 + 0x40 * k.val) v = .next (s.capPop k.val v) := by
  obtain ⟨o, ho⟩ : ∃ o, 0x20228 + 0x40 * k.val - 0x20000 = o := ⟨_, rfl⟩
  have hpin : (o - 0x200) / 0x40 = k.val := by omega
  have hword : o % 0x40 = 0x28 := by omega
  have hread : (s.tuRead t o).isNone = false := by
    rw [tuRead_io s t (by omega) (by omega), hword]
    rfl
  unfold State.tuWrite
  dsimp only
  rw [ho, hread, if_neg Bool.false_ne_true]
  repeat rw [if_neg (by omega)]
  rw [if_pos (by omega), if_neg (by omega), if_pos hword, hpin]

/-- What a read of TU_NOW_LO latches for transport `t`: the high half of the count and the fraction (R270). -/
def TimeUnit.latchNow (u : TimeUnit) (t : Nat) : TimeUnit :=
  { u with latch := vset u.latch t { hi := BitVec.ofNat 32 (u.ns / 2 ^ 32), frac := BitVec.ofNat 32 u.frac } }

theorem tuRead_nowLo : s.tuRead t 8 = some (s.time.ns % 2 ^ 32, s.modTime fun u => u.latchNow t.val) := rfl

end

/-- A word made of a value holds the value's low four bytes. -/
theorem wordBytes_ofNat (v : Nat) : wordBytes (BitVec.ofNat 32 v) = leBytes 4 (v % 2 ^ 32) := rfl

/-- The latches of TU_NOW_LO's other readers stay. -/
theorem TimeUnit.latchNow_other (u : TimeUnit) {t r : Transport} (h : r ≠ t) :
    vget (u.latchNow t.val).latch r.val = vget u.latch r.val :=
  vget_vmod_other u.latch _ (Fin.val_ne_of_ne h.symm)

/-- TU_NOW_LO_READ answers the low half of the count and latches the rest. -/
theorem exec_tuNowLoRead {s : State} {t : Transport} (hreach : s.reaches t = true) :
    exec (.tuNowLoRead t) s =
      .next ((s.modTime fun u => u.latchNow t.val).emit (.readData t (wordBytes (BitVec.ofNat 32 s.time.ns)))) := by
  have hread := windowRead_tu s t (a := 0x20008) (by decide) (by decide) (by decide) (tuRead_nowLo s t)
  change execTuNowLoRead t s = _
  rw [execTuNowLoRead, if_pos hreach, hread, wordBytes_ofNat]

/-- Settles O35: the read goes through the window to the time unit's page, and there writes its reader's latch alone. -/
theorem nowReadLatchesForItsReader : Obligations.NowReadLatchesForItsReader := by
  intro s t hreach _
  have hlatch : vget (s.time.latchNow t.val).latch t.val =
      { hi := BitVec.ofNat 32 (s.time.ns / 2 ^ 32), frac := BitVec.ofNat 32 s.time.frac } :=
    vget_vset_same s.time.latch _ t.isLt
  exact ⟨_, exec_tuNowLoRead hreach, rfl, congrArg NowLatch.hi hlatch, congrArg NowLatch.frac hlatch,
    fun _ hu => s.time.latchNow_other hu, rfl⟩

end Sys2Proof.Machine

/-! The increment of the local clock (R267, R271), by register and by command. -/

namespace Sys2Proof.Machine

theorem leNat_lt (bs : Bytes) : leNat bs < 256 ^ bs.length := by
  induction bs with
  | nil => decide
  | cons b bs ih =>
    have hb : b.toNat < 256 := b.isLt
    rw [leNat, List.length_cons, Nat.pow_succ]
    omega

theorem le_lt (p : Bytes) (off len : Nat) : le p off len < 256 ^ len :=
  Nat.lt_of_lt_of_le (leNat_lt _) (Nat.pow_le_pow_right (by decide) (List.length_take_le len _))

theorem byteAt_lt (p : Bytes) (off : Nat) : byteAt p off < 256 := (p.getD off 0).isLt

/-- A transport that may tune the clock writes TU_INCR_INT through the window. -/
theorem exec_tuIncrIntWrite {s : State} {t : Transport} (v : Word) (hreach : s.reaches t = true) (htune : s.mayTune t = true) :
    exec (.tuIncrIntWrite t v) s = s.incrInt v :=
  (wordWrite_tu s t v hreach (by decide) (by decide) (by decide)).trans (tuWrite_incrInt s t v htune)

section
variable {s : State} {n : Slot} {tag : Half} {p : Bytes} (h : s.admitted cmdTimeSetRate n.val tag p = true)
include h

/-- After TIME_SET_RATE the integer part of the increment is byte 0 of the command (R286). -/
theorem penyen_timeSetRate_int : (penyen cmdTimeSetRate n.val tag p s).time.nextIncr.toNat / 2 ^ 32 = byteAt p 0 := by
  have hincr : (penyen cmdTimeSetRate n.val tag p s).time.nextIncr = BitVec.ofNat 40 (byteAt p 0 * 2 ^ 32 + le p 4 4) := by
    rw [penyen_done h rfl, State.answerFront_time, State.modTime_time]
  have hint := byteAt_lt p 0
  have hfrac := le_lt p 4 4
  rw [hincr, BitVec.toNat_ofNat]
  omega

theorem exec_timeSetRate_of_int_ne_zero (hint : byteAt p 0 ≠ 0) :
    exec (.timeSetRate n tag p) s = .next (s.served cmdTimeSetRate n.val tag p) := by
  rw [← penyen_admitted cmdTimeSetRate n tag p s h]
  exact if_neg fun ⟨hzero, _⟩ => hint ((penyen_timeSetRate_int h).symm.trans hzero)

theorem exec_timeSetRate_of_int_eq_zero (hint : byteAt p 0 = 0) (hwas : s.time.nextIncr.toNat / 2 ^ 32 ≠ 0) :
    exec (.timeSetRate n tag p) s = .fault .zeroIncrement :=
  if_pos ⟨(penyen_timeSetRate_int h).trans hint, hwas⟩

end

/-- Settles O36: TU_INCR_INT is written through the window, and TIME_SET_RATE leaves its byte 0 as the integer part; a 0 there stops the
machine. -/
theorem clockIncrementNeedsAnInteger : Obligations.ClockIncrementNeedsAnInteger := by
  intro s t v n tag p
  exact ⟨exec_tuIncrIntWrite v, exec_timeSetRate_of_int_ne_zero, exec_timeSetRate_of_int_eq_zero⟩

end Sys2Proof.Machine

/-! Synchronisation epochs (R273): what a new epoch leaves of the time unit. -/

namespace Sys2Proof.Machine

section
variable (s : State)

@[simp] theorem State.storeEvent_time (n : Nat) (entry : Bytes) : (s.storeEvent n entry).time = s.time :=
  State.setCause_time _ n 1

@[simp] theorem State.sendEnvelope_time (n flags : Nat) (msg : Bytes) : (s.sendEnvelope n flags msg).time = s.time := by
  unfold State.sendEnvelope
  split <;> rfl

/-- An event goes out as an envelope, is lost, or is stored in the ring: none of it writes to the time unit. -/
@[simp] theorem State.event_time (n ev : Nat) (data : Bytes) : (s.event n ev data).time = s.time := by
  unfold State.event
  dsimp only
  split
  · exact State.sendEnvelope_time _ n 3 _
  · split
    · rfl
    · exact State.storeEvent_time _ n _

/-- A new epoch is counted, and its one step of the clock is free again. -/
theorem State.newEpoch_time (cause : Nat) :
    (s.newEpoch cause).time = { s.time with epoch := s.time.epoch + 1, stepped := false, stepLocked := false } :=
  State.event_time _ 0 0x0801 _

theorem gptp_newEpoch (cause i : Nat) : (s.newEpoch cause).gptp i = s.gptp i :=
  (congrArg (fun u : TimeUnit => vget u.inst i) (s.newEpoch_time cause)).trans rfl

theorem gptp_modGptp_same (i : Fin 4) (f : Gptp → Gptp) : (s.modGptp i.val f).gptp i.val = f (s.gptp i.val) :=
  vget_vmod_same s.time.inst i.val f i.isLt

end

end Sys2Proof.Machine

/-! The rows of the time unit. -/

namespace Sys2Proof.Machine

/-- CAP_POP with bit 0 set removes the oldest capture of its pin (R284). -/
theorem captures_capPop (s : State) (k : Fin 6) {v : Word} (hv : v.getLsbD 0 = true) :
    (vget (s.capPop k.val v).time.io k.val).captures = (vget s.time.io k.val).captures.drop 1 := by
  rw [State.capPop, if_pos hv, State.modTime_time, vget_vmod_same _ _ _ k.isLt]

theorem exec_capPopWrite {s : State} {t : Transport} (k : Fin 6) (v : Word) (hreach : s.reaches t = true) :
    exec (.capPopWrite t k v) s = .next (s.capPop k.val v) :=
  (wordWrite_tu s t v hreach (by omega) (by omega) (by omega)).trans (tuWrite_capPop s t v k)

/-- The filter ends for the edge that waits, once the pin has held its level (R284). -/
theorem exec_captureFilterEnd_of_waiting {s : State} {k : Fin 6} {c : Capture} (b : Bool)
    (hwait : (vget s.time.io k.val).waiting = some c) (hheld : (vget s.time.io k.val).held s.tick = true) :
    exec (.captureFilterEnd k b) s = .next (s.filterEnd k.val b c) := by
  change execCaptureFilterEnd k b s = _
  simp only [execCaptureFilterEnd, hwait, hheld, if_true]

/-- Who drives the local clock sends its Sync one-step (R283). -/
theorem exec_syncTransmit_of_driving {s : State} {i : Fin 4} {p : Port} (hmaster : s.masterOn i.val p.val = true)
    (hdrives : s.time.driving i.val = true) : exec (.syncTransmit i p) s = .next (s.sendGptp p.val 44 true) := by
  change execSyncTransmit i p s = _
  rw [execSyncTransmit, if_pos hmaster, if_pos hdrives]

/-- PDELAY_EXCHANGE with a measured delay stores it at its port (R277). -/
theorem exec_pdelayExchange_measured {s : State} (p : Port) (d : Nat) (hrun : s.running = true) :
    exec (.pdelayExchange p d false) s =
      .next (s.modTime fun u => { u with ports := vmod u.ports p.val fun x => { x with linkDelay := d } }) := by
  change execPdelayExchange p d false s = _
  rw [execPdelayExchange, if_neg (by simp [hrun]), if_neg Bool.false_ne_true]

/-- Another grandmaster identity, where gPTP drives the clock, begins an epoch (R273). -/
theorem exec_grandmasterChange_of_driven {s : State} {gm : DWord} (hrun : s.running = true) (hsource : s.time.source = 1)
    (hgm : (s.gptp s.time.driver.toNat).gm ≠ gm) :
    exec (.grandmasterChange gm) s =
      .next ((s.modGptp s.time.driver.toNat fun x => { x with gm := gm }).newEpoch 2) :=
  congrArg Host.Outcome.next (if_pos (by simp [hrun, hsource, hgm]))

/-- Settles O38: under its own condition each row answers its step; a popped capture, a measured link delay and a new grandmaster are
read back where they are kept. -/
theorem timeRowsAct : Obligations.TimeRowsAct := by
  intro s t n k i p b v gm d rate
  refine ⟨fun hen hdue => ?alarm, fun hbank hcapture => ?edge, fun c hwait hheld => exec_captureFilterEnd_of_waiting b hwait hheld,
    fun hreach hv => ⟨_, exec_capPopWrite k v hreach, captures_capPop s k hv⟩, fun hrunning hinside => ?pulse, fun htakes => ?sync,
    fun hrun hmaster hlocked => ?timeout, fun hmaster hdrives => exec_syncTransmit_of_driving hmaster hdrives,
    fun hrun => ⟨_, exec_pdelayExchange_measured p d hrun, ?delay⟩,
    fun hrun hsource hgm => ⟨_, exec_grandmasterChange_of_driven hrun hsource hgm, ?epoch, ?identity⟩⟩
  case alarm => exact congrArg Host.Outcome.next (if_pos ⟨hen, hdue⟩)
  case edge => exact congrArg Host.Outcome.next (if_pos ⟨hbank, hcapture⟩)
  case pulse => exact congrArg Host.Outcome.next (if_pos (by simp [hrunning, hinside]))
  case sync => exact congrArg Host.Outcome.next (if_pos htakes)
  case timeout => exact congrArg Host.Outcome.next (if_pos ⟨hrun, by simp [hmaster], .inr hlocked⟩)
  case delay => rw [State.modTime_time, vget_vmod_same _ _ _ p.isLt]
  case epoch => exact congrArg TimeUnit.epoch (State.newEpoch_time _ 2)
  case identity =>
    rw [gptp_newEpoch]
    exact congrArg Gptp.gm (gptp_modGptp_same s ⟨s.time.driver.toNat, s.time.driver.isLt⟩ _)

end Sys2Proof.Machine

/-! What messages and events leave alone (R39, R76, R78): all of the state but the slots, what PCIe holds back, the mailbox memory, what
was sent, and the frames that wait to enter the fabric. -/

namespace Sys2Proof.Machine

/-- The state with everything blanked that a message or an event of a slot may write. -/
def State.unheard (s : State) : State :=
  { s with slots := default, pcie := Pcie.reset, ram := [], out := [], net := { s.net with outbox := [] } }

section
variable (s : State)

@[simp] theorem State.modSlot_unheard (n : Nat) (f : SlotRec → SlotRec) : (s.modSlot n f).unheard = s.unheard := rfl
@[simp] theorem State.modStats_unheard (n : Nat) (f : SlotStats → SlotStats) : (s.modStats n f).unheard = s.unheard := rfl
@[simp] theorem State.modFn_unheard (f : Nat) (g : PcieFn → PcieFn) : (s.modFn f g).unheard = s.unheard := rfl
@[simp] theorem State.emit_unheard (o : Out) : (s.emit o).unheard = s.unheard := rfl

@[simp] theorem State.message_unheard (n v : Nat) : (s.message n v).unheard = s.unheard := by
  unfold State.message State.msixSend
  dsimp only
  (repeat' split) <;> simp

@[simp] theorem State.setCause_unheard (n c : Nat) : (s.setCause n c).unheard = s.unheard :=
  (forAll_keeps _ _ State.unheard fun v u => by split <;> simp).trans (s.modSlot_unheard n _)

@[simp] theorem State.sendEnvelope_unheard (n flags : Nat) (msg : Bytes) : (s.sendEnvelope n flags msg).unheard = s.unheard := by
  unfold State.sendEnvelope
  split
  · exact s.modSlot_unheard n _
  · rfl

@[simp] theorem State.storeEvent_unheard (n : Nat) (entry : Bytes) : (s.storeEvent n entry).unheard = s.unheard := by
  unfold State.storeEvent
  simp only [State.setCause_unheard, State.modStats_unheard, State.modSlot_unheard]
  rfl

/-- An event goes out as an envelope, is lost, or is stored in the ring. -/
@[simp] theorem State.event_unheard (n ev : Nat) (data : Bytes) : (s.event n ev data).unheard = s.unheard := by
  unfold State.event
  dsimp only
  (repeat' split) <;> simp

@[simp] theorem State.eventTwo_unheard (a b ev : Nat) (data : Bytes) : (s.eventTwo a b ev data).unheard = s.unheard := by
  unfold State.eventTwo
  dsimp only
  split <;> simp

@[simp] theorem State.event_can (n ev : Nat) (data : Bytes) : (s.event n ev data).can = s.can :=
  (congrArg State.can (s.event_unheard n ev data) :)
@[simp] theorem State.event_power (n ev : Nat) (data : Bytes) : (s.event n ev data).power = s.power :=
  (congrArg State.power (s.event_unheard n ev data) :)
@[simp] theorem State.eventTwo_meas (a b ev : Nat) (data : Bytes) : (s.eventTwo a b ev data).meas = s.meas :=
  (congrArg State.meas (s.eventTwo_unheard a b ev data) :)

end

end Sys2Proof.Machine

/-! The health of the backbone's members, its probes and its protection (R288 to R303). -/

namespace Sys2Proof.Machine

theorem recovery_modRecs_same (s : State) (i : Nat) (f : Recovery → Recovery) :
    (s.modRed fun r => { r with recs := tmod r.recs i Recovery.blank f }).recovery i = f (s.recovery i) :=
  tgetD_tset_same s.net.red.recs i _ Recovery.blank

theorem recovery_count (s : State) (k : Ctr) (n i : Nat) : (s.count k n).recovery i = s.recovery i :=
  congrArg (fun x : Net => tgetD x.red.recs i Recovery.blank) (s.count_net k n)

/-- Settles O34: under its own condition each row answers its step; a recovery function whose reset timer has expired reads back as one
that takes any sequence number. -/
theorem redundancyRowsAct : Obligations.RedundancyRowsAct := by
  intro s i p flags seq
  refine ⟨fun hen => ⟨_, congrArg Host.Outcome.next (if_pos hen), ?reset⟩, fun hrun hsecond => ?report, fun hprobe hup => ?send,
    fun hup => ?receive, fun hprobe => ?miss, fun hup hlow => ?sqi, fun hwait => ?restored⟩
  case reset => rw [recovery_count, recovery_modRecs_same]
  case report => exact congrArg Host.Outcome.next (if_pos ⟨hrun, hsecond⟩)
  case send => exact congrArg Host.Outcome.next (if_pos ⟨hprobe, hup⟩)
  case receive => exact congrArg Host.Outcome.next (if_pos hup)
  case miss => exact congrArg Host.Outcome.next (if_pos hprobe)
  case sqi => exact congrArg Host.Outcome.next (if_pos ⟨hup, hlow⟩)
  case restored => exact congrArg Host.Outcome.next (if_pos hwait)

end Sys2Proof.Machine

/-! The identifier that a route writes (R379). -/

namespace Sys2Proof.Machine

/-- Settles O42: each bit of the identifier is decided by its bit of RW_MASK; bits above 29 are cut off. -/
theorem routeRewritesOnlyMaskedBits : Obligations.RouteRewritesOnlyMaskedBits := by
  intro r id i
  simp only [rewrittenId, Nat.testBit_or, Nat.testBit_xor, Nat.testBit_and, Nat.testBit_mod_two_pow]
  by_cases hlow : i < 30
  · cases hmask : (le r 20 4).testBit i <;> simp [hlow]
  · simp [hlow]

end Sys2Proof.Machine

/-! Receive entries released by their consumer (R343, R357). -/

namespace Sys2Proof.Machine

theorem state_take (s : State) (n : Slot) (op tag : Half) (p : Bytes) (now : Option Answer) :
    ((s.take n.val op tag p now).slot n.val).state = (s.slot n.val).state := by
  unfold State.take State.modStats
  dsimp only
  split <;> split <;> simp

theorem sleep_asTaken (s : State) (c : Cmd) (n : Nat) (tag : Half) (p : Bytes) : (s.asTaken c n tag p).sleep = s.sleep := by
  rw [s.asTaken_frame]
  rfl

theorem state_asTaken (s : State) (c : Cmd) (n : Slot) (tag : Half) (p : Bytes) :
    ((s.asTaken c n.val tag p).slot n.val).state = (s.slot n.val).state := by
  unfold State.asTaken
  split
  · rw [slot_serveSlot, state_take]
  · rw [slot_serveSlot]

/-- Whether a slot admits an opcode (R65, check 5) depends on its state and on the sleep sequence; taking a request changes neither. -/
theorem admits_asTaken (s : State) (c : Cmd) (n : Slot) (tag : Half) (p : Bytes) (op : Nat) :
    admits (s.asTaken c n.val tag p) n.val op = admits s n.val op := by
  simp only [admits, prepareAdmits, state_asTaken, sleep_asTaken]

section
variable {s : State} {c : Cmd} {n : Slot} {tag : Half} {p : Bytes}

/-- An admitted command whose own checks do not depend on its being taken runs now. -/
theorem runsNow_of_admitted (h : s.admitted c n.val tag p = true)
    (hcheck : c.check (s.asTaken c n.val tag p) n.val p = c.check s n.val p) : runsNow c n.val tag p s = true := by
  simp only [State.admitted, State.passes, State.turnOf, Bool.and_eq_true] at h
  obtain ⟨⟨⟨⟨hrun, hturn⟩, hfront⟩, hrefusal⟩, -⟩ := h
  have hsame : c.refusal (s.asTaken c n.val tag p) n.val (s.excusedAt n.val) p = c.refusal s n.val (s.excusedAt n.val) p := by
    simp only [Cmd.refusal, hcheck, admits_asTaken, prepareAdmits, sleep_asTaken]
  rw [hsame] at hrefusal
  unfold State.excusedAt at hrefusal
  rw [runsNow, hrun, hturn]
  cases hflight : (s.slot n.val).inFlight with
  | nil =>
    simp only [hflight] at hfront hrefusal
    simp only [hfront, hrefusal, Bool.and_self]
  | cons f fs =>
    simp only [hflight] at hfront hrefusal
    simp only [hfront, hrefusal, Bool.and_self]

/-- A row that stops the machine where its admitted command would run on entries that are not its own, and else runs as its command
does. -/
theorem fault_or_served {e : Fault} (owned : Bool) (h : s.admitted c n.val tag p = true)
    (hcheck : c.check (s.asTaken c n.val tag p) n.val p = c.check s n.val p) :
    (if (runsNow c n.val tag p s && !owned) = true then .fault e else .next (penyen c n.val tag p s) : Res) =
      if owned = true then .next (s.served c n.val tag p) else .fault e := by
  rw [runsNow_of_admitted h hcheck, penyen_admitted c n tag p s h]
  cases owned <;> rfl

end

/-- Settles O40: both releases check their source's record, its owner and their own fields alone, so that an admitted one runs now, and
whether its entries are its own decides. -/
theorem onlyOwnedEntriesAreReleased : Obligations.OnlyOwnedEntriesAreReleased := by
  intro s n tag p
  refine ⟨fun h => fault_or_served _ h ?can, fun h => fault_or_served _ h ?serial⟩
  all_goals
    rw [s.asTaken_frame]
    rfl

end Sys2Proof.Machine

/-! The rows of the CAN channels (R330 to R354). -/

namespace Sys2Proof.Machine

section
variable {s : State} {c : CanCh}

@[simp] theorem canCh_modCan_same (f : CanChan → CanChan) : (s.modCan c.val f).canCh c.val = f (s.canCh c.val) :=
  vget_vmod_same s.can c.val f c.isLt

theorem canCh_canEvent (a cause i : Nat) : (s.canEvent a cause).canCh i = s.canCh i :=
  congrArg (fun v => vget v i) (s.event_can _ _ _)

theorem canCh_count (k : Ctr) (n i : Nat) : (s.count k n).canCh i = s.canCh i :=
  congrArg (fun v => vget v i) (s.count_can k n)

/-- Only a channel that leaves NORMAL empties its slots (R327): one that returns from RECOVERING changes its state alone (R349). -/
theorem canTo_normal_of_recovering (cause : Nat) (h : (s.canCh c.val).state = .recovering) :
    s.canTo c.val .normal cause =
      (s.modCan c.val fun x => { x with state := .normal, receiving := false }).canEvent c.val cause := by
  simp [State.canTo, h]

/-- After recovery the channel is in NORMAL with its error counters at 0 (R349). -/
theorem canCh_canRecovered (h : (s.canCh c.val).state = .recovering) :
    (s.canRecovered c.val).canCh c.val =
      { s.canCh c.val with tec := 0, rec_ := 0, state := .normal, receiving := false } := by
  have hstate : (((s.count (.can c.val .recoveries)).modCan c.val fun x => { x with tec := 0, rec_ := 0 }).canCh c.val).state =
      .recovering := by
    rw [canCh_modCan_same, canCh_count, h]
  rw [State.canRecovered, canTo_normal_of_recovering 2 hstate, canCh_canEvent, canCh_modCan_same, canCh_modCan_same, canCh_count]

theorem exec_canProtocolException_xl (hhears : s.canHears c.val = true) (hxl : canXl (s.canCh c.val).record = false)
    (hpex : bitOf (byteAt (s.canCh c.val).record 0) 2 = true) :
    exec (.canProtocolException c true) s =
      .next ((s.count (.can c.val .pexEvents)).modCan c.val (fun x => { x with receiving := false })) := by
  change execCanProtocolException c true s = _
  simp only [execCanProtocolException, hhears, hxl, hpex, if_true, Bool.not_false, Bool.and_self]

/-- Detection goes on to its next candidate (R351). -/
theorem exec_canDetectDwellEnd_of_more {d : Detect} (hstate : (s.canCh c.val).state = .detecting)
    (hdetect : (s.canCh c.val).detect = some d) (hmore : d.current + 1 < d.candidates.length) :
    exec (.canDetectDwellEnd c) s =
      .next (s.modCan c.val fun x => { x with detect := some { d with current := d.current + 1 } }) := by
  change execCanDetectDwellEnd c s = _
  simp only [execCanDetectDwellEnd, hstate, hdetect, if_pos hmore]

theorem exec_dominantTimeout_of_bus (hon : (s.canCh c.val).state ≠ .off) :
    exec (.dominantTimeout c false) s = .next (s.count (.can c.val .busDominant)) := by
  change execDominantTimeout c false s = _
  rw [execDominantTimeout, if_neg hon, if_neg Bool.false_ne_true]

end

/-- Settles O39: under its own condition each row answers its step of the channel; a launch instant that is reached, counters cleared by
recovery and the next candidate of detection are read back at the channel. -/
theorem canRowsAct : Obligations.CanRowsAct := by
  intro s c f sof b kind o
  refine ⟨rfl, fun hhears hxl hpex => exec_canProtocolException_xl hhears hxl hpex, fun hhears => ?error, rfl, fun hnormal => ?load,
    ⟨_, rfl, ?launch, rfl⟩, rfl, rfl,
    fun hstate hvcc5 hseg => ⟨_, congrArg Host.Outcome.next (if_pos ⟨hstate, hvcc5, hseg⟩), ?tec, ?rec⟩,
    fun d hstate hdetect hmore => ⟨_, exec_canDetectDwellEnd_of_more hstate hdetect hmore, ?candidate, rfl⟩,
    fun hon => exec_dominantTimeout_of_bus hon, rfl⟩
  case error => exact congrArg Host.Outcome.next (if_pos hhears)
  case load => exact congrArg Host.Outcome.next (if_pos hnormal)
  case launch => rw [canCh_modCan_same]
  case tec => rw [canCh_canRecovered hstate]
  case rec => rw [canCh_canRecovered hstate]
  case candidate => rw [canCh_modCan_same]

end Sys2Proof.Machine

/-! The rows of the LIN and UART channels (R356 to R370). -/

namespace Sys2Proof.Machine

theorem linCh_modLin_same (s : State) (c : LinCh) (f : LinChan → LinChan) : (s.modLin c.val f).linCh c.val = f (s.linCh c.val) :=
  vget_vmod_same s.lin c.val f c.isLt

theorem uartCh_modUart_same (s : State) (c : UartCh) (f : UartChan → UartChan) :
    (s.modUart c.val f).uartCh c.val = f (s.uartCh c.val) := vget_vmod_same s.uart c.val f c.isLt

/-- Settles O41: under its own condition each row answers its step of the channel; a schedule that starts again after a wake, and a message
whose access wait has ended, are read back at the channel. -/
theorem linAndUartRowsAct : Obligations.LinAndUartRowsAct := by
  intro s c u id b data stamp e
  refine ⟨fun hmaster => ?schedule, rfl, rfl, rfl, fun hactive hslave hidle => ?idle, fun hwatches hwake => ?wake,
    fun hresuming => ⟨_, rfl, ?resumed, ?entry, rfl⟩, rfl,
    fun hbank hj1708 hactive hwanted hqueue => ⟨_, rfl, ?sending, rfl⟩, rfl, rfl, rfl⟩
  case schedule => exact congrArg Host.Outcome.next (if_pos hmaster)
  case idle => exact congrArg Host.Outcome.next (if_pos ⟨hactive, by simp [hslave], hidle⟩)
  case wake => exact congrArg Host.Outcome.next (if_pos (by rw [hwatches, hwake]; rfl))
  case resumed => rw [linCh_modLin_same, if_pos hresuming]
  case entry => rw [linCh_modLin_same, if_pos hresuming]
  case sending => rw [uartCh_modUart_same, if_pos (by simp [hbank, hj1708, hactive, hwanted, hqueue])]

end Sys2Proof.Machine

/-! The rows of the relay engines, their checks and tunnels (R371 to R415). -/

namespace Sys2Proof.Machine

section
variable {s : State} {e : Engine}

theorem engine_modEngine_same (f : EngineRec → EngineRec) : (s.modEngine e.val f).engine e.val = f (s.engine e.val) :=
  vget_vmod_same s.relay.engines e.val f e.isLt

/-- An open debugger reaches an engine while firmware runs (R411). -/
theorem exec_debuggerWrite_engine (a : DebugAction) (hopen : s.debugOpen = true) (hrun : s.running = true) :
    exec (.debuggerWrite (.engine e) a) s = .next (s.debugEngine e.val a) :=
  congrArg Host.Outcome.next (if_neg (by simp [hopen, hrun]))

/-- The start of a job that is not escorted asks nothing about its snapshot (R373, R403). -/
theorem exec_relayJobStart_standard {j : RJob} (b : Bool) (hjob : ((s.startJob e.val).engine e.val).job? s.relay.nextJob = some j)
    (hstandard : j.escorted = false) : exec (.relayJobStart e b) s = .next (s.startJob e.val) := by
  change execRelayJobStart e b s = _
  simp only [execRelayJobStart, hjob, hstandard, Bool.false_and, Bool.false_eq_true, if_false]

section
variable {source : Half} {j : RJob} (hrun : s.running = true) (hfree : (s.engine e.val).halted = false)
  (hjob : s.runningJob e.val source.toNat = some j)
include hrun hfree hjob

theorem exec_checkRunEnd_of_running (strikes : List Strike) :
    exec (.checkRunEnd e source strikes) s =
      .next (if j.escorted then (s.replayWrites e.val j).escortedCheck e.val j strikes
        else (s.replayWrites e.val j).standardCheck e.val j strikes) := by
  change execCheckRunEnd e source strikes s = _
  simp only [execCheckRunEnd, hrun, hfree, hjob, Bool.not_true, Bool.or_self, Bool.false_eq_true, if_false]

theorem exec_escortedTimeout_of_running (hescorted : j.escorted = true) :
    exec (.escortedTimeout e source) s = .next (s.escortedFault e.val j 1) := by
  change execEscortedTimeout e source s = _
  simp only [execEscortedTimeout, hrun, hfree, hjob, hescorted, Bool.not_true, Bool.or_self, Bool.false_eq_true, if_false, if_true]

end

end

/-- Settles O43: under its own condition each row answers its step of a job, a check or a tunnel; an engine that the debugger halts or
releases reads back so. -/
theorem relayRowsAct : Obligations.RelayRowsAct := by
  intro s e source b strikes t bytes stamp
  refine ⟨fun hopen hrun => ⟨⟨_, exec_debuggerWrite_engine .halt hopen hrun, ?halted, rfl⟩,
      ⟨_, exec_debuggerWrite_engine .release hopen hrun, ?released, rfl⟩⟩,
    fun j hjob hstandard => exec_relayJobStart_standard b hjob hstandard,
    fun j hrun hfree hjob => ⟨exec_checkRunEnd_of_running hrun hfree hjob strikes, exec_escortedTimeout_of_running hrun hfree hjob⟩,
    fun htesting => ?selfTest, rfl, fun hrun => ?tunnelFrame⟩
  case halted => exact congrArg EngineRec.halted (engine_modEngine_same _)
  case released => exact congrArg EngineRec.halted (engine_modEngine_same _)
  case selfTest => exact congrArg Host.Outcome.next (if_pos htesting)
  case tunnelFrame => exact congrArg Host.Outcome.next (if_pos hrun)

end Sys2Proof.Machine

/-! The crypto direct interface (R433 to R435). -/

namespace Sys2Proof.Machine

section
variable (s : State)

/-! Using a key writes to the key store and to counters: the cipher engine is as it was. -/

theorem State.putDerived_crypt (i : Nat) (parent : Bytes) : (s.putDerived i parent).2.crypt = s.crypt := by
  unfold State.putDerived
  dsimp only
  split
  · rfl
  · exact State.count_crypt _ _ _

/-- A key is computed after its DEFINED ancestors. -/
theorem State.computeKey_crypt (i fuel : Nat) : (s.computeKey i fuel).2.crypt = s.crypt := by
  induction fuel generalizing s i with
  | zero => rfl
  | succ fuel ih =>
    unfold State.computeKey
    dsimp only
    split
    · rfl
    · split
      · exact s.putDerived_crypt i _
      · split
        · rfl
        · split
          · rfl
          · have hparent := ih s (s.keyOf i).parent
            split
            · next h => rwa [h] at hparent
            · next h =>
              rw [h] at hparent
              exact (State.putDerived_crypt _ i _).trans hparent

theorem State.staleUse_crypt (a : Answer) : (s.staleUse a).crypt = s.crypt := by
  unfold State.staleUse
  split
  · exact s.count_crypt _ _
  · rfl

theorem State.useKey_crypt (host : Option Nat) (i use : Nat) (algs : List Nat) : (s.useKey host i use algs).2.crypt = s.crypt := by
  have hkey := s.computeKey_crypt i 9
  unfold State.useKey
  extract_lets k masked
  split
  · rfl
  · split
    · exact s.staleUse_crypt stKeyStale
    · split
      · next h =>
        rw [h] at hkey
        exact (State.staleUse_crypt _ _).trans hkey
      · next h => rwa [h] at hkey

/-! The lock. -/

/-- Who holds the lock. -/
def Cdi.lock (c : Cdi) : Bool × Transport := (c.owned, c.owner)

/-- Opening an operation leaves the lock with its holder. -/
theorem State.cdiOpen_lock : s.cdiOpen.crypt.cdi.lock = s.crypt.cdi.lock := by
  unfold State.cdiOpen
  extract_lets c u mode i
  split
  · rfl
  · next n _ =>
    have huse : (u.useKey (some n) i (modeUse mode) (modeAlgs mode)).2.crypt.cdi.lock = s.crypt.cdi.lock :=
      (congrArg (fun x : Crypt => x.cdi.lock) (u.useKey_crypt (some n) i (modeUse mode) (modeAlgs mode)) :)
    split
    · next h =>
      rw [h] at huse
      exact huse
    · next h =>
      rw [h] at huse
      dsimp only
      rw [State.count_crypt]
      exact huse

/-- Neither GO nor the checks of its block pass the lock on (R434). -/
theorem State.cdiGo_lock : s.cdiGo.crypt.cdi.lock = s.crypt.cdi.lock := by
  unfold State.cdiGo
  split
  · rfl
  · extract_lets u c b
    have hopen : u.crypt.cdi.lock = s.crypt.cdi.lock := by
      unfold u
      split
      · rfl
      · exact s.cdiOpen_lock
    split
    · exact hopen
    · split
      · rw [State.count_crypt]
        exact hopen
      · exact hopen

/-! The registers. -/

variable {s} {t : Transport} (v : Word)

/-- While firmware runs, a 32-bit write in the page of the CDI is a write of the interface. -/
theorem regWrite_cdi {a : Nat} (hlow : 0x30000 ≤ a) (hhigh : a < 0x40000) : s.regWrite t a v = s.cdiWrite t a v := by
  unfold State.regWrite
  repeat rw [if_neg (by omega)]
  rw [if_pos hhigh]

theorem wordWrite_cdi {a : Nat} (hreach : s.reaches t = true) (hlow : 0x30000 ≤ a) (hhigh : a < 0x40000) (h4 : a % 4 = 0) :
    s.wordWrite t a v = s.cdiWrite t a v := by
  rw [wordWrite_reg s t a v hreach hhigh h4, regWrite_cdi v hlow hhigh]

theorem cdiWrite_lock (hrun : s.running = true) : s.cdiWrite t 0x30000 v = .next (cdiLockWrite t v s) := by
  simp [State.cdiWrite, cdiHas, hrun]

theorem cdiWrite_keysel (hrun : s.running = true) : s.cdiWrite t 0x30004 v = cdiKeyselWrite t v s := by
  simp [State.cdiWrite, cdiHas, hrun]

theorem cdiWrite_ctrl (hrun : s.running = true) : s.cdiWrite t 0x30008 v = cdiCtrlWrite t v s := by
  simp [State.cdiWrite, cdiHas, hrun]

theorem cdiWrite_din (hrun : s.running = true) : s.cdiWrite t 0x30020 v = cdiDataWrite t 0x20 v s := by
  simp [State.cdiWrite, cdiHas, hrun]

/-- An access of the holder acts. -/
theorem cdiHeld_of_holder {f : State → State} (h : s.cdiHolder t = true) : cdiHeld t f s = .next (f s) := if_pos h

/-- An access of any other transport is undefined (R435), and the machine stops. -/
theorem cdiHeld_of_not_holder {f : State → State} (h : s.cdiHolder t = false) : cdiHeld t f s = .fault .cdiMisuse :=
  if_neg (by simp [h])

/-- A free lock goes to the transport that asks for it. -/
theorem cdiLockWrite_acquire (hfree : s.crypt.cdi.owned = false) :
    cdiLockWrite t 1 s = s.modCdi fun c => { c with owned := true, owner := t } := by
  simp [cdiLockWrite, hfree]

theorem cdiLockWrite_release (h : s.cdiHolder t = true) : cdiLockWrite t 2 s = s.cdiRelease := by
  simp [cdiLockWrite, h]

end

/-- GO leaves the lock with its holder, whatever the other fields of CDI_CTRL are written to. -/
theorem cdiCtrlWrite_go_lock {s : State} {t : Transport} (v : Word) (h : s.cdiHolder t = true) :
    ∃ q, cdiCtrlWrite t (v ||| 1) s = .next q ∧ q.crypt.cdi.lock = s.crypt.cdi.lock := by
  refine ⟨_, cdiHeld_of_holder h, ?_⟩
  dsimp only
  split
  · refine (State.cdiGo_lock _).trans ?_
    split <;> rfl
  · split <;> rfl

/-- ABORT without GO ends the operation (R433). -/
theorem cdiCtrlWrite_abort {s : State} {t : Transport} {v : Word} (h : s.cdiHolder t = true) (hgo : v.getLsbD 0 = false) :
    ∃ q, cdiCtrlWrite t (v ||| 8) s = .next q ∧ q.crypt.cdi.active = false ∧ q.crypt.cdi.job = none := by
  refine ⟨_, cdiHeld_of_holder h, ?_⟩
  have habort : (v ||| 8).getLsbD 3 = true := by simp
  have hnoGo : (v ||| 8).getLsbD 0 = false := by
    rw [BitVec.getLsbD_or, hgo]
    rfl
  simp only [habort, hnoGo, if_true, Bool.false_eq_true, if_false]
  exact ⟨rfl, rfl⟩

/-- Settles O44: each row writes its register through the window's CDI page, and there the lock decides; what the holder's writes leave is
read back at the interface. -/
theorem cdiIsItsHoldersAlone : Obligations.CdiIsItsHoldersAlone := by
  intro s t v hreach hrun
  have hwrite {a : Nat} (w : Word) (hlow : 0x30000 ≤ a) (hhigh : a < 0x40000) (h4 : a % 4 = 0) :
      s.wordWrite t a w = s.cdiWrite t a w := wordWrite_cdi w hreach hlow hhigh h4
  have hlock (w : Word) : s.wordWrite t 0x30000 w = .next (cdiLockWrite t w s) :=
    (hwrite w (by decide) (by decide) (by decide)).trans (cdiWrite_lock w hrun)
  have hkeysel : exec (.cdiKeyselWrite t v) s = cdiKeyselWrite t v s :=
    (hwrite v (by decide) (by decide) (by decide)).trans (cdiWrite_keysel v hrun)
  have hctrl (w : Word) : s.wordWrite t 0x30008 w = cdiCtrlWrite t w s :=
    (hwrite w (by decide) (by decide) (by decide)).trans (cdiWrite_ctrl w hrun)
  refine ⟨fun hfree => (hlock 1).trans (congrArg _ (cdiLockWrite_acquire hfree)),
    fun hholder => ⟨?release, ?keysel, ?go, fun hgo => ?abort⟩,
    fun hother => ⟨hkeysel.trans (cdiHeld_of_not_holder hother), (hctrl _).trans (cdiHeld_of_not_holder hother),
      (hctrl _).trans (cdiHeld_of_not_holder hother), ?data⟩, rfl⟩
  case release => exact (hlock 2).trans (congrArg _ (cdiLockWrite_release hholder))
  case keysel => exact ⟨_, hkeysel.trans (cdiHeld_of_holder hholder), rfl, rfl, rfl⟩
  case go =>
    obtain ⟨q, hq, hlocked⟩ := cdiCtrlWrite_go_lock v hholder
    obtain ⟨howned, howner⟩ : s.crypt.cdi.owned = true ∧ s.crypt.cdi.owner = t := by simpa [State.cdiHolder] using hholder
    exact ⟨q, (hctrl _).trans hq, (congrArg Prod.fst hlocked).trans howned, (congrArg Prod.snd hlocked).trans howner⟩
  case abort =>
    obtain ⟨q, hq, hended⟩ := cdiCtrlWrite_abort hholder hgo
    exact ⟨q, (hctrl _).trans hq, hended⟩
  case data =>
    rw [exec_registerWrite_word s t 0x30020 v hreach (by decide) (by decide), regWrite_cdi v (by decide) (by decide),
      cdiWrite_din v hrun]
    exact cdiHeld_of_not_holder hother

end Sys2Proof.Machine

/-! The rows of the Drover, of measurement and of link partners (R494 to R509). -/

namespace Sys2Proof.Machine

section
variable (s : State) (p : Port)

theorem partner_modPartner_same (f : Partner → Partner) : (s.modPartner p.val f).partner p.val = f (s.partner p.val) :=
  vget_vmod_same s.meas.partners p.val f p.isLt

@[simp] theorem State.sendLldp_meas (k : Nat) : (s.sendLldp k).meas = s.meas := by
  unfold State.sendLldp State.sendAgent
  split <;> rfl

@[simp] theorem State.partnerEvent_meas (k cause : Nat) : (s.partnerEvent k cause).meas = s.meas :=
  s.eventTwo_meas _ _ _ _

end

/-- The record of a partner that LLDP has described (R498, R499). -/
def Partner.heardAs (x : Partner) (c i : Bytes) (ttl tick now : Nat) : Partner :=
  { x with
    lldpSeen := true, chassis := c.take 16, portId := i.take 16, ttl := ttl % 65536, heard := tick
    changed := if (x.chassis == c.take 16 && x.portId == i.take 16) ∧ x.lldpSeen then x.changed else now }

/-- What LLDP brings is stored, whether or not the identity is new and is told (R498). -/
theorem exec_lldpReceive_of_up {s : State} {p : Port} (c i : Bytes) (ttl : Nat) (hrun : s.running = true) (hup : s.isUp p.val = true) :
    ∃ q, exec (.lldpReceive p c i ttl) s = .next q ∧ q.partner p.val = (s.partner p.val).heardAs c i ttl s.tick s.now := by
  refine ⟨_, congrArg Host.Outcome.next (if_neg (by simp [hrun, hup])), ?_⟩
  extract_lets c' i' x same u
  have hstored : u.partner p.val = (s.partner p.val).heardAs c i ttl s.tick s.now := partner_modPartner_same s p _
  split
  · exact hstored
  · have hkept : ((u.partnerEvent p.val 0).sendLldp p.val).meas = u.meas := by simp
    exact (congrArg (fun m : Meas => vget m.partners p.val) hkept).trans hstored

/-- Information that has aged out goes with its identity (R498). -/
theorem exec_lldpTtlExpiry_of_lost {s : State} {p : Port} (hrun : s.running = true) (hlost : (s.partner p.val).lost s.tick = true) :
    ∃ q, exec (.lldpTtlExpiry p) s = .next q ∧
      q.partner p.val = { s.partner p.val with lldpSeen := false, chassis := [], portId := [], ttl := 0, changed := s.now } := by
  refine ⟨_, congrArg Host.Outcome.next (if_pos (by simp [hrun, hlost])), ?_⟩
  exact (congrArg (fun m : Meas => vget m.partners p.val) (State.partnerEvent_meas _ p.val 1)).trans (partner_modPartner_same s p _)

/-- Without firmware only the die sensors convert (R47, R494). -/
theorem exec_measurementSample_of_not_running {s : State} (x : Sample) (hdie : s.pd0.die = true) (hrun : s.running = false) :
    exec (.measurementSample x) s = .next { s with pws := { s.pws with
      sensor := BitVec.ofNat 3 (hottest x.temps).1, tjMax := BitVec.ofInt 16 (hottest x.temps).2 } } := by
  change Host.Outcome.next (s.sample x) = _
  unfold State.sample
  rw [if_neg (by simp [hdie])]
  extract_lets h w u v
  have hu : u.running = false := hrun
  have hv : v = u := if_neg (by rw [hu]; decide)
  rw [if_pos (by rw [hv, hu]; rfl), hv]

/-- Settles O48: under its own condition each row answers its step; what LLDP brings, and what goes with it, is read back in the partner's
record. -/
theorem measurementRowsAct : Obligations.MeasurementRowsAct := by
  intro s load b x p c i ttl
  refine ⟨fun hrun => congrArg Host.Outcome.next (if_pos hrun), fun hdie hrun => exec_measurementSample_of_not_running x hdie hrun,
    fun hrun hup => ?receive, fun hrun hlost => ?expiry⟩
  case receive =>
    obtain ⟨q, hq, hpartner⟩ := exec_lldpReceive_of_up c i ttl hrun hup
    exact ⟨q, hq, by rw [hpartner]; exact ⟨rfl, rfl, rfl, rfl⟩⟩
  case expiry =>
    obtain ⟨q, hq, hpartner⟩ := exec_lldpTtlExpiry_of_lost hrun hlost
    exact ⟨q, hq, by rw [hpartner]; exact ⟨rfl, rfl⟩⟩

end Sys2Proof.Machine

/-! What stands outside the fabric: the registers of the power domains, camera power and the PHYs. The rules about which of the shared
operations leave it alone, and what a change of a link writes there. -/

namespace Sys2Proof.Machine

/-- The registers of the power domains, the camera power of the ports, and the PHYs. -/
def State.plant (s : State) : Pws × Vector Podl 12 × Vector Phy 25 := (s.pws, s.net.podl, s.net.phys)

theorem pws_of_plant {s u : State} (h : u.plant = s.plant) : u.pws = s.pws := congrArg Prod.fst h
theorem podl_of_plant {s u : State} (h : u.plant = s.plant) : u.net.podl = s.net.podl := congrArg (fun x => x.2.1) h
theorem phys_of_plant {s u : State} (h : u.plant = s.plant) : u.net.phys = s.net.phys := congrArg (fun x => x.2.2) h

@[simp] theorem plant_ite (c : Prop) [Decidable c] (a b : State) : (if c then a else b).plant = if c then a.plant else b.plant :=
  apply_ite State.plant c a b

section
variable (s : State)

@[simp] theorem forAll_plant {α : Type} (l : List α) {f : α → State → State} (h : ∀ a (u : State), (f a u).plant = u.plant) :
    (forAll l f s).plant = s.plant := forAll_keeps s l State.plant h

/-! Counters, events and answers. -/

@[simp] theorem State.count_plant (k : Ctr) (n : Nat) : (s.count k n).plant = s.plant := by
  unfold State.count
  split <;> rfl

@[simp] theorem State.emit_plant (o : Out) : (s.emit o).plant = s.plant := rfl
@[simp] theorem State.freeBytes_plant (n : Nat) : (s.freeBytes n).2.plant = s.plant := rfl
@[simp] theorem State.modSlot_plant (n : Nat) (f : SlotRec → SlotRec) : (s.modSlot n f).plant = s.plant := rfl

@[simp] theorem State.event_plant (n ev : Nat) (data : Bytes) : (s.event n ev data).plant = s.plant :=
  (congrArg State.plant (s.event_unheard n ev data) :)

@[simp] theorem State.eventTwo_plant (a b ev : Nat) (data : Bytes) : (s.eventTwo a b ev data).plant = s.plant :=
  (congrArg State.plant (s.eventTwo_unheard a b ev data) :)

@[simp] theorem State.finishJob_plant (n : Nat) (tag op status : Half) (result : Bytes) :
    (s.finishJob n tag op status result).plant = s.plant := by
  unfold State.finishJob
  dsimp only
  split <;> simp

@[simp] theorem State.answerFront_plant (n : Nat) (a : Answer) : (s.answerFront n a).plant = s.plant := by
  rw [s.answerFront_frame]
  rfl

@[simp] theorem State.answerStarted_plant (n : Nat) (tag op : Half) (a : Answer) : (s.answerStarted n tag op a).plant = s.plant := by
  unfold State.answerStarted
  split
  · simp
  · split <;> simp

/-! The protection unit. -/

@[simp] theorem State.modRed_plant (f : Red → Red) : (s.modRed f).plant = s.plant := rfl
@[simp] theorem State.modMember_plant (p : Nat) (f : Member → Member) : (s.modMember p f).plant = s.plant := rfl
@[simp] theorem State.noteSqi_plant (p : Nat) : (s.noteSqi p).plant = s.plant := rfl

@[simp] theorem State.redEvent_plant (ev : Nat) (data : Bytes) : (s.redEvent ev data).plant = s.plant :=
  forAll_plant s _ fun n u => by split <;> simp

@[simp] theorem State.protTo_plant (st : ProtState) (onB : Bool) (found : Option Nat) : (s.protTo st onB found).plant = s.plant := by
  unfold State.protTo
  dsimp only
  split
  · rfl
  · cases found <;> simp

@[simp] theorem State.protect_plant : s.protect.plant = s.plant := by
  unfold State.protect
  dsimp only
  (repeat' split) <;> simp

@[simp] theorem State.judgeMembers_plant : s.judgeMembers.plant = s.plant :=
  (State.protect_plant _).trans (forAll_plant s _ fun p u => by dsimp only; split <;> simp)

/-! The buffer. -/

@[simp] theorem State.modQueue_plant (p tc : Nat) (f : Queue → Queue) : (s.modQueue p tc f).plant = s.plant := rfl
@[simp] theorem State.modEgr_plant (p : Nat) (f : Egress → Egress) : (s.modEgr p f).plant = s.plant := rfl
@[simp] theorem State.modFrame_plant (id : Nat) (f : Frame → Frame) : (s.modFrame id f).plant = s.plant := rfl
@[simp] theorem State.chargeCells_plant (ingress : Nat) (reserve : Bool) (n : Int) :
    (s.chargeCells ingress reserve n).plant = s.plant := rfl
@[simp] theorem State.addDepth_plant (p tc : Nat) (n : Int) : (s.addDepth p tc n).plant = s.plant := rfl

@[simp] theorem State.settleFrame_plant (fid : Nat) : (s.settleFrame fid).plant = s.plant := by
  unfold State.settleFrame
  split
  · rfl
  · dsimp only
    (repeat' split) <;> rfl

@[simp] theorem State.endShaperHold_plant (p tc : Nat) : (s.endShaperHold p tc).plant = s.plant := by
  unfold State.endShaperHold
  split <;> simp

@[simp] theorem State.freeWaybill_plant (w : Waybill) : (s.freeWaybill w).plant = s.plant := by
  unfold State.freeWaybill
  rw [State.settleFrame_plant, State.addDepth_plant, State.modQueue_plant]
  exact (plant_ite _ _ s).trans (by simp)

@[simp] theorem State.dropCopy_plant (w : Waybill) (ds : Nat) : (s.dropCopy w ds).plant = s.plant := by simp [State.dropCopy]
@[simp] theorem State.countCopy_plant (w : Waybill) (k : Ctr) : (s.countCopy w k).plant = s.plant := by simp [State.countCopy]

@[simp] theorem State.flushPort_plant (p : Nat) : (s.flushPort p).plant = s.plant := by simp [State.flushPort, State.flushCopies]

@[simp] theorem State.abortLine_plant (p : Nat) : (s.abortLine p).plant = s.plant := by
  unfold State.abortLine
  dsimp only
  (repeat' split) <;> simp

@[simp] theorem State.egressDown_plant (p ms : Nat) : (s.egressDown p ms).plant = s.plant := by simp [State.egressDown]

/-! Links (R307, R309). -/

@[simp] theorem State.touchPartner_plant (p : Nat) : (s.touchPartner p).plant = s.plant := rfl
@[simp] theorem State.dropPartner_plant (p : Nat) : (s.dropPartner p).plant = s.plant := rfl

/-- What a change of a PHY leaves of the plant depends on the plant alone. -/
theorem State.modPhy_plant (p : Nat) (f : Phy → Phy) :
    (s.modPhy p f).plant = (s.plant.1, s.plant.2.1, vmod s.plant.2.2 p f) := rfl

/-- A change of link state writes the PHY's state, its instant and its index, and nothing else of the plant. -/
theorem State.linkTo_plant {p : Nat} {st : LinkState} (cause flags : Nat) (h : (s.phy p).link ≠ st) :
    (s.linkTo p st cause flags).plant =
      (s.modPhy p fun x => { x with link := st, changed := s.now, sqi := if st = .up then x.sqi else 0 }).plant := by
  unfold State.linkTo
  rw [if_neg h]
  simp

/-- What the next attempt of a link begins with once the link has gone down (R307, R309). -/
def Phy.rested (x : Phy) (p cause : Nat) : Phy :=
  { x with tryRate := rateOf p (byteAt x.mode 1), attempts := 0, fast := false, mayFast := true, byCommand := cause == 0 }

/-- Of the plant a link that goes down writes its PHY alone: its state, the instant, its index, and what its next attempt begins
with. -/
theorem State.linkDown_plant {p : Nat} {st : LinkState} (cause hold : Nat) (hup : s.isUp p = true) (hp : p < 25) (hst : st ≠ .up) :
    (s.linkDown p st cause hold).plant =
      (s.modPhy p fun x => { x.rested p cause with link := st, changed := (s.egressDown p hold).now, sqi := 0 }).plant := by
  have hlink : (s.phy p).link = .up := by simpa [State.isUp] using hup
  unfold State.linkDown
  extract_lets was u v w
  have hv : v = s.egressDown p hold := (if_neg (by simp [was, hlink])).trans (if_pos (.inl hlink))
  have hw : w = (s.egressDown p hold).modPhy p fun x => x.rested p cause := by
    rw [← hv]
    simp [w, was, hlink, Phy.rested]
  have hplant : (s.egressDown p hold).plant = s.plant := s.egressDown_plant p hold
  have hstill : (w.phy p).link ≠ st := by
    rw [hw, State.phy, State.modPhy, State.modNet_net, vget_vmod_same _ _ _ hp, phys_of_plant hplant]
    exact fun h => hst (h.symm.trans hlink)
  rw [State.linkTo_plant w cause 0 hstill, hw]
  simp only [State.modPhy_plant, hplant, vmod_vmod, if_neg hst]
  rfl

end

end Sys2Proof.Machine

/-! A link that goes down (R307, R309, R311). -/

namespace Sys2Proof.Machine

/-- Settles O32: of its PHY a link that goes down keeps the mode record. -/
theorem linkDownLeavesTheLinkDown : Obligations.LinkDownLeavesTheLinkDown := by
  intro s p hup
  have hphys := phys_of_plant (s.linkDown_plant 1 (s.linkHold p.val) hup p.isLt (show LinkState.down ≠ .up by decide))
  have hphy : (s.linkDown p.val .down 1 (s.linkHold p.val)).phy p.val = _ :=
    (congrArg (vget · p.val) hphys).trans (phy_modPhy_same s p _)
  refine ⟨_, congrArg Host.Outcome.next (if_pos hup), ?_⟩
  rw [hphy]
  exact ⟨rfl, rfl, rfl, rfl⟩

end Sys2Proof.Machine

/-! Which operations leave the power domains' registers alone. -/

namespace Sys2Proof.Machine

section
variable (s : State)

/-! Links that train. -/

theorem State.linkTo_pws (p : Nat) (st : LinkState) (cause flags : Nat) : (s.linkTo p st cause flags).pws = s.pws := by
  by_cases h : (s.phy p).link = st
  · rw [State.linkTo, if_pos h]
  · exact (pws_of_plant (s.linkTo_plant cause flags h)).trans rfl

theorem State.trainNow_pws (p cause : Nat) : (s.trainNow p cause).pws = s.pws := s.linkTo_pws p _ _ _

theorem State.startTraining_pws (p cause : Nat) : (s.startTraining p cause).pws = s.pws := by
  unfold State.startTraining
  dsimp only
  split
  · exact State.linkTo_pws _ p _ _ _
  · exact State.trainNow_pws _ p _

/-! Channels that leave OFF (R458, R460). -/

@[simp] theorem State.modCan_plant (c : Nat) (f : CanChan → CanChan) : (s.modCan c f).plant = s.plant := rfl
@[simp] theorem State.modLin_plant (c : Nat) (f : LinChan → LinChan) : (s.modLin c f).plant = s.plant := rfl
@[simp] theorem State.modUart_plant (c : Nat) (f : UartChan → UartChan) : (s.modUart c f).plant = s.plant := rfl
@[simp] theorem State.segMark_plant (n : Nat) (st : SegState) : (s.segMark n st).plant = s.plant := rfl
@[simp] theorem State.canEvent_plant (c cause : Nat) : (s.canEvent c cause).plant = s.plant := s.event_plant _ _ _

@[simp] theorem State.segEvent_plant (n : Nat) (st : SegState) (cause : Nat) : (s.segEvent n st cause).plant = s.plant :=
  s.eventTwo_plant _ _ _ _

@[simp] theorem State.segSettle_plant : s.segSettle.plant = s.plant := forAll_plant _ _ fun _ u => u.finishJob_plant _ _ _ _ _

@[simp] theorem State.canTo_plant (c : Nat) (st : CanState) (cause : Nat) : (s.canTo c st cause).plant = s.plant := by
  simp [State.canTo]

@[simp] theorem State.linTo_plant (c st cause segCause : Nat) : (s.linTo c st cause segCause).plant = s.plant := by
  simp [State.linTo]

/-- Each change of state that waits is made and answered, refused, or stays. -/
@[simp] theorem State.applyWaiting_plant (c k : Nat) : (s.applyWaiting c k).plant = s.plant := by
  induction k generalizing s with
  | zero => rfl
  | succ k ih =>
    unfold State.applyWaiting
    split
    · rfl
    · simp [ih]

@[simp] theorem State.applyLinWaiting_plant (c k : Nat) : (s.applyLinWaiting c k).plant = s.plant := by
  induction k generalizing s with
  | zero => rfl
  | succ k ih =>
    unfold State.applyLinWaiting
    split
    · rfl
    · simp [ih]

@[simp] theorem State.applyUartWaiting_plant (c k : Nat) : (s.applyUartWaiting c k).plant = s.plant := by
  induction k generalizing s with
  | zero => rfl
  | succ k ih =>
    unfold State.applyUartWaiting
    split
    · rfl
    · simp [ih]

@[simp] theorem State.applyWanted_plant (c : Nat) : (s.applyWanted c).plant = s.plant := s.applyWaiting_plant c _
@[simp] theorem State.applyLin_plant (c : Nat) : (s.applyLin c).plant = s.plant := s.applyLinWaiting_plant c _
@[simp] theorem State.applyUart_plant (c : Nat) : (s.applyUart c).plant = s.plant := s.applyUartWaiting_plant c _

theorem State.edgesWake_pws : s.edgesWake.pws = s.pws := by
  have h : s.edgesWake.plant = s.plant := by simp [State.edgesWake]
  exact pws_of_plant h

/-! The account of power (R464, R469). -/

theorem State.overCeiling_pws (cause : Nat) : (s.overCeiling cause).pws = s.pws := pws_of_plant (s.event_plant _ _ _)

theorem State.checkBaseline_pws : s.checkBaseline.pws = s.pws := by
  unfold State.checkBaseline
  dsimp only
  split
  · exact (State.overCeiling_pws _ 0).trans (State.count_pws _ (.pwr .baselineOver) 1)
  · rfl

/-- The registers with bit `d` of PWS_DOMAINS set or cleared. -/
theorem State.domainTo_pws (d : Nat) (on : Bool) :
    (s.domainTo d on).pws = { s.pws with domains := BitVec.ofNat 13 (setBit s.pws.domains.toNat d on) } :=
  (State.checkBaseline_pws _).trans (State.setCauseAll_pws _ 6)

end

/-- The bit that `setBit` writes. -/
theorem testBit_setBit (m i : Nat) (b : Bool) : (setBit m i b).testBit i = b := by
  cases b
  case true => simp [setBit]
  case false =>
    cases h : m.testBit i
    case false => simp [setBit, h]
    case true =>
      have hodd : m / 2 ^ i % 2 = 1 := by simpa [Nat.testBit_eq_decide_div_mod_eq] using h
      have hless : (m - 2 ^ i) / 2 ^ i = m / 2 ^ i - 1 := by simpa using Nat.sub_mul_div m (2 ^ i) 1
      simp only [setBit, h, Bool.false_eq_true, if_false, if_true, Nat.testBit_eq_decide_div_mod_eq, hless]
      exact decide_eq_false (by omega)

end Sys2Proof.Machine

/-! The rows of the Tollgate and of camera power (R316 to R320, R457 to R470). -/

namespace Sys2Proof.Machine

section
variable {s : State}

/-- Bit `d` of PWS_DOMAINS after a change of the domain. -/
theorem domains_domainTo (d : Fin 13) (on : Bool) : (s.domainTo d.val on).pws.domains.getLsbD d.val = on := by
  rw [State.domainTo_pws, BitVec.getLsbD_ofNat, testBit_setBit, decide_eq_true d.isLt, Bool.true_and]

/-- The guard's check stores the mean of the powers that it judges (R465). -/
theorem exec_guardCheck_of_running (hrun : s.running = true) :
    ∃ q, exec .guardCheck s = .next q ∧
      q.power.measured = s.meas.history.foldl (· + ·) 0 / (10 * s.meas.history.length) := by
  refine ⟨_, congrArg Host.Outcome.next (if_neg (by simp [hrun])), ?_⟩
  extract_lets n sum c was on u v
  have hv : v.power.measured = sum / (10 * n) := congrArg Power.measured (State.count_power u _ _)
  split
  · exact hv
  · exact (congrArg Power.measured (v.event_power _ _ _)).trans hv

theorem exec_domainOffTimer_of_unneeded {d : Fin 13} (hrun : s.running = true) (hneed : s.domainNeeded d.val = false)
    (hon : s.pws.domains.getLsbD d.val = true) :
    ∃ q, exec (.domainOffTimer d) s = .next q ∧ q.pws.domains.getLsbD d.val = false := by
  refine ⟨_, congrArg Host.Outcome.next (if_pos (by rw [hrun, hneed, hon]; rfl)), ?_⟩
  dsimp only
  split <;> exact domains_domainTo d false

/-- What waited for a domain starts after it is up, and leaves it up (R458). -/
theorem exec_domainUp_of_needed {d : Fin 13} (hrun : s.running = true) (hneed : s.domainNeeded d.val = true)
    (hoff : s.pws.domains.getLsbD d.val = false) :
    ∃ q, exec (.domainUp d) s = .next q ∧ q.pws.domains.getLsbD d.val = true := by
  refine ⟨_, congrArg Host.Outcome.next (if_pos (by rw [hrun, hneed, hoff]; rfl)), ?_⟩
  extract_lets u v
  have hv : v.pws = u.pws := forAll_keeps _ _ State.pws fun p w => by
    split
    · exact w.startTraining_pws p 5
    · rfl
  have hend : (if 11 ≤ d.val then v.edgesWake else v).pws = u.pws := by
    split
    · exact v.edgesWake_pws.trans hv
    · exact hv
  rw [hend]
  exact domains_domainTo d true

theorem podlOf_count (k : Ctr) (n p : Nat) : (s.count k n).podlOf p = s.podlOf p :=
  congrArg (fun x : Net => vget x.podl (p - 5)) (s.count_net k n)

/-- Of camera power a link that goes down changes nothing. -/
theorem podl_linkDown {p : Nat} {st : LinkState} (cause hold : Nat) (hup : s.isUp p = true) (hp : p < 25) (hst : st ≠ .up) :
    (s.linkDown p st cause hold).net.podl = s.net.podl :=
  (podl_of_plant (s.linkDown_plant cause hold hup hp hst)).trans rfl

/-- A port that drives its camera's supply is in the state that it changes to, if it is another one (R317). -/
theorem state_podlTo {k : Fin 12} {st : PodlState} (cause : Nat) (hdrives : (s.podlOf (k.val + 5)).state.drives = true)
    (hst : (s.podlOf (k.val + 5)).state ≠ st) : ((s.podlTo (k.val + 5) st cause).podlOf (k.val + 5)).state = st := by
  have hwait : (s.podlOf (k.val + 5)).state ≠ .inrushWait := fun h => absurd hdrives (by rw [h]; decide)
  unfold State.podlTo
  extract_lets was a b c d
  have hb : b = a := if_neg hwait
  have hc : c.plant = a.plant := by
    unfold c
    rw [hb]
    split <;> simp
  have hd : d.net.podl = a.net.podl := podl_of_plant ((c.event_plant _ _ _).trans hc)
  have ha : (vget a.net.podl k.val).state = st := congrArg Podl.state (vget_vmod_same s.net.podl k.val _ k.isLt)
  rw [if_neg hst]
  split
  · next h =>
    obtain ⟨-, -, hup⟩ := h
    rw [State.podlOf, podl_linkDown 3 _ hup (by omega) (by decide), hd]
    exact ha
  · rw [State.podlOf, hd]
    exact ha

end

/-- Settles O46: under its own condition each row answers its step; the guard's mean, a domain that has gone off or come up, and a
camera port's fault are read back where they are kept. -/
theorem powerRowsAct : Obligations.PowerRowsAct := by
  intro s d k b cur fail
  refine ⟨fun hrun => ?tick, fun hrun => exec_guardCheck_of_running hrun,
    fun hrun hneed hon => exec_domainOffTimer_of_unneeded hrun hneed hon,
    fun hrun hneed hoff => exec_domainUp_of_needed hrun hneed hoff,
    fun hrun htest => ?memTest, rfl, rfl,
    fun hdrives => ⟨_, congrArg Host.Outcome.next (if_pos hdrives), ?fault⟩, fun hpowered => ?overload⟩
  case tick => exact congrArg Host.Outcome.next (if_pos hrun)
  case memTest => exact congrArg Host.Outcome.next (if_pos (by simp only [hrun, htest, Bool.and_self]))
  case fault =>
    have hsame : (s.count (.phy (k.val + 5) (podlCtr (if b then 5 else 1)))).podlOf (k.val + 5) = s.podlOf (k.val + 5) :=
      podlOf_count _ _ _
    exact state_podlTo _ (by rw [hsame]; exact hdrives) (by rw [hsame]; exact fun h => absurd hdrives (by rw [h]; decide))
  case overload => exact congrArg Host.Outcome.next (if_pos ⟨hpowered, .inl rfl⟩)

end Sys2Proof.Machine
